-- ==== Sys2Proof/Word.lean ====
section
/-! DEFINITION. The words the part counts and sends in, and banks of like things numbered from 0. -/

namespace Sys2Proof

/-- A character's value on the line, or a byte of the identity memory. -/
abbrev Byte := BitVec 8
/-- A 16-bit count (sequence numbers, details). -/
abbrev Word16 := BitVec 16
/-- A 32-bit count, stamp or serial. -/
abbrev Word32 := BitVec 32

/-- `n` like things, numbered 0 to `n - 1` (00_scope.md 3.3). -/
structure Bank (α : Type) (n : Nat) where
  cells : List α
  size_eq : cells.length = n
  deriving DecidableEq, Repr

variable {α β : Type} {n : Nat}

def Bank.get (b : Bank α n) (i : Fin n) : α :=
  b.cells[i.val]'(by rw [b.size_eq]; exact i.isLt)

def Bank.set (b : Bank α n) (i : Fin n) (v : α) : Bank α n :=
  ⟨b.cells.set i.val v, by rw [List.length_set, b.size_eq]⟩

def Bank.modify (b : Bank α n) (i : Fin n) (f : α → α) : Bank α n :=
  b.set i (f (b.get i))

def Bank.ofFn (f : Fin n → α) : Bank α n :=
  ⟨List.ofFn f, by simp⟩

def Bank.replicate (n : Nat) (v : α) : Bank α n :=
  ⟨List.replicate n v, by simp⟩

def Bank.map (f : α → β) (b : Bank α n) : Bank β n :=
  ⟨b.cells.map f, by rw [List.length_map, b.size_eq]⟩

/-- A history's push: the newest enters at the end, the oldest goes (R42, R61, R88). -/
def Bank.push (b : Bank α n) (v : α) : Bank α n :=
  ⟨(b.cells ++ [v]).drop 1, by simp [b.size_eq]⟩

def Bank.ofList (n : Nat) (l : List α) (h : l.length = n) : Bank α n := ⟨l, h⟩

/-- Increment a saturating counter whose top is `top` (00_scope.md 3.2). -/
def satInc (top v : Nat) : Nat := min top (v + 1)

/-- Clamp to a range (00_scope.md 3.2). -/
def clampInt (lo hi v : Int) : Int := if v < lo then lo else if hi < v then hi else v

end Sys2Proof
end

