-- ==== Sys2Proof/Config.lean ====
section
/-! DEFINITION. What the part fixes (lengths of its fixed timers, thresholds, sizes), and the one value the
spec leaves open. -/

namespace Sys2Proof.Config

/-- The accumulated RUN seconds an expiry leaves when the count stands at its top, 4294967295. The spec gives the
field 32 bits and says neither that it wraps nor that it saturates (R140, 00_scope.md 3.2): a FREE VALUE, one for
each use (log 8). -/
opaque runSecondsPastTop : Nat → Word32

/-- R5 -/
def seatMakeMs : Nat := 100
/-- R6 -/
def seatOpenMs : Nat := 10
/-- R7 -/
def identityAttemptMs : Nat := 40
/-- R7 -/
def identityWaitMs : Nat := 10
/-- R7 -/
def identityAttempts : Nat := 3
/-- R27: the identity memory's address on the local two-wire bus -/
def identityDevice : Nat := 0x50
/-- R27: the offset the read starts at -/
def identityOffset : Nat := 0
/-- R27: the bytes one attempt reads -/
def identityBytes : Nat := 302
/-- R17 -/
def drainMs : Nat := 2000
/-- R52 -/
def drainStepMs : Nat := 250
/-- R57 -/
def blankingMs : Nat := 20
/-- R142, in seconds -/
def creditSeconds : Nat := 1
/-- R49 -/
def railFaultRun : Nat := 50
/-- R42 -/
def railTopMv : Nat := 16000
/-- R42 -/
def railTopMa : Nat := 40000
/-- R61 -/
def socketTopMa : Nat := 4000
/-- 4.4: the warning threshold of the fault counter -/
def warnAt : Nat := 96
/-- 4.4: the soft trip threshold -/
def softTripAt : Nat := 128
/-- R71 -/
def retryCounter : Nat := 64
/-- R110 -/
def vectorSlots : Nat := 8192
/-- R110 -/
def frameLimit : Nat := 32
/-- R152 -/
def logLimit : Nat := 64
/-- R153 -/
def logHighWater : Nat := 48
/-- R171 -/
def unansweredLimit : Nat := 4
/-- R167 -/
def bodyLimit : Nat := 248

end Sys2Proof.Config
end

