-- ==== Sys2Proof/Syntax.lean ====
section
/-! DEFINITION. The commands: one constructor per row of spec/opcode_table.json, with the operands the spec's
text gives each event. -/

namespace Sys2Proof

/-- How a frame's address was accepted (R166). -/
inductive FilterHit
  | unit | group | broadcast
  deriving DecidableEq, Repr

/-- A qualifier of a request's body (R169). -/
inductive Qualifier
  | target (operand : Byte) | atBoundary | quiet
  deriving DecidableEq, Repr

/-- What a frame of a catalogued kind carries besides its kind: how it was accepted, its qualifiers in order, and
its payload (R169). -/
structure Request where
  hit : FilterHit
  quals : List Qualifier
  payload : List Byte
  deriving DecidableEq, Repr

/-- The strap pins, read at the start of every reset (R165). -/
structure Straps where
  slot : BitVec 5
  rate : BitVec 2
  deriving DecidableEq, Repr

/-- The level of the safety chain (R9). -/
inductive ChainLevel
  | opened | made
  deriving DecidableEq, Repr

/-- One rail's measurement at a sampling instant (R45). -/
structure RailReading where
  mv : Nat
  ma : Nat
  deriving DecidableEq, Repr

/-- How an identity attempt's transfer ends: the device does not acknowledge, or the bytes have been read (R27). -/
inductive BusRead
  | noAcknowledge | bytes (image : List Byte)
  deriving DecidableEq, Repr

/-- A character on the line: eight data bits, the address mark, and whether its stop bit is there (R165). -/
structure LineChar where
  value : Byte
  mark : Bool
  stopOk : Bool
  deriving DecidableEq, Repr

/-- The commands. The message kinds carry a `Request` (log 6). -/
inductive Instr
  /-- R24 -/
  | powerOn (straps : Straps)
  /-- R24 -/
  | pinReset (straps : Straps)
  /-- R25 -/
  | restartShutOff (straps : Straps)
  /-- R5, R6: the two contacts' levels after the change, true for made -/
  | seatContactChange (contactA contactB : Bool)
  /-- R5 -/
  | seatMakeTimerExpiry
  /-- R6 -/
  | seatOpenTimerExpiry
  /-- R9: the chain's level after the change (log 3) -/
  | safetyChainOpen (level : ChainLevel)
  /-- R28 -/
  | identityAttemptEnd (read : BusRead)
  /-- R7 -/
  | identityAttemptTimeout
  /-- R7 -/
  | identityRetryWaitExpiry
  /-- R13 -/
  | armTimerExpiry
  /-- R18 -/
  | drainTimerExpiry
  /-- R52 -/
  | railDrainStep
  /-- R22 -/
  | linkSilenceExpiry
  /-- R45 -/
  | railSample (readings : Bank RailReading 4)
  /-- R47, R51 -/
  | settleTimerExpiry (rail : Fin 4)
  /-- R62 -/
  | socketSample (socket : Fin 48) (ma : Nat)
  /-- R57 -/
  | blankingExpiry (socket : Fin 48)
  /-- R69 -/
  | cooldownExpiry (socket : Fin 48)
  /-- R81 -/
  | controlPassStart
  /-- R82: the six sensor codes the pass has converted -/
  | controlPassComplete (codes : Bank Nat 6)
  /-- R95 -/
  | heaterPwmFrameStart
  /-- R143 -/
  | creditIntervalExpiry
  /-- R129 -/
  | vectorEnd
  /-- R136: the response lines, bit s set for a HIGH line of socket s -/
  | vectorStrobe (lines : BitVec 48)
  /-- R166, R167 -/
  | lineCharacter (char : LineChar)
  /-- R167 -/
  | lineCharacterTimeout
  /-- R168, R170 -/
  | replyStart
  /-- R168 -/
  | replyComplete
  | ping (req : Request)
  | status (req : Request)
  | release (req : Request)
  | restart (req : Request)
  | setLink (req : Request)
  | setClass (req : Request)
  | ackClasses (req : Request)
  | readUnanswered (req : Request)
  | linkStats (req : Request)
  | readIdentity (req : Request)
  | reidentify (req : Request)
  | loadRecipe (req : Request)
  | readRecipe (req : Request)
  | start (req : Request)
  | go (req : Request)
  | stop (req : Request)
  | pause (req : Request)
  | resume (req : Request)
  | clearSafe (req : Request)
  | retireSocket (req : Request)
  | setZone (req : Request)
  | setRail (req : Request)
  | setBudget (req : Request)
  | readZones (req : Request)
  | readRails (req : Request)
  | setTiming (req : Request)
  | setChannel (req : Request)
  | frameOpen (req : Request)
  | frameData (req : Request)
  | frameCancel (req : Request)
  | purgeFrames (req : Request)
  | setPlay (req : Request)
  | exerciseStart (req : Request)
  | exerciseStop (req : Request)
  | readStore (req : Request)
  | readSockets (req : Request)
  | fetchFailures (req : Request)
  | armCapture (req : Request)
  | readCapture (req : Request)
  /-- R169: a valid frame whose body is malformed or whose kind is not in the catalogue -/
  | unknownKind (hit : FilterHit) (body : List Byte)
  deriving DecidableEq, Repr

end Sys2Proof
end

