-- ==== Sys2Proof/Decode.lean ====
section
/-! DEFINITION. The table gives no row any bits, so no word spells a command (log 32). The body of a frame is the
part's own encoding of a request: its reading and writing stand here, with the frame's check. -/

namespace Sys2Proof

/-- No row of spec/opcode_table.json has bits. -/
def decodeTableWord (_nbits _w : Nat) : Option Instr := none

/-- The message kinds of the catalogue (11.5). -/
inductive Kind
  | ping | status | release | restart | setLink | setClass | ackClasses | readUnanswered | linkStats
  | readIdentity | reidentify | loadRecipe | readRecipe
  | start | go | stop | pause | resume | clearSafe | retireSocket
  | setZone | setRail | setBudget | readZones | readRails | setTiming | setChannel
  | frameOpen | frameData | frameCancel | purgeFrames | setPlay | exerciseStart | exerciseStop | readStore
  | readSockets | fetchFailures | armCapture | readCapture
  deriving DecidableEq, Repr

/-- The kind characters (11.5). -/
def Kind.code : Kind → Byte
  | .ping => 0x01 | .status => 0x02 | .release => 0x03 | .restart => 0x04 | .setLink => 0x05
  | .setClass => 0x06 | .ackClasses => 0x07 | .readUnanswered => 0x08 | .linkStats => 0x09
  | .readIdentity => 0x10 | .reidentify => 0x11 | .loadRecipe => 0x12 | .readRecipe => 0x13
  | .start => 0x18 | .go => 0x19 | .stop => 0x1A | .pause => 0x1B | .resume => 0x1C
  | .clearSafe => 0x1D | .retireSocket => 0x1E
  | .setZone => 0x20 | .setRail => 0x21 | .setBudget => 0x22 | .readZones => 0x23 | .readRails => 0x24
  | .setTiming => 0x25 | .setChannel => 0x26
  | .frameOpen => 0x28 | .frameData => 0x29 | .frameCancel => 0x2A | .purgeFrames => 0x2B
  | .setPlay => 0x2C | .exerciseStart => 0x2D | .exerciseStop => 0x2E | .readStore => 0x2F
  | .readSockets => 0x30 | .fetchFailures => 0x31 | .armCapture => 0x32 | .readCapture => 0x33

def Kind.all : List Kind :=
  [.ping, .status, .release, .restart, .setLink, .setClass, .ackClasses, .readUnanswered, .linkStats,
   .readIdentity, .reidentify, .loadRecipe, .readRecipe,
   .start, .go, .stop, .pause, .resume, .clearSafe, .retireSocket,
   .setZone, .setRail, .setBudget, .readZones, .readRails, .setTiming, .setChannel,
   .frameOpen, .frameData, .frameCancel, .purgeFrames, .setPlay, .exerciseStart, .exerciseStop, .readStore,
   .readSockets, .fetchFailures, .armCapture, .readCapture]

/-- The catalogued kind of a kind character, if any (R169, step 3). -/
def Kind.ofCode (c : Byte) : Option Kind := Kind.all.find? (fun k => k.code == c)

/-- Does the kind take a TARGET qualifier (11.5)? -/
inductive TargetUse
  | no | optional | required
  deriving DecidableEq, Repr

/-- R169: SET_ZONE and READ_SOCKETS may omit it; SET_RAIL, SET_CHANNEL and RETIRE_SOCKET require it. -/
def Kind.target : Kind → TargetUse
  | .setZone | .readSockets => .optional
  | .setRail | .setChannel | .retireSocket => .required
  | _ => .no

/-- R169, step 4: the kinds that accept AT_BOUNDARY. -/
def Kind.takesBoundary : Kind → Bool
  | .setTiming | .setChannel | .setPlay => true
  | _ => false

/-- R169, step 6: the kinds executed in HOLD. -/
def Kind.inHold : Kind → Bool
  | .ping | .status | .release | .restart | .setLink => true
  | _ => false

/-- The length a LOAD_RECIPE payload must have, by its selector character (11.5). -/
def loadLengthOk (payload : List Byte) : Bool :=
  match payload with
  | sel :: _ :: _ =>
    match sel.toNat with
    | 0 => payload.length == 24
    | 1 => payload.length == 14
    | 2 => payload.length == 10
    | 3 => payload.length == 50
    | 4 => payload.length == 6
    | 5 => payload.length == 10
    | _ => true
  | _ => false

/-- The payload lengths each kind allows (11.5). -/
def Kind.lengthOk (k : Kind) (payload : List Byte) : Bool :=
  let n := payload.length
  match k with
  | .setLink => n == 5
  | .setClass => n == 2
  | .ackClasses => 2 ≤ n && n ≤ 24 && n % 2 == 0
  | .linkStats => n == 1
  | .readIdentity => n == 3
  | .loadRecipe => loadLengthOk payload
  | .readRecipe => n == 2
  | .start => n == 1
  | .setZone => n == 8
  | .setRail => n == 2
  | .setBudget => n == 2
  | .setTiming => n == 4
  | .setChannel => n == 8
  | .frameOpen => n == 6
  | .frameData => 6 ≤ n && n ≤ 195 && n % 3 == 0
  | .frameCancel => n == 1
  | .setPlay => n == 3
  | .readStore => n == 1
  | .readSockets => n == 1
  | .fetchFailures => n == 1
  | .armCapture => n == 4
  | .readCapture => n == 2
  | _ => n == 0

/-- What the qualifiers and the kind character of a body read as. `kindChar` is the character in the kind
position, if the body reaches one; `badQualifier` tells of a code other than the three, or a fifth. -/
structure BodyHead where
  quals : List Qualifier
  count : Nat
  foreign : Bool
  kindChar : Option Byte
  payload : List Byte
  short : Bool
  deriving DecidableEq, Repr

/-- Read a body from its first character (R169). The first character below 0xF0 in the qualifier position is the
kind; a TARGET takes the next character as its operand, the other codes take none (log 20). -/
def readBody (fuel : Nat) (body : List Byte) : BodyHead :=
  match fuel, body with
  | 0, _ => ⟨[], 0, false, none, [], true⟩
  | _ + 1, [] => ⟨[], 0, false, none, [], true⟩
  | fuel + 1, c :: rest =>
    if c < 0xF0 then ⟨[], 0, false, some c, rest, false⟩
    else if c = 0xF1 then
      match rest with
      | [] => ⟨[], 1, false, none, [], true⟩
      | t :: rest' =>
        let h := readBody fuel rest'
        { h with quals := .target t :: h.quals, count := h.count + 1 }
    else if c = 0xF2 then
      let h := readBody fuel rest
      { h with quals := .atBoundary :: h.quals, count := h.count + 1 }
    else if c = 0xF3 then
      let h := readBody fuel rest
      { h with quals := .quiet :: h.quals, count := h.count + 1 }
    else
      let h := readBody fuel rest
      { h with count := h.count + 1, foreign := true }

/-- Read a whole body. -/
def parseBody (body : List Byte) : BodyHead := readBody (body.length + 1) body

/-- A qualifier's characters (R169). -/
def Qualifier.chars : Qualifier → List Byte
  | .target t => [0xF1, t]
  | .atBoundary => [0xF2]
  | .quiet => [0xF3]

/-- The body of a request of a kind (R169). -/
def encodeBody (k : Kind) (r : Request) : List Byte :=
  r.quals.flatMap Qualifier.chars ++ k.code :: r.payload

/-- The operand of the last TARGET, if one stands among the qualifiers (R169). -/
def lastTarget : List Qualifier → Option Byte
  | [] => none
  | .target t :: rest => (lastTarget rest).or (some t)
  | _ :: rest => lastTarget rest

/-- One bit of the CRC of 11.2: polynomial 0x1021. -/
def crcBit (crc : Word16) : Word16 :=
  if crc.msb then (crc <<< 1) ^^^ 0x1021 else crc <<< 1

/-- One byte of the CRC of 11.2, most significant bit first. -/
def crcByte (crc : Word16) (b : Byte) : Word16 :=
  crcBit (crcBit (crcBit (crcBit (crcBit (crcBit (crcBit (crcBit
    (crc ^^^ (b.setWidth 16 <<< 8)))))))))

/-- The CRC-16 of 11.2 and R28: initial value 0xFFFF, no final inversion. -/
def crc16 (bytes : List Byte) : Word16 := bytes.foldl crcByte 0xFFFF

end Sys2Proof
end

