-- ==== Sys2Proof/Machine/State.lean ====
section
/-! DEFINITION. Everything the spec gives the part, as plain data, block by block (00_scope.md 2.2), and its value
after power-on. INVENTORY.md lists each field with its rule. -/

namespace Sys2Proof.Machine

/-- No command of this part ends in a fault: what fails in it (a rail, a zone, a socket) is state, and a refused
request is a reply. The type is empty. -/
inductive Fault
  deriving DecidableEq, Repr

/-- Why a command has no meaning. -/
inductive Refusal
  /-- Raised by `exec`'s arms alone, for a command this model gives no meaning yet; safe. No arm raises it. -/
  | notModelled (mnemonic : String)
  deriving DecidableEq, Repr

/-- A timer is stopped (none), or running with the interval it was loaded with (log 4). -/
abbrev Timer := Option Nat

/-! ### Slot state machine (R1) -/

inductive SlotState
  | hold | empty | identifying | unidentified | ready | arming | running | draining | safe
  deriving DecidableEq, Repr

inductive EndCause
  | none | stopped | armTimeout | complete | runLimit | railFault | safetyChain | unseat | linkSilence
  deriving DecidableEq, Repr

inductive RestartCause
  | powerOn | pin | command
  deriving DecidableEq, Repr

structure SlotRec where
  state : SlotState
  endCause : EndCause
  goGiven : Bool
  paused : Bool
  armTimer : Timer
  drainTimer : Timer
  seated : Bool
  makeTimer : Timer
  openTimer : Timer
  restartCause : RestartCause
  seatA : Bool
  seatB : Bool
  chainOpen : Bool
  deriving DecidableEq, Repr

/-! ### Identity reader (R7, R26, R27) -/

/-- The identity record, held as the 302-byte memory image it was read from (R29, R173). -/
structure Identity where
  image : Bank Byte 302
  deriving DecidableEq, Repr

/-- A fitted socket's wiring (2.1). -/
structure Wire where
  rail : Fin 4
  zone : Fin 6
  deriving DecidableEq, Repr

/-- A sequential read on the local two-wire bus: the device addressed, the start offset written, and the number of
bytes then read in one transfer (R27). -/
structure BusTransfer where
  device : Nat
  offset : Nat
  length : Nat
  deriving DecidableEq, Repr

structure IdentRec where
  record : Option Identity
  attempts : Nat
  attemptTimer : Timer
  waitTimer : Timer
  deriving DecidableEq, Repr

/-! ### The stored recipe (2.2 to 2.7) -/

inductive FunctionalPolicy
  | keep | retire
  deriving DecidableEq, Repr

inductive UnderrunPolicy
  | park | repeatLast
  deriving DecidableEq, Repr

inductive PlayMode
  | stream | loop
  deriving DecidableEq, Repr

/-- R32 -/
structure General where
  target : Nat
  runLimit : Nat
  armTimeout : Nat
  autoGo : Bool
  budget : Nat
  retryLimit : Nat
  cooldown : Nat
  policy : FunctionalPolicy
  threshold : Nat
  dynamic : Bool
  underrun : UnderrunPolicy
  mode : PlayMode
  lowWater : Nat
  deriving DecidableEq, Repr

/-- R33 -/
structure RailSection where
  used : Bool
  order : Nat
  setpoint : Nat
  window : Nat
  settle : Nat
  soft : Nat
  hard : Nat
  deriving DecidableEq, Repr

/-- R34 -/
structure ZoneSection where
  setpoint : Int
  window : Nat
  margin : Nat
  kp : Nat
  ki : Nat
  deriving DecidableEq, Repr

/-- R35 -/
structure Timing where
  period : Nat
  offset : Nat
  deriving DecidableEq, Repr

inductive ChannelMode
  | vector | clock | pair | fixed
  deriving DecidableEq, Repr

/-- A park level, and what a channel output shows (R36, R134). -/
inductive Level
  | low | high | released
  deriving DecidableEq, Repr

/-- R36; also an entry of the channel run copy (R125). `fixedHigh` is the fixed level. -/
structure ChannelSection where
  mode : ChannelMode
  park : Level
  fixedHigh : Bool
  period : Nat
  high : Nat
  dead : Nat
  deriving DecidableEq, Repr

/-- R30: the 29 sections. -/
structure Recipe where
  general : Option General
  rails : Bank (Option RailSection) 4
  zones : Bank (Option ZoneSection) 6
  sockets : Option (Bank Bool 48)
  timing : Option Timing
  channels : Bank (Option ChannelSection) 16
  deriving DecidableEq, Repr

/-! ### Rail controller (R42) -/

inductive RailState
  | off | ramping | regulated | faulted
  deriving DecidableEq, Repr

structure RailRec where
  state : RailState
  used : Bool
  order : Option Nat
  setpoint : Nat
  window : Nat
  settle : Nat
  sampleV : Nat
  sampleI : Nat
  inWindow : Bool
  excursions : Word32
  outRun : Nat
  settleTimer : Timer
  history : Bank Nat 16
  regulatorOn : Bool
  reference : Nat
  deriving DecidableEq, Repr

structure RailCtl where
  rails : Bank RailRec 4
  startSeq : List (Fin 4)
  seqComplete : Bool
  drainSeq : List (Fin 4)
  drainStepTimer : Timer
  deriving DecidableEq, Repr

/-! ### Socket supervisor (R58) -/

inductive SocketState
  | vacant | off | active | warned | heldOff | isolated | retired | completed
  deriving DecidableEq, Repr

/-- The state a held-off socket left (R72). -/
inductive PriorState
  | active | warned
  deriving DecidableEq, Repr

inductive RetireCause
  | electrical | functional | operator
  deriving DecidableEq, Repr

structure SocketRec where
  state : SocketState
  prior : Option PriorState
  cause : Option RetireCause
  faultCounter : Nat
  retries : Nat
  softTrips : Nat
  hardTrips : Nat
  offCount : Word32
  blanking : Timer
  cooldown : Timer
  retryDue : Bool
  sample : Nat
  history : Bank Nat 16
  switchClosed : Bool
  deriving DecidableEq, Repr

structure Supervisor where
  sockets : Bank SocketRec 48
  softLimits : Bank Nat 4
  hardLimits : Bank Nat 4
  retryLimit : Nat
  cooldownTime : Nat
  deriving DecidableEq, Repr

/-! ### Thermal controller (R78, R81, R99) -/

inductive ZoneState
  | idle | regulating | tripped | sensorFailed
  deriving DecidableEq, Repr

structure ZoneRec where
  state : ZoneState
  setpoint : Int
  window : Nat
  margin : Nat
  kp : Nat
  ki : Nat
  code : Nat
  temperature : Option Int
  invalidRun : Nat
  inWindow : Bool
  breaches : Word32
  integrator : Nat
  u : Nat
  granted : Nat
  limited : Bool
  appliedDuty : Nat
  history : Bank (Option Int) 16
  deriving DecidableEq, Repr

/-- What a pass captures of one zone's record (R81). -/
structure ZoneCapture where
  state : ZoneState
  setpoint : Int
  window : Nat
  margin : Nat
  kp : Nat
  ki : Nat
  deriving DecidableEq, Repr

/-- What a pass captures of the identity record for one zone (R81). -/
structure ZoneBoard where
  table : Bank Int 17
  absLimit : Int
  rated : Nat
  deriving DecidableEq, Repr

/-- The control pass in flight (R81). -/
structure PassCapture where
  zones : Bank ZoneCapture 6
  board : Option (Bank ZoneBoard 6)
  budget : Nat
  deriving DecidableEq, Repr

/-- The slot budget state (R99). -/
structure BudgetRec where
  budget : Nat
  pDutUsed : Nat
  demand : Nat
  allowance : Nat
  scaled : Bool
  overRun : Nat
  hold : Bool
  deriving DecidableEq, Repr

structure Thermal where
  zones : Bank ZoneRec 6
  slotBudget : BudgetRec
  pass : Option PassCapture
  deriving DecidableEq, Repr

/-! ### Vector store (R109) -/

inductive Expectation
  | dontCare | low | high
  deriving DecidableEq, Repr

/-- A vector slot's contents: bit c of `drive` is channel c's level, set for HIGH (7.1). -/
structure StimVector where
  drive : BitVec 16
  expect : Expectation
  deriving DecidableEq, Repr

/-- A frame's status with what the status alone carries (7.1). -/
inductive FrameStatus
  | opened (received : Nat) | ready | playing (passes : Nat) | tail
  deriving DecidableEq, Repr

/-- A frame descriptor (7.1). A TAIL's passes done equal its repeat count (R117, R118). -/
structure FrameDesc where
  id : Byte
  first : Nat
  count : Nat
  repeats : Nat
  checked : Bool
  status : FrameStatus
  deriving DecidableEq, Repr

/-- A vector slot's number and what it holds. -/
abbrev SlotCell := Nat × StimVector

structure Store where
  memory : List SlotCell
  frames : List FrameDesc
  readEnd : Nat
  writeEnd : Nat
  mode : PlayMode
  lowWater : Nat
  current : Option Byte
  deriving DecidableEq, Repr

/-! ### Exerciser (R125) -/

inductive ExerState
  | idle | playing | starved | held | stopped
  deriving DecidableEq, Repr

/-- The fields SET_PLAY carries (R40). -/
structure PlaySettings where
  mode : PlayMode
  underrun : UnderrunPolicy
  lowWater : Nat
  deriving DecidableEq, Repr

/-- Settings waiting for a boundary. Each request carries all fields of its section, so "field by field" is
section by section (R135). -/
structure Settings where
  timing : Option Timing
  channels : Bank (Option ChannelSection) 16
  play : Option PlaySettings
  deriving DecidableEq, Repr

structure CompareRec where
  windowCount : Nat
  firstMismatch : Option Nat
  mismatchTotal : Nat
  functionalFails : Nat
  logged : Bool
  deriving DecidableEq, Repr

structure Exerciser where
  state : ExerState
  holdBudget : Bool
  holdPause : Bool
  holdRequested : Bool
  stopRequested : Bool
  stalls : Word32
  position : Option Nat
  timing : Timing
  channels : Bank ChannelSection 16
  dynamic : Bool
  underrun : UnderrunPolicy
  policy : FunctionalPolicy
  threshold : Nat
  boundary : Settings
  staged : Settings
  compare : Bank CompareRec 48
  vecPeriod : Nat
  vecOffset : Nat
  vector : StimVector
  strobeDue : Bool
  clockAge : Bank Nat 16
  deriving DecidableEq, Repr

/-! ### Credit unit (R140) -/

structure AccountRec where
  credited : Nat
  stamp : Option Word32
  notedOff : Word32
  deriving DecidableEq, Repr

structure CreditUnit where
  prevRun : Bool
  serial : Option Word32
  target : Nat
  runLimit : Nat
  accumulated : Word32
  currentRun : Nat
  timer : Timer
  notedExcursions : Bank Word32 4
  notedBreaches : Bank Word32 6
  notedStalls : Word32
  accounts : Bank AccountRec 48
  deriving DecidableEq, Repr

/-! ### Failure recorder (R152) -/

inductive FailureKind
  | overcurrentSoft | overcurrentHard | functional | retired | railFault | zoneTrip | sensorFail
  | safetyChain | unseat | linkSilence
  deriving DecidableEq, Repr

structure FailureEntry where
  seq : Word16
  kind : FailureKind
  socket : Option (Fin 48)
  unit : Option Nat
  stamp : Word32
  detail : Word16
  deriving DecidableEq, Repr

/-- A socket's first or last failure (R152). -/
structure FailureMark where
  kind : FailureKind
  stamp : Word32
  deriving DecidableEq, Repr

structure SocketFailures where
  first : Option FailureMark
  last : Option FailureMark
  deriving DecidableEq, Repr

structure Recorder where
  log : List FailureEntry
  nextSeq : Word16
  dropped : Nat
  marks : Bank SocketFailures 48
  deriving DecidableEq, Repr

/-! ### Notice unit (R156, R162) -/

inductive Source
  | a | b
  deriving DecidableEq, Repr

structure ClassRec where
  level : Nat
  pending : Bool
  count : Nat
  deriving DecidableEq, Repr

/-- A copied history: currents, voltages, or temperatures (R163). -/
inductive HistoryCopy
  | counts (entries : Bank Nat 16) | temperatures (entries : Bank (Option Int) 16)
  deriving DecidableEq, Repr

/-- R163: `unit` is the socket for C1, the rail or zone for C4 and C5. -/
structure Snapshot where
  cls : Fin 12
  source : Source
  unit : Nat
  stamp : Word32
  history : HistoryCopy
  deriving DecidableEq, Repr

structure Binding where
  cls : Fin 12
  source : Source
  remaining : Nat
  deriving DecidableEq, Repr

structure CaptureChannel where
  binding : Option Binding
  buffer : List Snapshot
  deriving DecidableEq, Repr

structure Notices where
  classes : Bank ClassRec 12
  threshold : Nat
  capture : Bank CaptureChannel 2
  deriving DecidableEq, Repr

/-! ### Link interface (chapter 11, R21) -/

/-- The receiver; the characters are those after the address (R166, R167). -/
inductive Receiver
  | waitAddress | receiving (hit : FilterHit) (chars : List Byte)
  deriving DecidableEq, Repr

/-- Result codes (R170). -/
inductive Result
  | ok | clamped | accepted | wrongState | badKind | badLength | badValue | badQualifier | noRoom | duplicate
  | noRecipe | noIdentity | interlock | mismatch | busy
  deriving DecidableEq, Repr

/-- A composed reply: its kind character (the request's plus 0x80), result and payload (R170). -/
structure Reply where
  kind : Byte
  result : Result
  payload : List Byte
  deriving DecidableEq, Repr

/-- The frame in hand once executed: its reply, and whether it is being sent (R168). -/
structure InHand where
  reply : Reply
  sending : Bool
  deriving DecidableEq, Repr

/-- The waiting frame (R168). -/
structure WaitingFrame where
  hit : FilterHit
  body : List Byte
  deriving DecidableEq, Repr

structure Unanswered where
  kind : Byte
  hit : FilterHit
  result : Result
  deriving DecidableEq, Repr

inductive SilenceMode
  | notify | safe
  deriving DecidableEq, Repr

structure Link where
  straps : Straps
  receiver : Receiver
  inHand : Option InHand
  waiting : Option WaitingFrame
  restartDue : Bool
  groupEnable : Bool
  groupCode : Byte
  groupMask : Byte
  crcErrors : Nat
  charErrors : Nat
  timeouts : Nat
  overruns : Nat
  unanswered : List Unanswered
  silenceLimit : Nat
  silenceMode : SilenceMode
  silenceTimer : Timer
  deriving DecidableEq, Repr

/-! ### The whole part -/

structure State where
  slot : SlotRec
  ident : IdentRec
  recipe : Recipe
  rail : RailCtl
  sock : Supervisor
  therm : Thermal
  store : Store
  exer : Exerciser
  credit : CreditUnit
  fail : Recorder
  notice : Notices
  link : Link
  /-- how many free values have been used (log 8); the model's own -/
  freeCount : Nat
  /-- the commands that wait, first in, first out; the model's own (log 5) -/
  pending : List Instr
  deriving DecidableEq, Repr

def State.setSlot (s : State) (x : SlotRec) : State := { s with slot := x }
def State.setIdent (s : State) (x : IdentRec) : State := { s with ident := x }
def State.setRecipe (s : State) (x : Recipe) : State := { s with recipe := x }
def State.setRail (s : State) (x : RailCtl) : State := { s with rail := x }
def State.setSock (s : State) (x : Supervisor) : State := { s with sock := x }
def State.setTherm (s : State) (x : Thermal) : State := { s with therm := x }
def State.setStore (s : State) (x : Store) : State := { s with store := x }
def State.setExer (s : State) (x : Exerciser) : State := { s with exer := x }
def State.setCredit (s : State) (x : CreditUnit) : State := { s with credit := x }
def State.setFail (s : State) (x : Recorder) : State := { s with fail := x }
def State.setNotice (s : State) (x : Notices) : State := { s with notice := x }
def State.setLink (s : State) (x : Link) : State := { s with link := x }
def State.setFreeCount (s : State) (x : Nat) : State := { s with freeCount := x }
def State.setPending (s : State) (x : List Instr) : State := { s with pending := x }

/-! ### Reset values -/

def RailRec.atReset : RailRec :=
  { state := .off, used := false, order := none, setpoint := 0, window := 0, settle := 0, sampleV := 0,
    sampleI := 0, inWindow := false, excursions := 0, outRun := 0, settleTimer := none,
    history := Bank.replicate 16 0, regulatorOn := false, reference := 0 }

def SocketRec.atReset : SocketRec :=
  { state := .vacant, prior := none, cause := none, faultCounter := 0, retries := 0, softTrips := 0,
    hardTrips := 0, offCount := 0, blanking := none, cooldown := none, retryDue := false, sample := 0,
    history := Bank.replicate 16 0, switchClosed := false }

def ZoneRec.atReset : ZoneRec :=
  { state := .idle, setpoint := 0, window := 0, margin := 0, kp := 0, ki := 0, code := 0, temperature := none,
    invalidRun := 0, inWindow := false, breaches := 0, integrator := 0, u := 0, granted := 0, limited := false,
    appliedDuty := 0, history := Bank.replicate 16 none }

def StimVector.atReset : StimVector := { drive := 0, expect := .dontCare }

def Settings.empty : Settings :=
  { timing := none, channels := Bank.replicate 16 none, play := none }

def ChannelSection.atReset : ChannelSection :=
  { mode := .vector, park := .released, fixedHigh := false, period := 0, high := 0, dead := 0 }

def CompareRec.atReset : CompareRec :=
  { windowCount := 0, firstMismatch := none, mismatchTotal := 0, functionalFails := 0, logged := false }

def SlotRec.atReset : SlotRec :=
  { state := .hold, endCause := .none, goGiven := false, paused := false, armTimer := none, drainTimer := none,
    seated := false, makeTimer := none, openTimer := none, restartCause := .powerOn,
    seatA := false, seatB := false, chainOpen := false }

def IdentRec.atReset : IdentRec := { record := none, attempts := 0, attemptTimer := none, waitTimer := none }

def Recipe.atReset : Recipe :=
  { general := none, rails := Bank.replicate 4 none, zones := Bank.replicate 6 none, sockets := none,
    timing := none, channels := Bank.replicate 16 none }

def RailCtl.atReset : RailCtl :=
  { rails := Bank.replicate 4 RailRec.atReset, startSeq := [], seqComplete := false, drainSeq := [],
    drainStepTimer := none }

def Supervisor.atReset : Supervisor :=
  { sockets := Bank.replicate 48 SocketRec.atReset, softLimits := Bank.replicate 4 0,
    hardLimits := Bank.replicate 4 0, retryLimit := 0, cooldownTime := 0 }

def BudgetRec.atReset : BudgetRec :=
  { budget := 0, pDutUsed := 0, demand := 0, allowance := 0, scaled := false, overRun := 0, hold := false }

def Thermal.atReset : Thermal :=
  { zones := Bank.replicate 6 ZoneRec.atReset, slotBudget := BudgetRec.atReset, pass := none }

def Store.atReset : Store :=
  { memory := [], frames := [], readEnd := 0, writeEnd := 0, mode := .stream, lowWater := 0, current := none }

def Exerciser.atReset : Exerciser :=
  { state := .idle, holdBudget := false, holdPause := false, holdRequested := false, stopRequested := false,
    stalls := 0, position := none, timing := { period := 0, offset := 0 },
    channels := Bank.replicate 16 ChannelSection.atReset, dynamic := false, underrun := .park, policy := .keep,
    threshold := 0, boundary := Settings.empty, staged := Settings.empty,
    compare := Bank.replicate 48 CompareRec.atReset, vecPeriod := 0, vecOffset := 0,
    vector := StimVector.atReset, strobeDue := false, clockAge := Bank.replicate 16 0 }

def CreditUnit.atReset : CreditUnit :=
  { prevRun := false, serial := none, target := 0, runLimit := 0, accumulated := 0, currentRun := 0, timer := none,
    notedExcursions := Bank.replicate 4 0, notedBreaches := Bank.replicate 6 0, notedStalls := 0,
    accounts := Bank.replicate 48 { credited := 0, stamp := none, notedOff := 0 } }

def Recorder.atReset : Recorder :=
  { log := [], nextSeq := 0, dropped := 0, marks := Bank.replicate 48 { first := none, last := none } }

/-- R156: C0 has level 1, C8 level 7, every other class level 0. -/
def Notices.atReset : Notices :=
  { classes := Bank.ofFn fun c =>
      { level := if c.val = 0 then 1 else if c.val = 8 then 7 else 0, pending := false, count := 0 },
    threshold := 1, capture := Bank.replicate 2 { binding := none, buffer := [] } }

def Link.atReset : Link :=
  { straps := { slot := 0, rate := 0 }, receiver := .waitAddress, inHand := none, waiting := none,
    restartDue := false, groupEnable := false, groupCode := 0, groupMask := 0, crcErrors := 0, charErrors := 0,
    timeouts := 0, overruns := 0, unanswered := [], silenceLimit := 0, silenceMode := .notify,
    silenceTimer := none }

/-- The part right after power-on (R1, R24). The input pins' levels and the straps are DESIGN CHOICE (log 1). -/
def State.reset : State :=
  { slot := SlotRec.atReset, ident := IdentRec.atReset, recipe := Recipe.atReset, rail := RailCtl.atReset,
    sock := Supervisor.atReset, therm := Thermal.atReset, store := Store.atReset, exer := Exerciser.atReset,
    credit := CreditUnit.atReset, fail := Recorder.atReset, notice := Notices.atReset, link := Link.atReset,
    freeCount := 0, pending := [] }

end Sys2Proof.Machine
end

