-- ==== Sys2Proof/Machine/Operands.lean ====
section
/-! DEFINITION. How payloads and the identity image are read, how replies are written (R173), and the codes of the
enumerations (R170, R173, log 16). -/

namespace Sys2Proof.Machine

/-! ### Numbers in characters (R173: high character first, signed values in two's complement) -/

def byteAt (l : List Byte) (i : Nat) : Nat := (l.getD i 0).toNat

def u16At (l : List Byte) (i : Nat) : Nat := byteAt l i * 256 + byteAt l (i + 1)

def u32At (l : List Byte) (i : Nat) : Nat := u16At l i * 65536 + u16At l (i + 2)

def s16At (l : List Byte) (i : Nat) : Int :=
  if u16At l i < 32768 then (u16At l i : Int) else (u16At l i : Int) - 65536

def chars1 (n : Nat) : List Byte := [BitVec.ofNat 8 n]

def chars2 (n : Nat) : List Byte := [BitVec.ofNat 8 (n / 256), BitVec.ofNat 8 n]

def chars3 (n : Nat) : List Byte := BitVec.ofNat 8 (n / 65536) :: chars2 n

def chars4 (n : Nat) : List Byte := chars2 (n / 65536) ++ chars2 n

def charsInt (v : Int) : List Byte := chars2 (v % 65536).toNat

def charsFlag (b : Bool) : List Byte := [if b then 1 else 0]

def charsWord16 (w : Word16) : List Byte := chars2 w.toNat

def charsWord32 (w : Word32) : List Byte := chars4 w.toNat

/-- A temperature that may be absent (R173: 0x8000 when absent). -/
def charsTemperature : Option Int → List Byte
  | some t => charsInt t
  | none => [0x80, 0x00]

/-- A 32-bit value that may be absent: preceded by 1 or 0, and 0 when absent (R173). -/
def charsOptWord32 : Option Word32 → List Byte
  | some w => 1 :: charsWord32 w
  | none => 0 :: chars4 0

/-- A 32-bit stamp whose layout codes absence as 0 (R173, socket account). -/
def charsStamp : Option Word32 → List Byte
  | some w => charsWord32 w
  | none => chars4 0

/-! ### Codes -/

def SlotState.code : SlotState → Nat
  | .hold => 0 | .empty => 1 | .identifying => 2 | .unidentified => 3 | .ready => 4 | .arming => 5
  | .running => 6 | .draining => 7 | .safe => 8

def EndCause.code : EndCause → Nat
  | .none => 0 | .stopped => 1 | .armTimeout => 2 | .complete => 3 | .runLimit => 4 | .railFault => 5
  | .safetyChain => 6 | .unseat => 7 | .linkSilence => 8

def RestartCause.code : RestartCause → Nat
  | .powerOn => 0 | .pin => 1 | .command => 2

def RailState.code : RailState → Nat
  | .off => 0 | .ramping => 1 | .regulated => 2 | .faulted => 3

def ZoneState.code : ZoneState → Nat
  | .idle => 0 | .regulating => 1 | .tripped => 2 | .sensorFailed => 3

def ExerState.code : ExerState → Nat
  | .idle => 0 | .playing => 1 | .starved => 2 | .held => 3 | .stopped => 4

def SocketState.code : SocketState → Nat
  | .vacant => 0 | .off => 1 | .active => 2 | .warned => 3 | .heldOff => 4 | .isolated => 5 | .retired => 6
  | .completed => 7

/-- 0 absent (R173); also the detail of a RETIRED entry (R68). -/
def RetireCause.code : RetireCause → Nat
  | .electrical => 1 | .functional => 2 | .operator => 3

def FailureKind.code : FailureKind → Nat
  | .overcurrentSoft => 1 | .overcurrentHard => 2 | .functional => 3 | .retired => 4 | .railFault => 5
  | .zoneTrip => 6 | .sensorFail => 7 | .safetyChain => 8 | .unseat => 9 | .linkSilence => 10

def FrameStatus.code : FrameStatus → Nat
  | .opened _ => 0 | .ready => 1 | .playing _ => 2 | .tail => 3

def PlayMode.code : PlayMode → Nat
  | .stream => 0 | .loop => 1

def UnderrunPolicy.code : UnderrunPolicy → Nat
  | .park => 0 | .repeatLast => 1

def FunctionalPolicy.code : FunctionalPolicy → Nat
  | .keep => 0 | .retire => 1

def ChannelMode.code : ChannelMode → Nat
  | .vector => 0 | .clock => 1 | .pair => 2 | .fixed => 3

def Level.code : Level → Nat
  | .low => 0 | .high => 1 | .released => 2

def Source.code : Source → Nat
  | .a => 0 | .b => 1

/-- R171 lists UNIT, GROUP, BROADCAST (log 19). -/
def hitCode : FilterHit → Nat
  | .unit => 0 | .group => 1 | .broadcast => 2

def Result.code : Result → Byte
  | .ok => 0x00 | .clamped => 0x01 | .accepted => 0x02 | .wrongState => 0x10 | .badKind => 0x11
  | .badLength => 0x12 | .badValue => 0x13 | .badQualifier => 0x14 | .noRoom => 0x15 | .duplicate => 0x16
  | .noRecipe => 0x17 | .noIdentity => 0x18 | .interlock => 0x19 | .mismatch => 0x1A | .busy => 0x1B

def yesNoOf : Nat → Option Bool
  | 0 => some false | 1 => some true | _ => none

def playModeOf : Nat → Option PlayMode
  | 0 => some .stream | 1 => some .loop | _ => none

def underrunOf : Nat → Option UnderrunPolicy
  | 0 => some .park | 1 => some .repeatLast | _ => none

def policyOf : Nat → Option FunctionalPolicy
  | 0 => some .keep | 1 => some .retire | _ => none

def channelModeOf : Nat → Option ChannelMode
  | 0 => some .vector | 1 => some .clock | 2 => some .pair | 3 => some .fixed | _ => none

def levelOf : Nat → Option Level
  | 0 => some .low | 1 => some .high | 2 => some .released | _ => none

def sourceOf : Nat → Option Source
  | 0 => some .a | 1 => some .b | _ => none

def expectationOf : Nat → Option Expectation
  | 0 => some .dontCare | 1 => some .low | 2 => some .high | _ => none

/-- An index below `n`, if the number is one. -/
def indexOf (n v : Nat) : Option (Fin n) := if h : v < n then some ⟨v, h⟩ else none

/-! ### The identity image (R173, Identity memory record) -/

/-- A wiring byte: 255 not fitted, otherwise rail × 16 + zone. -/
def wireOf (b : Nat) : Option Wire :=
  if b = 255 then none
  else (indexOf 4 (b / 16)).bind fun r => (indexOf 6 (b % 16)).map fun z => { rail := r, zone := z }

def Identity.serial (d : Identity) : Word32 := BitVec.ofNat 32 (u32At d.image.cells 4)

def Identity.railMaxMv (d : Identity) (r : Fin 4) : Nat := u16At d.image.cells (8 + 4 * r.val)

def Identity.railMaxMa (d : Identity) (r : Fin 4) : Nat := u16At d.image.cells (10 + 4 * r.val)

def Identity.heaterRated (d : Identity) (z : Fin 6) : Nat := u16At d.image.cells (24 + 38 * z.val)

def Identity.absLimit (d : Identity) (z : Fin 6) : Int := s16At d.image.cells (26 + 38 * z.val)

def Identity.tablePoint (d : Identity) (z : Fin 6) (i : Fin 17) : Int :=
  s16At d.image.cells (28 + 38 * z.val + 2 * i.val)

def Identity.wire (d : Identity) (k : Fin 48) : Option Wire := wireOf (byteAt d.image.cells (252 + k.val))

/-- The eight checks of R28 on an image. -/
def identityChecks (image : List Byte) : Bool :=
  crc16 (image.take 300) == BitVec.ofNat 16 (u16At image 300)
  && byteAt image 0 == 1
  && (1 ≤ byteAt image 1 && byteAt image 1 ≤ 48)
  && (List.finRange 48).all (fun k =>
      byteAt image (252 + k.val) == 255 || (wireOf (byteAt image (252 + k.val))).isSome)
  && ((List.finRange 48).filter (fun k => byteAt image (252 + k.val) != 255)).length == byteAt image 1
  && (List.finRange 4).all (fun r =>
      u16At image (8 + 4 * r.val) ≤ 16000
      && 1 ≤ u16At image (10 + 4 * r.val) && u16At image (10 + 4 * r.val) ≤ 4000)
  && (List.finRange 6).all (fun z =>
      u16At image (24 + 38 * z.val) ≤ 2500
      && decide (-624 ≤ s16At image (26 + 38 * z.val)) && decide (s16At image (26 + 38 * z.val) ≤ 4000))
  && (List.finRange 6).all (fun z => (List.finRange 17).all fun i =>
      decide (-640 ≤ s16At image (28 + 38 * z.val + 2 * i.val))
      && decide (s16At image (28 + 38 * z.val + 2 * i.val) ≤ 4000))

/-- The record of a successful attempt: all 302 bytes delivered and every check of R28 passed (R27, R28). -/
def identityOf (image : List Byte) : Option Identity :=
  if h : image.length = 302 then
    if identityChecks image then some { image := ⟨image, h⟩ } else none
  else none

end Sys2Proof.Machine
end

