-- ==== Sys2Proof/Machine/Flags.lean ====
section
/-! DEFINITION. The marks, tests and derived values that rules read: nothing here changes state. -/

namespace Sys2Proof.Machine

/-- ACTIVE or WARNED: the states in which the switch is closed (4.1). -/
def SocketState.powered : SocketState → Bool
  | .active | .warned => true
  | _ => false

/-- RETIRED and COMPLETED are the final states (4.1). -/
def SocketState.isFinal : SocketState → Bool
  | .retired | .completed => true
  | _ => false

/-- ARMING or RUNNING. -/
def SlotState.inRun : SlotState → Bool
  | .arming | .running => true
  | _ => false

/-- ARMING, RUNNING or DRAINING: the states that the chain, an unseat and link silence take to SAFE (R19). -/
def SlotState.live : SlotState → Bool
  | .arming | .running | .draining => true
  | _ => false

def SocketRec.inBlanking (r : SocketRec) : Bool := r.blanking.isSome

/-- R62: judged when ACTIVE or WARNED and not in blanking; also who is compared at a strobe (R136). -/
def SocketRec.judged (r : SocketRec) : Bool := r.state.powered && !r.inBlanking

def ExerState.isPlaying (e : ExerState) : Bool := e == .playing

def Exerciser.holdSet (e : Exerciser) : Bool := e.holdBudget || e.holdPause

/-- |V − setpoint| ≤ window half-width (R45). -/
def railInWindow (r : RailRec) : Bool :=
  decide (r.sampleV ≤ r.setpoint + r.window) && decide (r.setpoint ≤ r.sampleV + r.window)

/-- R54: the DUT power, from every rail that is not OFF. -/
def RailCtl.pDut (c : RailCtl) : Nat :=
  ((c.rails.cells.map fun r => if r.state = .off then 0 else r.sampleV * r.sampleI).sum) / 100000

def State.pDut (s : State) : Nat := s.rail.pDut

/-- R84 -/
def codeInvalid (code : Nat) : Bool := decide (code < 16) || decide (4079 < code)

/-- R85 -/
def interpolate (table : Bank Int 17) (code : Nat) : Int :=
  let k := code / 256
  let d := code - 256 * k
  let t0 := table.cells.getD k 0
  let t1 := table.cells.getD (k + 1) 0
  clampInt (-640) 4000 (t0 + (t1 - t0) * d / 256)

/-- The socket's wiring in the identity record in force (R58). -/
def State.wire (s : State) (k : Fin 48) : Option Wire := s.ident.record.bind fun d => d.wire k

def State.zoneState (s : State) (z : Fin 6) : ZoneState := (s.therm.zones.get z).state

/-- Does the socket sit in the zone? -/
def State.inZone (s : State) (k : Fin 48) (z : Fin 6) : Bool :=
  match s.wire k with
  | some w => w.zone == z
  | none => false

/-- Is the socket's zone REGULATING? -/
def State.zoneRegulating (s : State) (k : Fin 48) : Bool :=
  match s.wire k with
  | some w => s.zoneState w.zone == .regulating
  | none => false

/-- Is the socket's zone TRIPPED or SENSOR_FAILED? -/
def State.zoneAtFault (s : State) (k : Fin 48) : Bool :=
  match s.wire k with
  | some w => s.zoneState w.zone == .tripped || s.zoneState w.zone == .sensorFailed
  | none => false

/-- No populated socket is neither COMPLETED nor RETIRED (R16). -/
def State.allFinal (s : State) : Bool :=
  s.sock.sockets.cells.all fun r => r.state == .vacant || r.state.isFinal

/-- An identity attempt is under way: in IDENTIFYING alone (R7). -/
def State.attempting (s : State) : Bool := s.ident.attemptTimer.isSome && s.slot.state == .identifying

/-- R27: the read that every attempt makes, always the whole image from offset 0. -/
def identityRead : BusTransfer :=
  { device := Config.identityDevice, offset := Config.identityOffset, length := Config.identityBytes }

/-- R27: what the identity reader has on the local two-wire bus: the attempt's one transfer, and nothing else ever. -/
def State.localBus (s : State) : Option BusTransfer := if s.attempting then some identityRead else none

/-- R158: the part drives ATTN_N low. -/
def Notices.attnLow (n : Notices) : Bool :=
  n.classes.cells.any fun r => r.pending && decide (1 ≤ r.level) && decide (n.threshold ≤ r.level)

def State.attnLow (s : State) : Bool := s.notice.attnLow

/-- R12: the arming conditions. -/
def State.armed (s : State) : Bool :=
  s.rail.rails.cells.all (fun r => !r.used || r.state == .regulated)
  && s.rail.seqComplete
  && s.therm.zones.cells.all (fun z => z.state == .regulating && z.inWindow)
  && (s.slot.goGiven || (match s.recipe.general with | some g => g.autoGo | none => false))

/-- The populated set formed at START: in the recipe's map and fitted (R37). -/
def State.populated (s : State) (k : Fin 48) : Bool :=
  match s.recipe.sockets with
  | some m => m.get k && (s.wire k).isSome
  | none => false

/-- R144: does the expiry credit the socket? -/
def State.creditable (s : State) (k : Fin 48) : Bool :=
  let r := s.sock.sockets.get k
  match s.wire k with
  | none => false
  | some w =>
    let rail := s.rail.rails.get w.rail
    let zone := s.therm.zones.get w.zone
    r.judged
    && r.offCount == (s.credit.accounts.get k).notedOff
    && rail.excursions == s.credit.notedExcursions.get w.rail
    && rail.inWindow
    && zone.state == .regulating
    && zone.breaches == s.credit.notedBreaches.get w.zone
    && zone.inWindow
    && (!s.exer.dynamic || (s.exer.state.isPlaying && s.exer.stalls == s.credit.notedStalls))

/-- R151 -/
inductive Verdict
  | vacant | pass | failFunctional | failElectrical | failOperator | incomplete
  deriving DecidableEq, Repr

/-- R151, derived when read. -/
def verdictOf (st : SocketState) (cause : Option RetireCause) (fails : Nat) : Verdict :=
  match st, cause with
  | .vacant, _ => .vacant
  | .completed, _ => if fails = 0 then .pass else .failFunctional
  | .retired, some .functional => .failFunctional
  | .retired, some .electrical => .failElectrical
  | .retired, some .operator => .failOperator
  | _, _ => .incomplete

def State.verdict (s : State) (k : Fin 48) : Verdict :=
  verdictOf (s.sock.sockets.get k).state (s.sock.sockets.get k).cause (s.exer.compare.get k).functionalFails

def Verdict.code : Verdict → Nat
  | .vacant => 0 | .pass => 1 | .failFunctional => 2 | .failElectrical => 3 | .failOperator => 4 | .incomplete => 5

/-! ### Outputs as functions of time since a start (R134, R95, log 26) -/

/-- The channel a PAIR's complement belongs to, when `c` is odd. -/
def pairPartner (c : Fin 16) : Option (Fin 16) :=
  if c.val % 2 = 1 then some ⟨c.val - 1, by omega⟩ else none

/-- Is `c` the odd channel above a PAIR (R134)? Then the PAIR's own channel. -/
def Exerciser.pairedUnder (e : Exerciser) (c : Fin 16) : Option (Fin 16) :=
  (pairPartner c).bind fun p => if (e.channels.get p).mode = .pair then some p else none

def levelOfBool (b : Bool) : Level := if b then .high else .low

def Level.complement : Level → Level
  | .low => .high | .high => .low | .released => .released

/-- R134: the park level of a channel. The odd channel above a PAIR shows the complement of the PAIR's also when its own
CHANNEL section is absent, which a static run allows and R30 would park RELEASED (DESIGN CHOICE, log 37). -/
def Exerciser.parkLevel (e : Exerciser) (c : Fin 16) : Level :=
  match e.pairedUnder c with
  | some p => (e.channels.get p).park.complement
  | none => (e.channels.get c).park

/-- The phase within the clock cycle, `t` units after the start of the vector in progress. -/
def clockPhase (age t period : Nat) : Nat := if period = 0 then 0 else (age + t) % period

/-- R134: the level of a channel `t` units of 20 ns after the start of the vector in progress. -/
def Exerciser.playLevel (e : Exerciser) (c : Fin 16) (t : Nat) : Level :=
  match e.pairedUnder c with
  | some p =>
    let ch := e.channels.get p
    let x := clockPhase (e.clockAge.get p) t ch.period
    levelOfBool (decide (ch.high + ch.dead ≤ x) && decide (x + ch.dead < ch.period))
  | none =>
    let ch := e.channels.get c
    match ch.mode with
    | .vector => levelOfBool (e.vector.drive.getLsbD c.val)
    | .fixed => levelOfBool ch.fixedHigh
    | .clock | .pair => levelOfBool (decide (clockPhase (e.clockAge.get c) t ch.period < ch.high))

/-- What stimulus channel `c` shows: its play level while PLAYING, else its park level (R134). -/
def Exerciser.channelLevel (e : Exerciser) (c : Fin 16) (t : Nat) : Level :=
  if e.state.isPlaying then e.playLevel c t else e.parkLevel c

/-- R95: is the zone's heater output on at a count of its PWM frame? -/
def ZoneRec.heaterOnAt (z : ZoneRec) (count : Nat) : Bool := decide (count < z.appliedDuty)

end Sys2Proof.Machine
end

