-- ==== Sys2Proof/Machine/Ops.lean ====
section
/-! DEFINITION. The operations the blocks share: raising a source and capturing (R157, R163), taking a failure
(R153, R154), the vector memory, and the records' own small changes. -/

namespace Sys2Proof.Machine

/-! ### The notice unit -/

def CaptureChannel.boundTo (ch : CaptureChannel) (c : Fin 12) : Bool :=
  match ch.binding with
  | some b => b.cls == c
  | none => false

/-- Is the channel bound to this source of this class? -/
def CaptureChannel.catches (ch : CaptureChannel) (c : Fin 12) (src : Source) : Bool :=
  match ch.binding with
  | some b => b.cls == c && b.source == src
  | none => false

/-- A class is silenced while a capture channel is bound to it (R157). -/
def Notices.silenced (n : Notices) (c : Fin 12) : Bool :=
  (n.capture.get 0).boundTo c || (n.capture.get 1).boundTo c

/-- Count a raise in its class (R157). -/
def Notices.countRaise (n : Notices) (c : Fin 12) : Notices :=
  let r := n.classes.get c
  let r1 : ClassRec := { r with count := satInc 255 r.count, pending := r.pending || !n.silenced c }
  if r.level = 0 then n else { n with classes := n.classes.set c r1 }

/-- R163, steps 2 and 3, on channel `k`: append the snapshot; on the last one unbind and raise C11 (source A for
channel 0, B for channel 1; both count in C11). -/
def Notices.takeSnapshot (n : Notices) (k : Fin 2) (snap : Snapshot) : Notices :=
  match (n.capture.get k).binding with
  | none => n
  | some b =>
    let buffer := (n.capture.get k).buffer ++ [snap]
    let spent : CaptureChannel := { binding := none, buffer := buffer }
    let armed : CaptureChannel := { binding := some { b with remaining := b.remaining - 1 }, buffer := buffer }
    if b.remaining ≤ 1 then { n with capture := n.capture.set k spent }.countRaise 11
    else { n with capture := n.capture.set k armed }

/-- A raise of a class that a capture can be bound to, with the snapshot it would take (R163). -/
def Notices.raiseWith (n : Notices) (snap : Snapshot) : Notices :=
  let n1 := n.countRaise snap.cls
  if (n.capture.get 0).catches snap.cls snap.source then n1.takeSnapshot 0 snap
  else if (n.capture.get 1).catches snap.cls snap.source then n1.takeSnapshot 1 snap
  else n1

/-- Raise a source of a class that no capture can be bound to (R162 binds C1, C4 and C5 only): both sources
count in the class. -/
def State.notify (s : State) (c : Fin 12) (_src : Source) : State := s.setNotice (s.notice.countRaise c)

/-- Raise a source of C1, for a socket. -/
def State.notifySocket (s : State) (src : Source) (k : Fin 48) : State :=
  s.setNotice (s.notice.raiseWith
    { cls := 1, source := src, unit := k.val, stamp := s.credit.accumulated,
      history := .counts (s.sock.sockets.get k).history })

/-- Raise a source of C4, for a rail. -/
def State.notifyRail (s : State) (src : Source) (r : Fin 4) : State :=
  s.setNotice (s.notice.raiseWith
    { cls := 4, source := src, unit := r.val, stamp := s.credit.accumulated,
      history := .counts (s.rail.rails.get r).history })

/-- Raise a source of C5, for a zone. -/
def State.notifyZone (s : State) (src : Source) (z : Fin 6) : State :=
  s.setNotice (s.notice.raiseWith
    { cls := 5, source := src, unit := z.val, stamp := s.credit.accumulated,
      history := .temperatures (s.therm.zones.get z).history })

/-! ### The failure recorder -/

/-- R154: a failure of a socket kind moves its last failure, and its first when absent. -/
def SocketFailures.take (m : SocketFailures) (mark : FailureMark) : SocketFailures :=
  { first := m.first.or (some mark), last := some mark }

/-- R153, steps 1 to 4, less the notices. -/
def Recorder.take (f : Recorder) (e : FailureEntry) : Recorder :=
  let full := decide (Config.logLimit ≤ f.log.length)
  { log := if full then f.log else f.log ++ [e]
    nextSeq := f.nextSeq + 1
    dropped := if full then satInc 65535 f.dropped else f.dropped
    marks := match e.socket with
      | some k => f.marks.modify k (·.take { kind := e.kind, stamp := e.stamp })
      | none => f.marks }

/-- A failure handed to the recorder (R153): C10A at the rise to 48 entries, C10B at a drop. -/
def State.logFailure (s : State) (kind : FailureKind) (socket : Option (Fin 48)) (unit : Option Nat)
    (detail : Word16) : State :=
  let s1 := s.setFail (s.fail.take
    { seq := s.fail.nextSeq, kind := kind, socket := socket, unit := unit, stamp := s.credit.accumulated,
      detail := detail })
  if Config.logLimit ≤ s.fail.log.length then s1.notify 10 .b
  else if s.fail.log.length + 1 = Config.logHighWater then s1.notify 10 .a
  else s1

/-! ### The vector memory: one canonical list of the slots that differ from an unwritten one -/

def Memory.read : List SlotCell → Nat → StimVector
  | [], _ => StimVector.atReset
  | (k, v) :: rest, a => if k = a then v else Memory.read rest a

def Memory.write : List SlotCell → Nat → StimVector → List SlotCell
  | [], a, v => if v = StimVector.atReset then [] else [(a, v)]
  | (k, w) :: rest, a, v =>
    if a < k then (if v = StimVector.atReset then (k, w) :: rest else (a, v) :: (k, w) :: rest)
    else if a = k then (if v = StimVector.atReset then rest else (a, v) :: rest)
    else (k, w) :: Memory.write rest a v

/-- The canonical form above a bound: slots strictly rising from it, and no entry at the unlisted value. -/
def Memory.wfFrom : Nat → List SlotCell → Bool
  | _, [] => true
  | low, (k, v) :: rest => decide (low ≤ k) && decide (v ≠ StimVector.atReset) && Memory.wfFrom (k + 1) rest

def Memory.wf (m : List SlotCell) : Bool := Memory.wfFrom 0 m

/-! ### Changes of one record of a bank -/

def State.modSocket (s : State) (k : Fin 48) (f : SocketRec → SocketRec) : State :=
  s.setSock { s.sock with sockets := s.sock.sockets.modify k f }

def State.modRail (s : State) (r : Fin 4) (f : RailRec → RailRec) : State :=
  s.setRail { s.rail with rails := s.rail.rails.modify r f }

def State.modZone (s : State) (z : Fin 6) (f : ZoneRec → ZoneRec) : State :=
  s.setTherm { s.therm with zones := s.therm.zones.modify z f }

def State.modCompare (s : State) (k : Fin 48) (f : CompareRec → CompareRec) : State :=
  s.setExer { s.exer with compare := s.exer.compare.modify k f }

def State.modAccount (s : State) (k : Fin 48) (f : AccountRec → AccountRec) : State :=
  s.setCredit { s.credit with accounts := s.credit.accounts.modify k f }

/-- The compare window emptied (R137, R138). -/
def CompareRec.clearWindow (r : CompareRec) : CompareRec := { r with windowCount := 0, firstMismatch := none }

/-- A switch closes: its 20 ms blanking starts (R56, R57). -/
def SocketRec.closeSwitch (r : SocketRec) : SocketRec :=
  { r with switchClosed := true, blanking := some Config.blankingMs }

/-- What leaving ACTIVE or WARNED does to the record besides its new state: the switch opens, the blanking is
cancelled, the off count moves (R56, R57, R76). A record in another state is left alone. -/
def SocketRec.depart (r : SocketRec) : SocketRec :=
  if r.state.powered then { r with switchClosed := false, blanking := none, offCount := r.offCount + 1 } else r

/-- A rail turned off (R52, R53). -/
def RailRec.turnOff (r : RailRec) : RailRec :=
  { r with state := .off, regulatorOn := false, reference := 0, settleTimer := none }

/-- RAMPING or REGULATED: what a turn-off acts on (R52, R53). -/
def RailState.driven : RailState → Bool
  | .ramping | .regulated => true
  | _ => false

/-- A rail started (R44). -/
def RailRec.startUp (r : RailRec) : RailRec :=
  { r with state := .ramping, regulatorOn := true, reference := r.setpoint, sampleV := 0, sampleI := 0,
           inWindow := false, outRun := 0, settleTimer := some r.settle }

/-- What a zone leaving REGULATING, or going IDLE, loses at once (R80, R86, R89, R96). -/
def ZoneRec.shutHeater (z : ZoneRec) : ZoneRec :=
  { z with integrator := 0, u := 0, granted := 0, limited := false, inWindow := false, appliedDuty := 0 }

end Sys2Proof.Machine
end

