-- ==== Sys2Proof/Machine/StoreOps.lean ====
section
/-! DEFINITION. The vector store's operations (chapter 7) on its own record. -/

namespace Sys2Proof.Machine

def FrameStatus.isReady : FrameStatus → Bool
  | .ready => true
  | _ => false

def FrameStatus.isTail : FrameStatus → Bool
  | .tail => true
  | _ => false

def FrameStatus.isOpen : FrameStatus → Bool
  | .opened _ => true
  | _ => false

/-- The slots the stored frames hold (R110). -/
def Store.usedSlots (st : Store) : Nat := (st.frames.map (·.count)).sum

/-- The free slots (R110): the rest of the circle. -/
def Store.freeSlots (st : Store) : Nat := Config.vectorSlots - st.usedSlots

def Store.readyCount (st : Store) : Nat := st.frames.countP (fun f => f.status.isReady)

def Store.find (st : Store) (id : Byte) : Option FrameDesc := st.frames.find? (fun f => f.id == id)

/-- The current frame's descriptor (7.1). -/
def Store.currentFrame (st : Store) : Option FrameDesc := st.current.bind st.find

/-- The OPEN frame, if there is one (7.2). -/
def Store.openFrame (st : Store) : Option FrameDesc := st.frames.find? (fun f => f.status.isOpen)

/-- The received count that every FRAME_DATA reply carries: the OPEN frame's, or 0 (R112). -/
def Store.received (st : Store) : Nat :=
  match st.openFrame with
  | some f => (match f.status with | .opened n => n | _ => 0)
  | none => 0

/-- The first READY frame in play order (R116). -/
def Store.firstReady (st : Store) : Option FrameDesc := st.frames.find? (fun f => f.status.isReady)

def Store.setStatus (st : Store) (id : Byte) (x : FrameStatus) : Store :=
  { st with frames := st.frames.map fun f => if f.id == id then { f with status := x } else f }

/-- The read end stands at the first slot of the list's head, or at the write end of an empty list (R110). -/
def Store.syncReadEnd (st : Store) : Store :=
  { st with readEnd := match st.frames with
      | f :: _ => f.first
      | [] => st.writeEnd }

/-- Keep only the frames that pass, and return the others' slots at the read end (R110, R118). -/
def Store.keepFrames (st : Store) (keep : FrameDesc → Bool) : Store :=
  { st with frames := st.frames.filter keep }.syncReadEnd

def Store.freeFrame (st : Store) (id : Byte) : Store := st.keepFrames (fun f => f.id != id)

/-- A TAIL that is not the current frame is freed, in Stream mode (R113 step 1, R116). -/
def Store.freeIdleTail (st : Store) : Store :=
  if st.mode = .stream then st.keepFrames (fun f => !f.status.isTail || st.current == some f.id) else st

/-- R116: the exerciser takes the frame. In Stream mode a TAIL that is not current is freed in that event. -/
def Store.take (st : Store) (id : Byte) : Store :=
  ({ st.setStatus id (.playing 0) with current := some id }).freeIdleTail

/-- R116: the current frame is released at the end of play: PLAYING becomes READY, a TAIL stays a TAIL. -/
def Store.release (st : Store) : Store :=
  match st.currentFrame with
  | some f =>
    (match f.status with
     | .playing _ => { st.setStatus f.id .ready with current := none }
     | _ => { st with current := none })
  | none => { st with current := none }

/-- R121: the stored frames become the loop. -/
def Store.toLoop (st : Store) : Store :=
  { st with
    mode := .loop
    frames := st.frames.map fun f =>
      if f.status.isTail then
        (if st.current == some f.id then { f with status := .playing (f.repeats - 1) }
         else { f with status := .ready })
      else f }

/-- R122: the frames before the current one are freed; with no current frame none is. -/
def Store.toStream (st : Store) : Store :=
  match st.currentFrame with
  | some f => { st with mode := .stream, frames := st.frames.dropWhile (fun g => g.id != f.id) }.syncReadEnd
  | none => { st with mode := .stream }

/-- A play mode put in force: a change acts on the frames, the mode in force leaves them as they are (7.4). -/
def Store.setMode (st : Store) (m : PlayMode) : Store :=
  match st.mode, m with
  | .stream, .loop => st.toLoop
  | .loop, .stream => st.toStream
  | _, _ => st

/-- The READY frame after a given one in list order, else the first READY frame of the list (R120). -/
def Store.nextInLoop (st : Store) (id : Byte) : Option FrameDesc :=
  (((st.frames.dropWhile (fun f => f.id != id)).drop 1).find? (fun f => f.status.isReady)).or st.firstReady

/-- The vectors written in order from a slot on, round the circle (R110, R112). -/
def Memory.writeFrom (m : List SlotCell) (slot : Nat) : List StimVector → List SlotCell
  | [] => m
  | v :: rest => Memory.writeFrom (Memory.write m (slot % Config.vectorSlots) v) (slot + 1) rest

/-- The slot of a frame's vector (R110). -/
def FrameDesc.slotOf (f : FrameDesc) (i : Nat) : Nat := (f.first + i) % Config.vectorSlots

/-- R115: every frame but the current one goes. -/
def Store.purge (st : Store) : Store :=
  match st.currentFrame with
  | some f =>
    { st with frames := st.frames.filter (fun g => g.id == f.id), readEnd := f.first,
              writeEnd := (f.first + f.count) % Config.vectorSlots }
  | none => { st with frames := [], readEnd := st.writeEnd }

end Sys2Proof.Machine
end

