-- ==== Sys2Proof/Machine/ExerciserOps.lean ====
section
/-! DEFINITION. The exerciser's shared operations (chapter 8): taking a frame, starting and stopping play, the hold
set, settings applied, and the entry to IDLE. -/

namespace Sys2Proof.Machine

/-- R123: after an event has lowered the READY count from `before`, C7A when it fell to the mark from above it, in
Stream mode, by the mark in force (log 30). -/
def State.lowWater (s : State) (before : Nat) : State :=
  if s.store.mode = .stream ∧ s.store.lowWater < before ∧ s.store.readyCount ≤ s.store.lowWater
  then s.notify 7 .a else s

/-- R116: a READY frame becomes the current frame, at vector 0. -/
def State.takeFrame (s : State) (id : Byte) : State :=
  ((s.setStore (s.store.take id)).setExer { s.exer with position := some 0 }).lowWater s.store.readyCount

/-- A vector starts: its timing and contents are fixed for the whole vector (R134, R135), its strobe is due (R136). -/
def State.startVector (s : State) : State :=
  match s.store.currentFrame, s.exer.position with
  | some f, some p =>
    s.setExer { s.exer with
      state := .playing
      vecPeriod := s.exer.timing.period
      vecOffset := s.exer.timing.offset
      vector := Memory.read s.store.memory (f.slotOf p)
      strobeDue := true }
  | _, _ => s

/-- Entry to PLAYING: every clock begins its first high phase at this vector start (R134). -/
def State.enterPlaying (s : State) : State :=
  (s.setExer { s.exer with clockAge := Bank.replicate 16 0 }).startVector

/-- An entry into HELD, STARVED or STOPPED, from whichever state (R133); play has stopped (R129). -/
def State.enterStall (s : State) (e : ExerState) : State :=
  s.setExer { s.exer with state := e, stalls := s.exer.stalls + 1, holdRequested := false, strobeDue := false }

def State.enterHeld (s : State) : State := s.enterStall .held

/-- R131: the stop-requested mark is cleared at entry to STOPPED. -/
def State.enterStopped (s : State) : State :=
  let s1 := s.enterStall .stopped
  s1.setExer { s1.exer with stopRequested := false }

/-- R132: every entry into STARVED raises C7B; there is no frame to play. -/
def State.enterStarved (s : State) : State :=
  let s1 := s.enterStall .starved
  (s1.setExer { s1.exer with position := none }).notify 7 .b

/-- Play from the play position, or HELD there when the hold set is not empty (R127, R131, R132). -/
def State.playOrHold (s : State) : State := if s.exer.holdSet then s.enterHeld else s.enterPlaying

/-- The first READY frame is taken and played, or the exerciser starves (R127, R131). -/
def State.takeFirstReady (s : State) : State :=
  match s.store.firstReady with
  | some f => (s.takeFrame f.id).playOrHold
  | none => s.enterStarved

/-- R130: the hold set becomes the one given; it acts through its emptiness alone. -/
def State.setHolds (s : State) (budget pause : Bool) : State :=
  let s1 := s.setExer { s.exer with holdBudget := budget, holdPause := pause }
  match s.exer.state, s.exer.holdSet, s1.exer.holdSet with
  | .playing, false, true => s1.setExer { s1.exer with holdRequested := true }
  | .playing, true, false => s1.setExer { s1.exer with holdRequested := false }
  | .held, true, false => s1.enterPlaying
  | _, _, _ => s1

/-! ### Settings (R135) -/

/-- Did what times a clock change? -/
def ChannelSection.clockDiffers (a b : ChannelSection) : Bool :=
  a.mode != b.mode || a.period != b.period || a.high != b.high || a.dead != b.dead

/-- The odd channel taken along when channel 2k goes into or out of PAIR (R135). -/
def pairUpper (c : Fin 16) : Option (Fin 16) :=
  if h : c.val % 2 = 0 then some ⟨c.val + 1, by omega⟩ else none

/-- A channel's entry replaced; a clock whose settings changed restarts its cycle at the next vector start (R135).
Going into or out of PAIR takes the odd channel along: that a CLOCK entry of it then restarts with a high phase, though
its own entry did not change, is the model's choice (DESIGN CHOICE, log 36). -/
def Exerciser.applyChannel (e : Exerciser) (c : Fin 16) (new : ChannelSection) : Exerciser :=
  let old := e.channels.get c
  let ages := if old.clockDiffers new then e.clockAge.set c 0 else e.clockAge
  let ages' := if (old.mode == .pair) != (new.mode == .pair) then
      (match pairUpper c with
       | some o => ages.set o 0
       | none => ages)
    else ages
  { e with channels := e.channels.set c new, clockAge := ages' }

/-- The SET_PLAY fields applied: the underrun policy to the exerciser, mode and mark to the store (R135, R121,
R122). A SET_PLAY that changes the mark raises nothing here; one that keeps it is judged for the READY frames its
change to Stream frees (R123). A STARVED exerciser takes the parked TAIL that a change to Loop has made READY (R132). -/
def State.applyPlay (s : State) (p : PlaySettings) : State :=
  let s0 := (s.setStore { s.store.setMode p.mode with lowWater := p.lowWater }).setExer
    { s.exer with underrun := p.underrun }
  let s1 := if p.lowWater = s.store.lowWater then s0.lowWater s.store.readyCount else s0
  if s.exer.state = .starved ∧ s.store.mode = .stream ∧ p.mode = .loop ∧ s1.store.firstReady.isSome
  then s1.takeFirstReady else s1

/-- The waiting channel settings applied, in channel order. -/
def Exerciser.applyChannels (e : Exerciser) (x : Bank (Option ChannelSection) 16) : Exerciser :=
  (List.finRange 16).foldl (fun e c =>
    match x.get c with
    | some new => e.applyChannel c new
    | none => e) e

/-- A waiting timing applied. -/
def Exerciser.applyTiming (e : Exerciser) (x : Option Timing) : Exerciser :=
  match x with
  | some t => { e with timing := t }
  | none => e

/-- Waiting settings applied to the run copies, the pins and the store (R135). -/
def State.applySettings (s : State) (x : Settings) : State :=
  let s1 := s.setExer ((s.exer.applyTiming x.timing).applyChannels x.channels)
  match x.play with
  | some p => s1.applyPlay p
  | none => s1

/-- Apply and empty the boundary settings (R129, step 1). -/
def State.applyBoundary (s : State) : State :=
  (s.setExer { s.exer with boundary := Settings.empty }).applySettings s.exer.boundary

/-- Apply and empty the staged settings (R129, step 2; R128). -/
def State.applyStaged (s : State) : State :=
  (s.setExer { s.exer with staged := Settings.empty }).applySettings s.exer.staged

/-- A setting request's settings: every field it carries is removed from both lists, then placed or applied
(R135). -/
def Settings.without (x y : Settings) : Settings :=
  { timing := if y.timing.isSome then none else x.timing
    channels := Bank.ofFn fun c => if (y.channels.get c).isSome then none else x.channels.get c
    play := if y.play.isSome then none else x.play }

def Settings.over (x y : Settings) : Settings :=
  { timing := x.timing.or y.timing
    channels := Bank.ofFn fun c => (x.channels.get c).or (y.channels.get c)
    play := x.play.or y.play }

/-- R135: placed in the boundary or the staged settings while PLAYING, else applied at once. -/
def State.takeSettings (s : State) (x : Settings) (atBoundary : Bool) : State :=
  let b := s.exer.boundary.without x
  let g := s.exer.staged.without x
  if s.exer.state.isPlaying then
    (if atBoundary then s.setExer { s.exer with boundary := b, staged := x.over g }
     else s.setExer { s.exer with boundary := x.over b, staged := g })
  else (s.setExer { s.exer with boundary := b, staged := g }).applySettings x

/-- The clocks' ages carried past the vector just ended (R134: a clock runs free across vector ends). -/
def Exerciser.advanceClocks (e : Exerciser) : Exerciser :=
  { e with clockAge := Bank.ofFn fun c =>
      clockPhase (e.clockAge.get c) e.vecPeriod (e.channels.get c).period }

/-- Every compare window emptied (R128, R131, R138). -/
def Exerciser.clearWindows (e : Exerciser) : Exerciser :=
  { e with compare := e.compare.map CompareRec.clearWindow }

/-- R128: the exerciser's part of the entry to DRAINING and to SAFE. -/
def State.idleExerciser (s : State) : State :=
  let e := s.exer.clearWindows
  let s1 := (s.setStore s.store.release).setExer
    { e with
      state := .idle
      position := none
      holdBudget := false
      holdPause := false
      holdRequested := false
      stopRequested := false
      strobeDue := false }
  s1.applyBoundary.applyStaged

end Sys2Proof.Machine
end

