-- ==== Sys2Proof/Machine/RunOps.lean ====
section
/-! DEFINITION. What ends, begins and interrupts a run, shared by many commands: entry to DRAINING (R17) and SAFE
(R19), retirement and isolation (R67, R68), rail faults (R50), hold-off and release (R72, R73), entry to RUNNING
(R127, R70, R142) and the arming test (R12). -/

namespace Sys2Proof.Machine

/-- A change of slot state raises C0A (R2). -/
def State.moveTo (s : State) (x : SlotState) : State :=
  (s.setSlot { s.slot with state := x }).notify 0 .a

/-- R77: a socket's part of the entry to DRAINING or SAFE. -/
def SocketRec.endRun (r : SocketRec) : SocketRec :=
  let d := r.depart
  let st := match r.state with
    | .active | .warned | .heldOff | .isolated => SocketState.off
    | x => x
  { d with state := st, prior := none, blanking := none, cooldown := none, retryDue := false, switchClosed := false }

/-- R80: a zone's part of the entry to DRAINING or SAFE. -/
def ZoneRec.endRun (z : ZoneRec) : ZoneRec := { z.shutHeater with state := .idle }

/-- R99, R106: the budget's part of the entry to DRAINING or SAFE. -/
def BudgetRec.endRun (b : BudgetRec) : BudgetRec := { b with scaled := false, overRun := 0, hold := false }

/-- R142: the credit interval timer stops when the slot leaves RUNNING. -/
def CreditUnit.endRun (c : CreditUnit) : CreditUnit := { c with timer := none }

/-- What the entries to DRAINING and to SAFE have in common: sockets (R77), exerciser (R128), zones (R80), budget
(R106), credit interval (R142), paused flag and arm timer (R17, R19). -/
def State.quiesce (s : State) : State :=
  let s1 := s.setSock { s.sock with sockets := s.sock.sockets.map SocketRec.endRun }
  let s2 := s1.idleExerciser
  let s3 := s2.setTherm
    { s2.therm with zones := s2.therm.zones.map ZoneRec.endRun, slotBudget := s2.therm.slotBudget.endRun }
  let s4 := s3.setCredit s3.credit.endRun
  s4.setSlot { s4.slot with paused := false, armTimer := none }

/-- R52: one step of the drain sequence. Rails at its head that are OFF or FAULTED are passed over; the first
driven rail is turned off; an empty list ends the sequence. -/
def RailCtl.drainStep (c : RailCtl) : RailCtl :=
  match c.drainSeq.dropWhile (fun r => !(c.rails.get r).state.driven) with
  | [] => { c with drainSeq := [], drainStepTimer := none }
  | r :: rest =>
    { c with rails := c.rails.modify r RailRec.turnOff, drainSeq := rest,
             drainStepTimer := if rest.isEmpty then none else some Config.drainStepMs }

/-- The used rails in ascending order of their orders (R43). -/
def RailCtl.usedInOrder (c : RailCtl) : List (Fin 4) :=
  [1, 2, 3, 4].flatMap fun o =>
    (List.finRange 4).filter fun r => (c.rails.get r).used && (c.rails.get r).order == some o

/-- R52: the rail controller's part of the entry to DRAINING. -/
def RailCtl.beginDrain (c : RailCtl) : RailCtl :=
  ({ c with startSeq := [], drainSeq := c.usedInOrder.reverse, drainStepTimer := some Config.drainStepMs }).drainStep

/-- R53: every driven rail turned off together. -/
def RailCtl.allOff (c : RailCtl) : RailCtl :=
  { c with rails := c.rails.map (fun r => if r.state.driven then r.turnOff else r), startSeq := [], drainSeq := [],
           drainStepTimer := none }

/-- R17: entry to DRAINING, one event whatever its cause. -/
def State.enterDraining (s : State) (cause : EndCause) : State :=
  let s1 := s.quiesce
  let s2 := s1.setRail s1.rail.beginDrain
  let s3 := s2.setSlot { s2.slot with endCause := cause, drainTimer := some Config.drainMs }
  (s3.moveTo .draining).notify 0 .b

/-- R19: entry to SAFE; `cls` and `src` are the notice that goes with the cause. -/
def State.enterSafe (s : State) (cause : EndCause) (kind : FailureKind) (cls : Fin 12) (src : Source) : State :=
  let s1 := s.quiesce
  let s2 := s1.setRail s1.rail.allOff
  let s3 := s2.setSlot { s2.slot with endCause := cause, drainTimer := none }
  ((((s3.logFailure kind none none 0).moveTo .safe).notify cls src).notify 0 .b)

/-- R16: the run ends when no populated socket is left that is neither COMPLETED nor RETIRED. -/
def State.checkRunEnd (s : State) : State :=
  if s.slot.state.inRun && s.allFinal then s.enterDraining .complete else s

/-- A socket leaves ACTIVE or WARNED: its record departs (R76) and its compare window is emptied (R137). -/
def State.depart (s : State) (k : Fin 48) : State :=
  if (s.sock.sockets.get k).state.powered then (s.modSocket k SocketRec.depart).modCompare k CompareRec.clearWindow
  else s

/-- R68: retiring a socket. -/
def State.retire (s : State) (k : Fin 48) (cause : RetireCause) : State :=
  let s1 := (s.depart k).modSocket k (fun r =>
    { r with state := .retired, cause := some cause, prior := none, cooldown := none, retryDue := false })
  ((s1.logFailure .retired (some k) none (BitVec.ofNat 16 cause.code)).notify 2 .a).checkRunEnd

/-- R67: isolation after a trip. -/
def State.isolate (s : State) (k : Fin 48) : State :=
  if (s.sock.sockets.get k).retries = s.sock.retryLimit then s.retire k .electrical
  else (s.depart k).modSocket k (fun r =>
    { r with state := .isolated, cooldown := some s.sock.cooldownTime, retryDue := false })

/-- R75, R146: a socket completed by the credit unit, at the accumulated RUN seconds. -/
def State.complete (s : State) (k : Fin 48) : State :=
  let s1 := s.modAccount k (fun a => { a with stamp := some s.credit.accumulated })
  let s2 := (s1.depart k).modSocket k (fun r => { r with state := .completed })
  (s2.notify 2 .b).checkRunEnd

/-- R50: a rail becomes FAULTED, with the voltage that goes into the log. -/
def State.railFault (s : State) (r : Fin 4) (mv : Nat) : State :=
  let s1 := s.modRail r (fun x =>
    { x with state := .faulted, regulatorOn := false, reference := 0, settleTimer := none, inWindow := false })
  let s2 := (s1.logFailure .railFault none (some r.val) (BitVec.ofNat 16 mv)).notifyRail .b r
  if s2.slot.state.inRun then s2.enterDraining .railFault else s2

/-- R71: a retry. -/
def SocketRec.retry (r : SocketRec) : SocketRec :=
  { r.closeSwitch with faultCounter := Config.retryCounter, retries := r.retries + 1, retryDue := false,
                       state := .active }

/-- Is the socket an ISOLATED one whose retry is due (R70)? -/
def SocketRec.due (r : SocketRec) : Bool := r.state == .isolated && r.retryDue

/-- R72: the state a socket is held off from. -/
def SocketState.asPrior : SocketState → Option PriorState
  | .active => some .active
  | .warned => some .warned
  | _ => none

/-- R72: a zone's powered sockets are held off. -/
def State.holdOff (s : State) (z : Fin 6) : State :=
  (List.finRange 48).foldl (fun s k =>
    if s.inZone k z && (s.sock.sockets.get k).state.powered then
      let was := (s.sock.sockets.get k).state.asPrior
      (s.depart k).modSocket k (fun r => { r with state := .heldOff, prior := was })
    else s) s

/-- The state a released socket returns to (R73). -/
def PriorState.toSocket : PriorState → SocketState
  | .active => .active
  | .warned => .warned

/-- R73: a HELD_OFF socket returns to its prior state. -/
def SocketRec.release (r : SocketRec) : SocketRec :=
  match r.prior with
  | some p => { r.closeSwitch with state := p.toSocket, prior := none }
  | none => { r.closeSwitch with state := .active }

/-- R73 and R70: a zone back at REGULATING releases its held-off sockets in ARMING and RUNNING, and in RUNNING
retries those that are due. -/
def State.releaseZone (s : State) (z : Fin 6) : State :=
  if s.slot.state.inRun then
    s.setSock { s.sock with sockets := Bank.ofFn fun k =>
      let r := s.sock.sockets.get k
      if (s.inZone k z) = true then
        (if r.state = .heldOff then r.release
         else if r.due && s.slot.state == .running then r.retry
         else r)
      else r }
  else s

/-- R48: the socket switch-on, all switches in one event. -/
def State.switchOn (s : State) : State :=
  s.setSock { s.sock with sockets := Bank.ofFn fun k =>
    let r := s.sock.sockets.get k
    if r.state = .off then
      (if s.zoneAtFault k then { r with state := .heldOff, prior := some .active }
       else { r.closeSwitch with state := .active })
    else r }

/-- R142: the credit unit notes the four kinds of count. -/
def State.note (s : State) : State :=
  s.setCredit { s.credit with
    notedExcursions := s.rail.rails.map (·.excursions)
    notedBreaches := s.therm.zones.map (·.breaches)
    notedStalls := s.exer.stalls
    accounts := Bank.ofFn fun k =>
      { s.credit.accounts.get k with notedOff := (s.sock.sockets.get k).offCount } }

/-- R127: the exerciser at the slot's entry to RUNNING. -/
def State.beginPlay (s : State) : State := if s.exer.dynamic then s.takeFirstReady else s

/-- R70: the retries that the slot's entry to RUNNING makes. -/
def State.retryDue (s : State) : State :=
  s.setSock { s.sock with sockets := Bank.ofFn fun k =>
    let r := s.sock.sockets.get k
    if r.due && s.zoneRegulating k then r.retry else r }

/-- R12: the slot enters RUNNING; the exerciser acts (R127), due sockets are retried (R70), the credit unit notes
and its interval starts (R142); a run that is already complete ends at once (R16). -/
def State.enterRunning (s : State) : State :=
  let s1 := (s.setSlot { s.slot with armTimer := none }).moveTo .running
  let s2 := (s1.beginPlay.retryDue).note
  (s2.setCredit { s2.credit with timer := some Config.creditSeconds }).checkRunEnd

/-- R12: the arming test, made in ARMING. -/
def State.armingTest (s : State) : State :=
  if s.slot.state = .arming ∧ s.armed then s.enterRunning else s

/-- R26, R80: the identity record is discarded, and every zone's temperature with it. -/
def State.discardIdentity (s : State) : State :=
  (s.setIdent { s.ident with record := none }).setTherm
    { s.therm with zones := s.therm.zones.map fun z => { z with temperature := none } }

/-- R7, R26: entry to IDENTIFYING; any record is discarded and the first attempt begins. -/
def State.enterIdentifying (s : State) : State :=
  let s1 := s.discardIdentity
  (s1.setIdent { s1.ident with attempts := 1, attemptTimer := some Config.identityAttemptMs, waitTimer := none }).moveTo
    .identifying

/-- R7: an identity attempt fails: a 10 ms wait after the first and second, UNIDENTIFIED after the third. -/
def State.attemptFails (s : State) : State :=
  if s.ident.attempts < Config.identityAttempts then
    s.setIdent { s.ident with attemptTimer := none, waitTimer := some Config.identityWaitMs }
  else (s.setIdent { s.ident with attemptTimer := none }).moveTo .unidentified

/-- R4, R5: the make timer as the contacts stand while the board counts as not seated. -/
def SlotRec.watchMake (r : SlotRec) : SlotRec :=
  { r with makeTimer := if r.seatA && r.seatB then r.makeTimer.or (some Config.seatMakeMs) else none }

end Sys2Proof.Machine
end

