-- ==== Sys2Proof/Machine/Credit.lean ====
section
/-! DEFINITION. The credit interval's expiry (R143 to R147). -/

namespace Sys2Proof.Machine

/-- R143, step 1. An accumulated count at its top goes on to a free value (log 8). -/
def State.advanceSeconds (s : State) : State :=
  let c : CreditUnit := { s.credit with timer := none, currentRun := s.credit.currentRun + 1 }
  if s.credit.accumulated = BitVec.allOnes 32 then
    (s.setCredit { c with accumulated := Config.runSecondsPastTop s.freeCount }).setFreeCount (s.freeCount + 1)
  else s.setCredit { c with accumulated := s.credit.accumulated + 1 }

/-- R143, step 2: is the socket credited at this expiry? -/
def State.earns (s : State) (k : Fin 48) : Bool := !s.slot.paused && s.creditable k

/-- R143, step 2. -/
def State.grantCredit (s : State) : State :=
  s.setCredit { s.credit with accounts := Bank.ofFn fun k =>
    let a := s.credit.accounts.get k
    if (s.earns k) = true then { a with credited := a.credited + 1 } else a }

/-- R143, step 4: the sockets credited at this expiry that stand at the target, in ascending order. -/
def State.completeAll (s : State) (credited : Fin 48 → Bool) : State :=
  (List.finRange 48).foldl (fun t k =>
    if credited k && (t.credit.accounts.get k).credited == t.credit.target then t.complete k else t) s

/-- R143, steps 5 and 6. -/
def State.nextInterval (s : State) : State :=
  if s.slot.state = .running then
    (if s.credit.currentRun = s.credit.runLimit then s.enterDraining .runLimit
     else s.setCredit { s.credit with timer := some Config.creditSeconds })
  else s

/-- R143: one expiry of the credit interval timer. -/
def State.creditExpires (s : State) : State :=
  let s1 := s.advanceSeconds
  ((s1.grantCredit.note).completeAll s1.earns).nextInterval

def execCreditIntervalExpiry (s : State) : Host.Outcome State Fault Refusal :=
  .next (if s.credit.timer.isSome then s.creditExpires else s)

end Sys2Proof.Machine
end

