-- ==== Sys2Proof/Machine/Lifecycle.lean ====
section
/-! DEFINITION. The slot state machine's own events and the identity reader's (chapter 1). An expiry of a timer that
is not running does not come: nothing changes (log 4). -/

namespace Sys2Proof.Machine

/-- R4 to R6: the debounce at a change of the contacts. In HOLD it does not watch them (R3). -/
def SlotRec.contactsChange (r : SlotRec) (a b : Bool) : SlotRec :=
  let r1 := { r with seatA := a, seatB := b }
  if r.state = .hold then r1
  else if r.seated then
    { r1 with openTimer := if a && b then none else r.openTimer.or (some Config.seatOpenMs) }
  else r1.watchMake

def execSeatContactChange (a b : Bool) (s : State) : Host.Outcome State Fault Refusal :=
  .next (s.setSlot (s.slot.contactsChange a b))

/-- R5: the board counts as seated; in EMPTY its identity is read. -/
def State.seatFound (s : State) : State :=
  let s1 := s.setSlot { s.slot with seated := true, makeTimer := none }
  if s.slot.state = .empty then s1.enterIdentifying else s1

def execSeatMakeTimerExpiry (s : State) : Host.Outcome State Fault Refusal :=
  .next (if s.slot.makeTimer.isSome then s.seatFound else s)

/-- R6: the board is unseated. One C8B is raised, also when the slot enters SAFE (log 28). -/
def State.unseat (s : State) : State :=
  let s1 := (s.setSlot ({ s.slot with seated := false, openTimer := none }).watchMake).discardIdentity
  if s.slot.state.live then s1.enterSafe .unseat .unseat 8 .b
  else match s.slot.state with
    | .identifying =>
      ((s1.setIdent { s1.ident with attemptTimer := none, waitTimer := none }).notify 8 .b).moveTo .empty
    | .unidentified | .ready => (s1.notify 8 .b).moveTo .empty
    | _ => s1.notify 8 .b

def execSeatOpenTimerExpiry (s : State) : Host.Outcome State Fault Refusal :=
  .next (if s.slot.openTimer.isSome then s.unseat else s)

/-- R9: the chain opens. -/
def State.chainOpens (s : State) : State :=
  let s1 := s.setSlot { s.slot with chainOpen := true }
  if s.slot.state.live then s1.enterSafe .safetyChain .safetyChain 8 .a else s1.notify 8 .a

/-- R9: the chain made again raises no notice and changes no state; only the pin's level is recorded (log 3). -/
def execSafetyChainOpen (level : ChainLevel) (s : State) : Host.Outcome State Fault Refusal :=
  .next (match level with
    | .opened => s.chainOpens
    | .made => s.setSlot { s.slot with chainOpen := false })

/-- R7, R27, R28: the attempt's end. -/
def State.attemptEnds (s : State) (read : BusRead) : State :=
  match read with
  | .noAcknowledge => s.attemptFails
  | .bytes image =>
    match identityOf image with
    | some d => (s.setIdent { s.ident with record := some d, attemptTimer := none }).moveTo .ready
    | none => s.attemptFails

def execIdentityAttemptEnd (read : BusRead) (s : State) : Host.Outcome State Fault Refusal :=
  .next (if s.attempting then s.attemptEnds read else s)

def execIdentityAttemptTimeout (s : State) : Host.Outcome State Fault Refusal :=
  .next (if s.attempting then s.attemptFails else s)

/-- R7: the wait ends, the next attempt begins. -/
def execIdentityRetryWaitExpiry (s : State) : Host.Outcome State Fault Refusal :=
  .next (if s.ident.waitTimer.isSome && s.slot.state == .identifying then
      s.setIdent { s.ident with
        attempts := s.ident.attempts + 1, waitTimer := none, attemptTimer := some Config.identityAttemptMs }
    else s)

/-- R13 -/
def execArmTimerExpiry (s : State) : Host.Outcome State Fault Refusal :=
  .next (if s.slot.armTimer.isSome && s.slot.state == .arming then s.enterDraining .armTimeout else s)

/-- R18: the drain ends. -/
def State.drainEnds (s : State) : State :=
  (s.setSlot { s.slot with drainTimer := none }).moveTo
    (if s.slot.seated && s.ident.record.isSome then .ready else .empty)

def execDrainTimerExpiry (s : State) : Host.Outcome State Fault Refusal :=
  .next (if s.slot.drainTimer.isSome && s.slot.state == .draining then s.drainEnds else s)

/-- R22: the silence timer expires and is stopped until the next valid frame; one C9A is raised (log 28). -/
def State.silenceExpires (s : State) : State :=
  let s1 := s.setLink { s.link with silenceTimer := none }
  if s.link.silenceMode = .safe ∧ s.slot.state.live then s1.enterSafe .linkSilence .linkSilence 9 .a
  else s1.notify 9 .a

def execLinkSilenceExpiry (s : State) : Host.Outcome State Fault Refusal :=
  .next (if s.link.silenceTimer.isSome then s.silenceExpires else s)

end Sys2Proof.Machine
end

