-- ==== Sys2Proof/Machine/LinkOps.lean ====
section
/-! DEFINITION. What every request shares (chapter 11): its tests before the kind's own (R169), its reply or its
entry in the unanswered-results list (R170, R171), and a valid frame's way in (R167, R168, R22). -/

namespace Sys2Proof.Machine

/-- A request as its kind's own rule sees it, the tests of R169 steps 1 to 6 passed. -/
structure Call where
  hit : FilterHit
  target : Option Byte
  atBoundary : Bool
  quiet : Bool
  payload : List Byte
  deriving DecidableEq, Repr

/-- Will a reply be sent (R170)? -/
def Call.answered (c : Call) : Bool := c.hit == .unit && !c.quiet

def callOf (r : Request) : Call :=
  { hit := r.hit, target := lastTarget r.quals, atBoundary := r.quals.contains .atBoundary,
    quiet := r.quals.contains .quiet, payload := r.payload }

/-- The outcome of a request: the state, the result code, and what the reply carries after it. -/
structure Answer where
  state : State
  result : Result
  data : List Byte
  deriving DecidableEq, Repr

/-- A taken request that answers OK with nothing more. -/
def State.ok (s : State) : Answer := { state := s, result := .ok, data := [] }

/-- A read: OK and the data, nothing changed. -/
def State.report (s : State) (data : List Byte) : Answer := { state := s, result := .ok, data := data }

/-- OK, or CLAMPED. -/
def State.stored (s : State) (clamped : Bool) : Answer :=
  { state := s, result := if clamped then .clamped else .ok, data := [] }

/-- A refusal with its detail character; nothing changed (R170). -/
def State.refuse (s : State) (r : Result) (detail : Nat) : Answer :=
  { state := s, result := r, data := chars1 detail }

/-! ### The tests of R169 -/

/-- Step 4: does the TARGET fit the kind? -/
def targetFits (k : Kind) (target : Option Byte) : Bool :=
  match k.target, target with
  | .no, some _ => false
  | .required, none => false
  | _, _ => true

/-- Steps 2 and 4 to 6 for a request of a kind: the result of the first that fails. -/
def State.screen (s : State) (k : Kind) (r : Request) : Option Result :=
  if 4 < r.quals.length then some .badQualifier
  else if !targetFits k (lastTarget r.quals) then some .badQualifier
  else if r.quals.contains .atBoundary && !k.takesBoundary then some .badQualifier
  else if !k.lengthOk r.payload then some .badLength
  else if s.slot.state = .hold && !k.inHold then some .wrongState
  else none

/-- What a refusal by the tests of R169 carries: for a FRAME_DATA, told by its kind character (log 21), the received
count, with no detail character; for any other kind detail 0 (R112, R170). -/
def State.refusalData (s : State) (kindChar : Byte) : List Byte :=
  if kindChar = Kind.frameData.code then chars2 s.store.received else chars1 0

/-! ### Reply and record -/

/-- Append to the unanswered-results list, the oldest going first when it holds 4 (R171). -/
def Link.record (l : Link) (e : Unanswered) : Link :=
  { l with unanswered := (if l.unanswered.length < Config.unansweredLimit then l.unanswered
      else l.unanswered.drop 1) ++ [e] }

/-- The frame's end of execution: its reply is composed and it stays in hand (R168, R170), or its result is
recorded (R171). `kindChar` is the kind character, 0 for none. -/
def State.conclude (kindChar : Byte) (hit : FilterHit) (answered : Bool) (a : Answer) : State :=
  if answered then
    a.state.setLink { a.state.link with
      inHand := some { reply := { kind := kindChar + 0x80, result := a.result, payload := a.data }, sending := false } }
  else a.state.setLink (a.state.link.record { kind := kindChar, hit := hit, result := a.result })

/-- A request of a kind executed, by the kind's own rule (R168, R169). -/
def State.serve (s : State) (k : Kind) (r : Request) (rule : Call → State → Answer) : State :=
  let a := match s.screen k r with
    | some x => { state := s, result := x, data := s.refusalData k.code }
    | none => rule (callOf r) s
  State.conclude k.code r.hit (callOf r).answered a

/-- A malformed body, or a kind not in the catalogue, executed (R169, steps 1 to 3). -/
def State.serveUnknown (s : State) (hit : FilterHit) (h : BodyHead) : State :=
  let r := if h.short then Result.badLength
    else if h.foreign || decide (4 < h.count) then .badQualifier
    else .badKind
  let kindChar := h.kindChar.getD 0
  State.conclude kindChar hit (hit == .unit && !h.quals.contains .quiet)
    { state := s, result := r, data := s.refusalData kindChar }

/-! ### A valid frame's way in -/

/-- The silence timer restarted with the limit in force; a limit of 0 keeps it stopped (R21, R22). -/
def Link.restartSilence (l : Link) : Link :=
  { l with silenceTimer := if l.silenceLimit = 0 then none else some l.silenceLimit }

/-- The statistics a discard can move (R167). -/
inductive LinkError
  | crc | character | timeout | overrun
  deriving DecidableEq, Repr

def Link.count (l : Link) (e : LinkError) : Link :=
  match e with
  | .crc => { l with crcErrors := satInc 65535 l.crcErrors }
  | .character => { l with charErrors := satInc 65535 l.charErrors }
  | .timeout => { l with timeouts := satInc 65535 l.timeouts }
  | .overrun => { l with overruns := satInc 65535 l.overruns }

/-- R167: a frame is discarded: the receiver waits for an address, the statistic moves, C9B is raised. -/
def State.discard (s : State) (e : LinkError) : State :=
  (s.setLink { s.link.count e with receiver := .waitAddress }).notify 9 .b

/-- While a reply is being sent the receiver does not listen (R168). -/
def Link.sending (l : Link) : Bool :=
  match l.inHand with
  | some x => x.sending
  | none => false

/-- Is a frame in hand, or a RESTART executed whose shut-off has not come (R168, log 7)? -/
def Link.busy (l : Link) : Bool := l.inHand.isSome || l.restartDue

/-- A valid frame completes: it is executed at once, waits, or is discarded as overrun (R167, R168). `run` is its
execution. Nothing is heard while a reply is being sent. -/
def State.arrive (s : State) (hit : FilterHit) (body : List Byte) (run : State → State) : State :=
  if s.link.sending then s
  else if s.link.busy then
    (if s.link.waiting.isSome then s.discard .overrun
     else s.setLink { s.link.restartSilence with
       receiver := .waitAddress, waiting := some { hit := hit, body := body } })
  else run (s.setLink { s.link.restartSilence with receiver := .waitAddress })

/-- A message command: a valid frame of that kind completes (log 6). -/
def State.request (s : State) (k : Kind) (r : Request) (rule : Call → State → Answer) : State :=
  s.arrive r.hit (encodeBody k r) (fun t => t.serve k r rule)

end Sys2Proof.Machine
end

