-- ==== Sys2Proof/Machine/LinkMessages.lean ====
section
/-! DEFINITION. The kinds 0x01 to 0x09: PING, STATUS, RELEASE, RESTART, SET_LINK, SET_CLASS, ACK_CLASSES,
READ_UNANSWERED, LINK_STATS. -/

namespace Sys2Proof.Machine

/-- R165: SLOT strap plus 1. -/
def Link.unitAddress (l : Link) : Nat := l.straps.slot.toNat + 1

/-- R172 -/
def handlePing (_c : Call) (s : State) : Answer :=
  s.report (chars1 s.slot.restartCause.code ++ chars1 s.link.unitAddress)

/-- The pending classes by descending level, equal levels by ascending number (R159). -/
def Notices.pendingOrder (n : Notices) : List (Fin 12) :=
  [7, 6, 5, 4, 3, 2, 1, 0].flatMap fun level =>
    (List.finRange 12).filter fun c => (n.classes.get c).pending && (n.classes.get c).level == level

def Notices.pendingChars (n : Notices) : List Byte :=
  chars1 n.pendingOrder.length ++
    n.pendingOrder.flatMap fun c => chars1 c.val ++ chars1 (n.classes.get c).count

/-- R159 -/
def handleStatus (_c : Call) (s : State) : Answer :=
  s.report (chars1 s.slot.state.code ++ chars1 s.slot.endCause.code ++ charsFlag s.slot.paused
    ++ chars1 s.exer.state.code ++ charsFlag s.exer.holdRequested
    ++ charsFlag s.therm.slotBudget.scaled ++ charsFlag s.therm.slotBudget.hold
    ++ charsFlag s.attnLow ++ s.notice.pendingChars)

/-- R4 -/
def handleRelease (_c : Call) (s : State) : Answer :=
  (if s.slot.state = .hold then (s.setSlot s.slot.watchMake).moveTo .empty else s).ok

/-- R25: the shut-off and the reset are RESTART_SHUT_OFF (log 7). -/
def handleRestart (_c : Call) (s : State) : Answer :=
  (s.setLink { s.link with restartDue := true }).ok

def silenceModeOf : Nat → Option SilenceMode
  | 0 => some .notify | 1 => some .safe | _ => none

/-- R172, R21, R22: all five settings written, the silence timer restarted with the new limit (log 29). -/
def handleSetLink (c : Call) (s : State) : Answer :=
  match silenceModeOf (byteAt c.payload 1), yesNoOf (byteAt c.payload 2) with
  | some mode, some enable =>
    (s.setLink { s.link with
      silenceLimit := byteAt c.payload 0, silenceMode := mode, groupEnable := enable,
      groupCode := c.payload.getD 3 0, groupMask := c.payload.getD 4 0 }.restartSilence).ok
  | _, _ => s.refuse .badValue 0

/-- R161: a level of 0 also clears the class. -/
def ClassRec.setLevel (r : ClassRec) (level : Nat) : ClassRec :=
  if level = 0 then { level := 0, pending := false, count := 0 } else { r with level := level }

/-- R161 -/
def handleSetClass (c : Call) (s : State) : Answer :=
  let value := byteAt c.payload 1
  match indexOf 12 (byteAt c.payload 0) with
  | some k =>
    if value ≤ 7 then
      (s.setNotice { s.notice with classes := s.notice.classes.modify k (·.setLevel value) }).ok
    else s.refuse .badValue 0
  | none =>
    if byteAt c.payload 0 = 12 ∧ 1 ≤ value ∧ value ≤ 7 then (s.setNotice { s.notice with threshold := value }).ok
    else s.refuse .badValue 0

/-- R160: one pair on its class. -/
def ClassRec.acknowledge (r : ClassRec) (seen : Nat) : ClassRec :=
  if r.count = seen then { r with pending := false, count := 0 }
  else if seen < r.count then { r with count := r.count - seen }
  else r

/-- The pairs of a payload, if every class is one (R160). -/
def ackPairs : List Byte → Option (List (Fin 12 × Nat))
  | [] => some []
  | [_] => none
  | c :: seen :: rest =>
    match indexOf 12 c.toNat, ackPairs rest with
    | some k, some tail => some ((k, seen.toNat) :: tail)
    | _, _ => none

/-- R160: the pairs in order, with each class's count and pending flag after its pair. -/
def Notices.acknowledge (n : Notices) : List (Fin 12 × Nat) → Notices × List Byte
  | [] => (n, [])
  | (k, seen) :: rest =>
    let r := (n.classes.get k).acknowledge seen
    let out := Notices.acknowledge { n with classes := n.classes.set k r } rest
    (out.1, chars1 r.count ++ charsFlag r.pending ++ out.2)

/-- R160 -/
def handleAckClasses (c : Call) (s : State) : Answer :=
  match ackPairs c.payload with
  | some pairs =>
    let out := s.notice.acknowledge pairs
    { state := s.setNotice out.1, result := .ok, data := out.2 }
  | none => s.refuse .badValue 0

def Unanswered.chars (e : Unanswered) : List Byte := [e.kind] ++ chars1 (hitCode e.hit) ++ [e.result.code]

/-- R171: the list is emptied only when it is handed over in a reply. -/
def handleReadUnanswered (c : Call) (s : State) : Answer :=
  { state := if c.answered then s.setLink { s.link with unanswered := [] } else s
    result := .ok
    data := chars1 s.link.unanswered.length ++ s.link.unanswered.flatMap Unanswered.chars }

def Link.clearStats (l : Link) : Link := { l with crcErrors := 0, charErrors := 0, timeouts := 0, overruns := 0 }

/-- R172, R171: choice 1 clears the statistics, when a reply hands them over. -/
def handleLinkStats (c : Call) (s : State) : Answer :=
  match yesNoOf (byteAt c.payload 0) with
  | some clear =>
    { state := if clear && c.answered then s.setLink s.link.clearStats else s
      result := .ok
      data := chars2 s.link.crcErrors ++ chars2 s.link.charErrors ++ chars2 s.link.timeouts
        ++ chars2 s.link.overruns }
  | none => s.refuse .badValue 0

def execPing (r : Request) (s : State) : Host.Outcome State Fault Refusal := .next (s.request .ping r handlePing)

def execStatus (r : Request) (s : State) : Host.Outcome State Fault Refusal := .next (s.request .status r handleStatus)

def execRelease (r : Request) (s : State) : Host.Outcome State Fault Refusal :=
  .next (s.request .release r handleRelease)

def execRestart (r : Request) (s : State) : Host.Outcome State Fault Refusal :=
  .next (s.request .restart r handleRestart)

def execSetLink (r : Request) (s : State) : Host.Outcome State Fault Refusal :=
  .next (s.request .setLink r handleSetLink)

def execSetClass (r : Request) (s : State) : Host.Outcome State Fault Refusal :=
  .next (s.request .setClass r handleSetClass)

def execAckClasses (r : Request) (s : State) : Host.Outcome State Fault Refusal :=
  .next (s.request .ackClasses r handleAckClasses)

def execReadUnanswered (r : Request) (s : State) : Host.Outcome State Fault Refusal :=
  .next (s.request .readUnanswered r handleReadUnanswered)

def execLinkStats (r : Request) (s : State) : Host.Outcome State Fault Refusal :=
  .next (s.request .linkStats r handleLinkStats)

end Sys2Proof.Machine
end

