-- ==== Sys2Proof/Machine/RecipeOps.lean ====
section
/-! DEFINITION. The recipe's sections: reading them from a payload with their structural checks, the board clamps,
and writing them into a reply (chapter 2). A failed check answers its field's number. -/

namespace Sys2Proof.Machine

def within (lo hi v : Nat) : Bool := decide (lo ≤ v) && decide (v ≤ hi)

def withinInt (lo hi v : Int) : Bool := decide (lo ≤ v) && decide (v ≤ hi)

/-! ### Structural checks, in field order -/

/-- A yes/no or enumerated field. -/
def field {α : Type} (no : Nat) (x : Option α) : Except Nat α :=
  match x with
  | some v => .ok v
  | none => .error no

/-- A numeric field's test. -/
def require (no : Nat) (b : Bool) : Except Nat Unit := if b then .ok () else .error no

/-- R32 -/
def readGeneral (l : List Byte) : Except Nat General := do
  let target := u32At l 0
  let runLimit := u32At l 4
  require 1 (within 1 4000000 target)
  require 2 (within target 8000000 runLimit)
  require 3 (within 10 3600 (u16At l 8))
  let autoGo ← field 4 (yesNoOf (byteAt l 10))
  require 5 (within 100 20000 (u16At l 11))
  require 6 (within 0 7 (byteAt l 13))
  require 7 (within 1 600 (u16At l 14))
  let policy ← field 8 (policyOf (byteAt l 16))
  require 9 (within 1 255 (byteAt l 17))
  let dynamic ← field 10 (yesNoOf (byteAt l 18))
  let underrun ← field 11 (underrunOf (byteAt l 19))
  let mode ← field 12 (playModeOf (byteAt l 20))
  require 13 (within 0 31 (byteAt l 21))
  return { target := target, runLimit := runLimit, armTimeout := u16At l 8, autoGo := autoGo, budget := u16At l 11,
           retryLimit := byteAt l 13, cooldown := u16At l 14, policy := policy, threshold := byteAt l 17,
           dynamic := dynamic, underrun := underrun, mode := mode, lowWater := byteAt l 21 }

/-- R33 -/
def readRail (l : List Byte) : Except Nat RailSection := do
  let used ← field 1 (yesNoOf (byteAt l 0))
  require 2 (within 1 4 (byteAt l 1))
  require 3 (within 0 16000 (u16At l 2))
  require 4 (within 10 1000 (u16At l 4))
  require 5 (within 1 1000 (u16At l 6))
  require 6 (within 1 4000 (u16At l 8))
  require 7 (within 1 4000 (u16At l 10))
  return { used := used, order := byteAt l 1, setpoint := u16At l 2, window := u16At l 4, settle := u16At l 6,
           soft := u16At l 8, hard := u16At l 10 }

/-- R34 -/
def readZone (l : List Byte) : Except Nat ZoneSection := do
  require 1 (withinInt (-640) 4000 (s16At l 0))
  require 2 (within 8 800 (u16At l 2))
  require 3 (within 16 800 (u16At l 4) && decide (u16At l 2 < u16At l 4))
  return { setpoint := s16At l 0, window := u16At l 2, margin := u16At l 4, kp := byteAt l 6, ki := byteAt l 7 }

/-- R35: the populated map; any entry other than yes or no fails field 1. -/
def readSockets (l : List Byte) : Except Nat (Bank Bool 48) := do
  require 1 ((List.finRange 48).all fun k => (yesNoOf (byteAt l k.val)).isSome)
  return Bank.ofFn fun k => byteAt l k.val == 1

/-- R35 -/
def readTiming (l : List Byte) : Except Nat Timing := do
  require 1 (within 50 65535 (u16At l 0))
  require 2 (decide (1 ≤ u16At l 2) && decide (u16At l 2 < u16At l 0))
  return { period := u16At l 0, offset := u16At l 2 }

def fixedLevelOf : Nat → Option Bool := yesNoOf

/-- The mode of channel `c`: PAIR on an even channel only (R36). -/
def modeFor (c : Fin 16) (v : Nat) : Option ChannelMode :=
  match channelModeOf v with
  | some .pair => if c.val % 2 = 0 then some .pair else none
  | x => x

/-- R36: which fields are checked depends on the mode; those it does not use are stored as 0 or LOW. -/
def readChannel (c : Fin 16) (l : List Byte) : Except Nat ChannelSection := do
  let mode ← field 1 (modeFor c (byteAt l 0))
  let park ← field 2 (levelOf (byteAt l 1))
  let period := u16At l 3
  let high := u16At l 5
  let dead := byteAt l 7
  let base : ChannelSection := { mode := mode, park := park, fixedHigh := false, period := 0, high := 0, dead := 0 }
  match mode with
  | .vector => return base
  | .fixed =>
    let fixedHigh ← field 3 (fixedLevelOf (byteAt l 2))
    return { base with fixedHigh := fixedHigh }
  | .clock =>
    require 4 (within 2 65535 period)
    require 5 (decide (1 ≤ high) && decide (high < period))
    return { base with period := period, high := high }
  | .pair =>
    require 4 (within 2 65535 period)
    require 5 (decide (1 ≤ high) && decide (high < period))
    require 6 (within 1 255 dead)
    return { base with period := period, high := high, dead := dead }

/-- The fields of SET_PLAY, checked as GENERAL fields 11 to 13 in that order (R40, log 15). -/
def readPlay (l : List Byte) : Except Nat PlaySettings := do
  let underrun ← field 11 (underrunOf (byteAt l 1))
  let mode ← field 12 (playModeOf (byteAt l 0))
  require 13 (within 0 31 (byteAt l 2))
  return { mode := mode, underrun := underrun, lowWater := byteAt l 2 }

/-! ### Board clamps -/

/-- R33, in its order: setpoint, hard limit, soft limit. -/
def RailSection.clampTo (x : RailSection) (d : Identity) (r : Fin 4) : RailSection :=
  let hard := min x.hard (d.railMaxMa r)
  { x with setpoint := min x.setpoint (d.railMaxMv r), hard := hard, soft := min x.soft hard }

/-- R34 -/
def ZoneSection.clampTo (x : ZoneSection) (d : Identity) (z : Fin 6) : ZoneSection :=
  { x with setpoint := min x.setpoint (d.absLimit z - 16) }

/-- R35: a populated entry for a socket that is not fitted is stored as no. -/
def clampMap (m : Bank Bool 48) (d : Identity) : Bank Bool 48 :=
  Bank.ofFn fun k => m.get k && (d.wire k).isSome

/-- R36: the dead time of a PAIR. -/
def ChannelSection.clampDead (x : ChannelSection) : ChannelSection :=
  if x.mode = .pair then
    let m := min x.high (x.period - x.high)
    if m ≤ 2 * x.dead then { x with dead := (m - 1) / 2 } else x
  else x

/-- R38: the board clamps made again on every present section. -/
def Recipe.clampTo (c : Recipe) (d : Identity) : Recipe :=
  { c with
    rails := Bank.ofFn fun r => (c.rails.get r).map fun x => x.clampTo d r
    zones := Bank.ofFn fun z => (c.zones.get z).map fun x => x.clampTo d z
    sockets := c.sockets.map fun m => clampMap m d
    channels := c.channels.map fun o => o.map ChannelSection.clampDead }

/-! ### Storing a section -/

def Recipe.setRailSection (c : Recipe) (r : Fin 4) (x : RailSection) : Recipe :=
  { c with rails := c.rails.set r (some x) }

def Recipe.setZoneSection (c : Recipe) (z : Fin 6) (x : ZoneSection) : Recipe :=
  { c with zones := c.zones.set z (some x) }

def Recipe.setChannelSection (c : Recipe) (k : Fin 16) (x : ChannelSection) : Recipe :=
  { c with channels := c.channels.set k (some x) }

/-- One section named by selector and number (R31, R41). -/
inductive SectionRef
  | general | rail (r : Fin 4) | zone (z : Fin 6) | sockets | timing | channel (c : Fin 16)
  deriving DecidableEq, Repr

/-- The sections without a number carry 0 (R31); none for a selector or number out of range. -/
def sectionOf (sel num : Nat) : Option SectionRef :=
  match sel with
  | 0 => if num = 0 then some .general else none
  | 1 => (indexOf 4 num).map .rail
  | 2 => (indexOf 6 num).map .zone
  | 3 => if num = 0 then some .sockets else none
  | 4 => if num = 0 then some .timing else none
  | 5 => (indexOf 16 num).map .channel
  | _ => none

/-- A section read, clamped to the board in force, and stored: the recipe, and whether a clamp changed a value
(R31). In READY the identity is present; without one no clamp is made. -/
def Recipe.load (c : Recipe) (d : Option Identity) (ref : SectionRef) (l : List Byte) :
    Except Nat (Recipe × Bool) := do
  match ref with
  | .general =>
    let g ← readGeneral l
    return ({ c with general := some g }, false)
  | .rail r =>
    let x ← readRail l
    let y := match d with | some b => x.clampTo b r | none => x
    return (c.setRailSection r y, decide (y ≠ x))
  | .zone z =>
    let x ← readZone l
    let y := match d with | some b => x.clampTo b z | none => x
    return (c.setZoneSection z y, decide (y ≠ x))
  | .sockets =>
    let x ← readSockets l
    let y := match d with | some b => clampMap x b | none => x
    return ({ c with sockets := some y }, decide (y ≠ x))
  | .timing =>
    let t ← readTiming l
    return ({ c with timing := some t }, false)
  | .channel k =>
    let x ← readChannel k l
    return (c.setChannelSection k x.clampDead, decide (x.clampDead ≠ x))

/-! ### Sections in a reply (R41, R173) -/

def General.chars (g : General) : List Byte :=
  chars4 g.target ++ chars4 g.runLimit ++ chars2 g.armTimeout ++ charsFlag g.autoGo ++ chars2 g.budget
    ++ chars1 g.retryLimit ++ chars2 g.cooldown ++ chars1 g.policy.code ++ chars1 g.threshold
    ++ charsFlag g.dynamic ++ chars1 g.underrun.code ++ chars1 g.mode.code ++ chars1 g.lowWater

def RailSection.chars (x : RailSection) : List Byte :=
  charsFlag x.used ++ chars1 x.order ++ chars2 x.setpoint ++ chars2 x.window ++ chars2 x.settle
    ++ chars2 x.soft ++ chars2 x.hard

def ZoneSection.chars (x : ZoneSection) : List Byte :=
  charsInt x.setpoint ++ chars2 x.window ++ chars2 x.margin ++ chars1 x.kp ++ chars1 x.ki

def mapChars (m : Bank Bool 48) : List Byte := m.cells.flatMap charsFlag

def Timing.chars (t : Timing) : List Byte := chars2 t.period ++ chars2 t.offset

def ChannelSection.chars (x : ChannelSection) : List Byte :=
  chars1 x.mode.code ++ chars1 x.park.code ++ charsFlag x.fixedHigh ++ chars2 x.period ++ chars2 x.high
    ++ chars1 x.dead

/-- The fields of a section, if it is present. -/
def Recipe.fields (c : Recipe) : SectionRef → Option (List Byte)
  | .general => c.general.map General.chars
  | .rail r => (c.rails.get r).map RailSection.chars
  | .zone z => (c.zones.get z).map ZoneSection.chars
  | .sockets => c.sockets.map mapChars
  | .timing => c.timing.map Timing.chars
  | .channel k => (c.channels.get k).map ChannelSection.chars

/-! ### The cross-checks at START (R37) -/

def Recipe.railUsed (c : Recipe) (r : Fin 4) : Bool :=
  match c.rails.get r with
  | some x => x.used
  | none => false

/-- The orders of the used rails, in rail order. -/
def Recipe.orders (c : Recipe) : List Nat :=
  c.rails.cells.filterMap fun o =>
    match o with
    | some x => if x.used then some x.order else none
    | none => none

def allDistinct : List Nat → Bool
  | [] => true
  | x :: rest => !rest.contains x && allDistinct rest

def State.checkRails (s : State) : Bool :=
  !s.recipe.orders.isEmpty && allDistinct s.recipe.orders

def State.checkSocketRails (s : State) : Bool :=
  (List.finRange 48).all fun k =>
    !s.populated k || (match s.wire k with | some w => s.recipe.railUsed w.rail | none => false)

def State.checkPopulated (s : State) : Bool := (List.finRange 48).any s.populated

def State.checkDynamic (s : State) : Bool :=
  match s.recipe.general with
  | some g => !g.dynamic || (s.recipe.timing.isSome && s.recipe.channels.cells.all Option.isSome)
  | none => true

/-- The number of the first cross-check that fails. -/
def State.failingCheck (s : State) : Option Nat :=
  if s.recipe.general.isNone then some 1
  else if !s.checkRails then some 2
  else if !s.checkSocketRails then some 3
  else if !s.recipe.zones.cells.all Option.isSome then some 4
  else if !s.checkPopulated then some 5
  else if !s.checkDynamic then some 6
  else none

end Sys2Proof.Machine
end

