-- ==== Sys2Proof/Machine/RecipeMessages.lean ====
section
/-! DEFINITION. The kinds 0x10 to 0x13: READ_IDENTITY, REIDENTIFY, LOAD_RECIPE, READ_RECIPE. -/

namespace Sys2Proof.Machine

/-- R29: the range test first, then the identity test. -/
def handleReadIdentity (c : Call) (s : State) : Answer :=
  let offset := u16At c.payload 0
  let n := byteAt c.payload 2
  if within 0 301 offset && within 1 240 n && decide (offset + n ≤ 302) then
    match s.ident.record with
    | some d => s.report ((d.image.cells.drop offset).take n)
    | none => s.refuse .noIdentity 0
  else s.refuse .badValue 0

/-- R8 -/
def handleReidentify (_c : Call) (s : State) : Answer :=
  match s.slot.state with
  | .unidentified | .ready => { state := s.enterIdentifying, result := .accepted, data := [] }
  | _ => s.refuse .wrongState 0

/-- R31: selector and number are field 0. -/
def handleLoadRecipe (c : Call) (s : State) : Answer :=
  if s.slot.state = .ready then
    match sectionOf (byteAt c.payload 0) (byteAt c.payload 1) with
    | none => s.refuse .badValue 0
    | some ref =>
      match s.recipe.load s.ident.record ref (c.payload.drop 2) with
      | .error no => s.refuse .badValue no
      | .ok (recipe, clamped) => (s.setRecipe recipe).stored clamped
  else s.refuse .wrongState 0

/-- R41 -/
def handleReadRecipe (c : Call) (s : State) : Answer :=
  match sectionOf (byteAt c.payload 0) (byteAt c.payload 1) with
  | none => s.refuse .badValue 0
  | some ref =>
    s.report (match s.recipe.fields ref with
      | some fields => charsFlag true ++ fields
      | none => charsFlag false)

def execReadIdentity (r : Request) (s : State) : Host.Outcome State Fault Refusal :=
  .next (s.request .readIdentity r handleReadIdentity)

def execReidentify (r : Request) (s : State) : Host.Outcome State Fault Refusal :=
  .next (s.request .reidentify r handleReidentify)

def execLoadRecipe (r : Request) (s : State) : Host.Outcome State Fault Refusal :=
  .next (s.request .loadRecipe r handleLoadRecipe)

def execReadRecipe (r : Request) (s : State) : Host.Outcome State Fault Refusal :=
  .next (s.request .readRecipe r handleReadRecipe)

end Sys2Proof.Machine
end

