-- ==== Sys2Proof/Machine/StartOps.lean ====
section
/-! DEFINITION. What each block does when START is taken (R11): R38, R43, R44, R60, R79, R99, R109, R126, R148,
R149. -/

namespace Sys2Proof.Machine

/-- START's choice. -/
inductive StartChoice
  | new | continue
  deriving DecidableEq, Repr

def startChoiceOf : Nat → Option StartChoice
  | 0 => some .new | 1 => some .continue | _ => none

/-- R10, check 4: does the board and its populated set match the accounts? -/
def State.accountsMatch (s : State) (d : Identity) : Bool :=
  s.credit.prevRun && s.credit.serial == some d.serial
  && (List.finRange 48).all fun k => s.populated k == ((s.sock.sockets.get k).state != .vacant)

/-! ### Rails, sockets and zones -/

/-- R43: a rail record loaded and set to OFF; an absent section loads an unused rail. -/
def RailRec.load (r : RailRec) (x : Option RailSection) : RailRec :=
  let off := { r with state := .off, regulatorOn := false, reference := 0, settleTimer := none, outRun := 0 }
  match x with
  | some y => { off with used := y.used, order := some y.order, setpoint := y.setpoint, window := y.window,
                         settle := y.settle }
  | none => { off with used := false, order := none, setpoint := 0, window := 0, settle := 0 }

/-- R43, R44: the records loaded, the start sequence set up, its first rail started. -/
def RailCtl.begin (c : RailCtl) (p : Recipe) : RailCtl :=
  let c1 := { c with rails := Bank.ofFn fun r => (c.rails.get r).load (p.rails.get r) }
  let order := c1.usedInOrder
  { c1 with
    startSeq := order
    seqComplete := false
    rails := match order with
      | r :: _ => c1.rails.modify r RailRec.startUp
      | [] => c1.rails }

/-- R60, step 2. -/
def SocketRec.clearRun (r : SocketRec) : SocketRec :=
  { r with faultCounter := 0, blanking := none, cooldown := none, retryDue := false, prior := none }

/-- R148: a supervision record at START NEW. -/
def SocketRec.renew (r : SocketRec) (populated : Bool) : SocketRec :=
  { r with state := if populated then .off else .vacant, cause := none, retries := 0, softTrips := 0,
           hardTrips := 0 }

/-- R149: the socket's state at START CONTINUE, by its credit against the new target. -/
def SocketState.continued (x : SocketState) (reached : Bool) : SocketState :=
  match x with
  | .completed => if reached then .completed else .off
  | .off => if reached then .completed else .off
  | y => y

/-- R149: a supervision record at START CONTINUE. -/
def SocketRec.carryOn (r : SocketRec) (reached : Bool) (retryLimit : Nat) : SocketRec :=
  { r with state := r.state.continued reached, retries := min retryLimit r.retries }

/-- R60, step 1: the supervisor's run copy. -/
def Supervisor.loadCopy (v : Supervisor) (p : Recipe) (g : General) : Supervisor :=
  { v with
    softLimits := p.rails.map fun o => match o with | some x => x.soft | none => 0
    hardLimits := p.rails.map fun o => match o with | some x => x.hard | none => 0
    retryLimit := g.retryLimit
    cooldownTime := g.cooldown }

/-- R79: a zone at START. -/
def ZoneRec.begin (z : ZoneRec) (x : Option ZoneSection) : ZoneRec :=
  let on := { z with state := .regulating, integrator := 0, u := 0, granted := 0, limited := false, inWindow := false }
  match x with
  | some y => { on with setpoint := y.setpoint, window := y.window, margin := y.margin, kp := y.kp, ki := y.ki }
  | none => on

/-- R99: the slot budget at START. -/
def BudgetRec.begin (b : BudgetRec) (g : General) : BudgetRec :=
  { b with budget := g.budget, scaled := false, overRun := 0, hold := false }

/-! ### Exerciser and store -/

/-- R126: a compare record at START. -/
def CompareRec.begin (r : CompareRec) (choice : StartChoice) : CompareRec :=
  let x := { r.clearWindow with logged := false }
  match choice with
  | .new => { x with mismatchTotal := 0, functionalFails := 0 }
  | .continue => x

/-- R126: absent CHANNEL and TIMING sections are loaded as R30 parks them. -/
def Exerciser.begin (e : Exerciser) (p : Recipe) (g : General) (choice : StartChoice) : Exerciser :=
  { e with
    timing := p.timing.getD { period := 0, offset := 0 }
    channels := p.channels.map fun o => o.getD ChannelSection.atReset
    dynamic := g.dynamic
    underrun := g.underrun
    policy := g.policy
    threshold := g.threshold
    boundary := Settings.empty
    staged := Settings.empty
    compare := e.compare.map fun r => r.begin choice }

/-- R109: the store's mode and mark at START. -/
def Store.begin (st : Store) (g : General) : Store := { st.setMode g.mode with lowWater := g.lowWater }

/-! ### Accounts -/

/-- R148, R149: what START sets for both choices. -/
def CreditUnit.loadCopy (c : CreditUnit) (g : General) : CreditUnit :=
  { c with target := g.target, runLimit := g.runLimit, currentRun := 0 }

/-- R148: the credit unit at START NEW. -/
def CreditUnit.renew (c : CreditUnit) (d : Identity) : CreditUnit :=
  { c with
    prevRun := true
    serial := some d.serial
    accumulated := 0
    accounts := c.accounts.map fun a => { a with credited := 0, stamp := none } }

/-- R149: an account at START CONTINUE, by the socket's state before. -/
def AccountRec.carryOn (a : AccountRec) (x : SocketState) (target : Nat) (now : Word32) : AccountRec :=
  let reached := decide (target ≤ a.credited)
  match x with
  | .completed => if reached then { a with credited := target } else { a with stamp := none }
  | .off => if reached then { a with credited := target, stamp := some now } else a
  | .retired => if reached then { a with credited := target - 1 } else a
  | _ => a

/-- R148: the accounts set for NEW. -/
def State.renewAccounts (s : State) (d : Identity) : State :=
  let s1 := s.setCredit (s.credit.renew d)
  let s2 := s1.setFail { s1.fail with marks := Bank.replicate 48 { first := none, last := none } }
  s2.setSock { s2.sock with sockets := Bank.ofFn fun k => (s2.sock.sockets.get k).renew (s.populated k) }

/-- R149: is the socket completed by this START CONTINUE? -/
def State.newlyComplete (s : State) (k : Fin 48) : Bool :=
  (s.sock.sockets.get k).state == .off && decide (s.credit.target ≤ (s.credit.accounts.get k).credited)

/-- R149: the accounts carried on, the target already loaded; C2B for each socket newly completed. -/
def State.carryAccounts (s : State) : State :=
  let t := s.credit.target
  let carried := fun k =>
    (s.sock.sockets.get k).carryOn (decide (t ≤ (s.credit.accounts.get k).credited)) s.sock.retryLimit
  let account := fun k =>
    (s.credit.accounts.get k).carryOn (s.sock.sockets.get k).state t s.credit.accumulated
  let s1 := s.setSock { s.sock with sockets := Bank.ofFn carried }
  let s2 := s1.setCredit { s1.credit with accounts := Bank.ofFn account }
  (List.finRange 48).foldl (fun u k => if s.newlyComplete k then u.notify 2 .b else u) s2

/-- R148, R149 -/
def State.setAccounts (s : State) (choice : StartChoice) (d : Identity) : State :=
  match choice with
  | .new => s.renewAccounts d
  | .continue => s.carryAccounts

/-! ### The event -/

/-- R11, once the checks of R10 have passed with GENERAL `g` and the board `d`. The populated set is read after the
re-clamp, which does not change it. -/
def State.startRun (s : State) (choice : StartChoice) (g : General) (d : Identity) : State :=
  let s1 := s.setRecipe (s.recipe.clampTo d)
  let p := s1.recipe
  let s2 := s1.setSock { s1.sock.loadCopy p g with sockets := s1.sock.sockets.map SocketRec.clearRun }
  let s3 := (s2.setCredit (s2.credit.loadCopy g)).setAccounts choice d
  let s4 := s3.setTherm
    { s3.therm with
      zones := Bank.ofFn fun z => (s3.therm.zones.get z).begin (p.zones.get z)
      slotBudget := s3.therm.slotBudget.begin g }
  let s5 := (s4.setStore (s4.store.begin g)).setExer (s4.exer.begin p g choice)
  let s6 := s5.setRail (s5.rail.begin p)
  (s6.setSlot { s6.slot with
    endCause := .none, goGiven := false, paused := false, armTimer := some g.armTimeout }).moveTo .arming

end Sys2Proof.Machine
end

