-- ==== Sys2Proof/Machine/RunMessages.lean ====
section
/-! DEFINITION. The kinds 0x18 to 0x1E: START, GO, STOP, PAUSE, RESUME, CLEAR_SAFE, RETIRE_SOCKET. -/

namespace Sys2Proof.Machine

/-- R10 in READY: the checks in order, then R11. -/
def State.tryStart (s : State) (choice : StartChoice) : Answer :=
  if s.slot.chainOpen then s.refuse .interlock 0
  else match s.ident.record with
    | none => s.refuse .noIdentity 0
    | some d =>
      match s.failingCheck, s.recipe.general with
      | some no, _ => s.refuse .noRecipe no
      | none, none => s.refuse .noRecipe 1
      | none, some g =>
        if choice = .continue ∧ s.accountsMatch d = false then s.refuse .mismatch 0
        else (s.startRun choice g d).ok

/-- R10, R11: the payload first, in every state but HOLD. -/
def handleStart (c : Call) (s : State) : Answer :=
  match startChoiceOf (byteAt c.payload 0) with
  | none => s.refuse .badValue 0
  | some choice =>
    match s.slot.state with
    | .ready => s.tryStart choice
    | .draining => s.refuse .busy 0
    | _ => s.refuse .wrongState 0

/-- R12 -/
def handleGo (_c : Call) (s : State) : Answer :=
  match s.slot.state with
  | .arming => (s.setSlot { s.slot with goGiven := true }).armingTest.ok
  | .running => s.ok
  | .draining => s.refuse .busy 0
  | _ => s.refuse .wrongState 0

/-- R15 -/
def handleStop (_c : Call) (s : State) : Answer :=
  match s.slot.state with
  | .arming | .running => (s.enterDraining .stopped).ok
  | .draining => s.ok
  | _ => s.refuse .wrongState 0

/-- R14, R130: the paused flag and PAUSE in the hold set. -/
def State.setPaused (s : State) (p : Bool) : State :=
  (s.setSlot { s.slot with paused := p }).setHolds s.exer.holdBudget p

/-- R14 -/
def handlePause (_c : Call) (s : State) : Answer :=
  if s.slot.state = .running then (if s.slot.paused then s else s.setPaused true).ok
  else s.refuse .wrongState 0

/-- R14 -/
def handleResume (_c : Call) (s : State) : Answer :=
  if s.slot.state = .running then (if s.slot.paused then s.setPaused false else s).ok
  else s.refuse .wrongState 0

/-- R20: where CLEAR_SAFE leads. -/
def State.clearSafe (s : State) : State :=
  if s.slot.seated then (if s.ident.record.isSome then s.moveTo .ready else s.enterIdentifying)
  else (s.setSlot s.slot.watchMake).moveTo .empty

/-- R20 -/
def handleClearSafe (_c : Call) (s : State) : Answer :=
  match s.slot.state with
  | .safe => if s.slot.chainOpen then s.refuse .interlock 0 else s.clearSafe.ok
  | .draining => s.refuse .busy 0
  | _ => s.refuse .wrongState 0

/-- The target's number; 255 stands for none, which R169 has refused where one is required. -/
def Call.index (c : Call) : Nat :=
  match c.target with
  | some t => t.toNat
  | none => 255

/-- R74: may the socket be retired? -/
def SocketState.retirable : SocketState → Bool
  | .off | .active | .warned | .heldOff | .isolated => true
  | _ => false

/-- R74 -/
def handleRetireSocket (c : Call) (s : State) : Answer :=
  if s.slot.state.inRun then
    match indexOf 48 c.index with
    | some k =>
      if (s.sock.sockets.get k).state.retirable then (s.retire k .operator).ok else s.refuse .badValue 0
    | none => s.refuse .badValue 0
  else s.refuse .wrongState 0

def execStart (r : Request) (s : State) : Host.Outcome State Fault Refusal := .next (s.request .start r handleStart)

def execGo (r : Request) (s : State) : Host.Outcome State Fault Refusal := .next (s.request .go r handleGo)

def execStop (r : Request) (s : State) : Host.Outcome State Fault Refusal := .next (s.request .stop r handleStop)

def execPause (r : Request) (s : State) : Host.Outcome State Fault Refusal := .next (s.request .pause r handlePause)

def execResume (r : Request) (s : State) : Host.Outcome State Fault Refusal := .next (s.request .resume r handleResume)

def execClearSafe (r : Request) (s : State) : Host.Outcome State Fault Refusal :=
  .next (s.request .clearSafe r handleClearSafe)

def execRetireSocket (r : Request) (s : State) : Host.Outcome State Fault Refusal :=
  .next (s.request .retireSocket r handleRetireSocket)

end Sys2Proof.Machine
end

