-- ==== Sys2Proof/Machine/RecordMessages.lean ====
section
/-! DEFINITION. The kinds 0x30 to 0x33: READ_SOCKETS, FETCH_FAILURES, ARM_CAPTURE, READ_CAPTURE. -/

namespace Sys2Proof.Machine

/-! ### READ_SOCKETS (R150) -/

/-- R150: the header. -/
def CreditUnit.headerChars (c : CreditUnit) : List Byte :=
  charsFlag c.prevRun ++ charsOptWord32 c.serial ++ chars4 c.target ++ chars4 c.runLimit
    ++ charsWord32 c.accumulated ++ chars4 c.currentRun

def markKind : Option FailureMark → Nat
  | some m => m.kind.code
  | none => 0

def markStamp (m : Option FailureMark) : List Byte := charsStamp (m.map FailureMark.stamp)

/-- R173: the socket account, 24 characters. -/
def State.accountChars (s : State) (k : Fin 48) : List Byte :=
  let r := s.sock.sockets.get k
  let a := s.credit.accounts.get k
  let x := s.exer.compare.get k
  let m := s.fail.marks.get k
  chars1 (r.state.code * 16 + (s.verdict k).code)
    ++ chars1 r.faultCounter
    ++ chars1 ((match r.cause with | some y => y.code | none => 0) * 16 + r.retries)
    ++ chars1 r.softTrips ++ chars1 r.hardTrips
    ++ chars3 a.credited ++ charsStamp (if r.state = .completed then a.stamp else none)
    ++ chars2 x.mismatchTotal ++ chars1 x.functionalFails
    ++ chars1 (markKind m.first * 16 + markKind m.last) ++ markStamp m.first ++ markStamp m.last

/-- The first socket read (R150). -/
def Call.firstSocket (c : Call) : Nat :=
  match c.target with
  | some t => t.toNat
  | none => 0

/-- R150 -/
def handleReadSockets (c : Call) (s : State) : Answer :=
  let first := c.firstSocket
  let n := byteAt c.payload 0
  if decide (first ≤ 47) && decide (1 ≤ n) && decide (n ≤ 8) && decide (first + n ≤ 48) then
    s.report (s.credit.headerChars
      ++ ((List.finRange 48).filter fun k => decide (first ≤ k.val) && decide (k.val < first + n)).flatMap
        s.accountChars)
  else s.refuse .badValue 0

/-! ### FETCH_FAILURES (R155) -/

/-- R173: the failure entry, 11 characters. -/
def FailureEntry.chars (e : FailureEntry) : List Byte :=
  charsWord16 e.seq ++ chars1 e.kind.code
    ++ chars1 (match e.socket with | some k => k.val | none => 255)
    ++ chars1 (e.unit.getD 255)
    ++ charsWord32 e.stamp ++ charsWord16 e.detail

/-- R155: entries leave, and the dropped count is cleared, only when a reply hands them over. -/
def handleFetchFailures (c : Call) (s : State) : Answer :=
  let n := byteAt c.payload 0
  if within 1 8 n then
    let taken := s.fail.log.take n
    let left := s.fail.log.drop n
    { state := if c.answered then s.setFail { s.fail with log := left, dropped := 0 } else s
      result := .ok
      data := chars1 taken.length ++ chars1 left.length ++ chars2 s.fail.dropped ++ charsWord16 s.fail.nextSeq
        ++ taken.flatMap FailureEntry.chars }
  else s.refuse .badValue 0

/-! ### ARM_CAPTURE and READ_CAPTURE (R162, R164) -/

/-- The classes a capture can be bound to (R162). -/
def captureClassOf : Nat → Option (Fin 12)
  | 1 => some 1 | 4 => some 4 | 5 => some 5 | _ => none

/-- The other channel. -/
def otherChannel (ch : Fin 2) : Fin 2 := if ch = 0 then 1 else 0

/-- R162 -/
def handleArmCapture (c : Call) (s : State) : Answer :=
  match indexOf 2 (byteAt c.payload 0), captureClassOf (byteAt c.payload 1), sourceOf (byteAt c.payload 2) with
  | some ch, some cls, some src =>
    let n := byteAt c.payload 3
    let fresh : CaptureChannel := { binding := some { cls := cls, source := src, remaining := n }, buffer := [] }
    if within 1 8 n then
      (if (s.notice.capture.get (otherChannel ch)).boundTo cls then s.refuse .duplicate 0
       else (s.setNotice { s.notice with capture := s.notice.capture.set ch fresh }).ok)
    else s.refuse .badValue 0
  | _, _, _ => s.refuse .badValue 0

/-- R164, R173: a binding; absent as class 255, source 0, remaining 0. -/
def bindingChars : Option Binding → List Byte
  | some b => chars1 b.cls.val ++ chars1 b.source.code ++ chars1 b.remaining
  | none => chars1 255 ++ chars1 0 ++ chars1 0

def HistoryCopy.chars : HistoryCopy → List Byte
  | .counts b => b.cells.flatMap chars2
  | .temperatures b => b.cells.flatMap charsTemperature

def Snapshot.chars (x : Snapshot) : List Byte :=
  chars1 x.cls.val ++ chars1 x.source.code ++ chars1 x.unit ++ charsWord32 x.stamp ++ x.history.chars

/-- R164 -/
def handleReadCapture (c : Call) (s : State) : Answer :=
  match indexOf 2 (byteAt c.payload 0) with
  | some ch =>
    let x := s.notice.capture.get ch
    if byteAt c.payload 1 ≤ 7 then
      s.report (bindingChars x.binding ++ chars1 x.buffer.length
        ++ (match x.buffer[byteAt c.payload 1]? with
            | some snap => charsFlag true ++ snap.chars
            | none => charsFlag false))
    else s.refuse .badValue 0
  | none => s.refuse .badValue 0

def execReadSockets (r : Request) (s : State) : Host.Outcome State Fault Refusal :=
  .next (s.request .readSockets r handleReadSockets)

def execFetchFailures (r : Request) (s : State) : Host.Outcome State Fault Refusal :=
  .next (s.request .fetchFailures r handleFetchFailures)

def execArmCapture (r : Request) (s : State) : Host.Outcome State Fault Refusal :=
  .next (s.request .armCapture r handleArmCapture)

def execReadCapture (r : Request) (s : State) : Host.Outcome State Fault Refusal :=
  .next (s.request .readCapture r handleReadCapture)

end Sys2Proof.Machine
end

