-- ==== Sys2Proof/Machine/SettingMessages.lean ====
section
/-! DEFINITION. The kinds 0x20 to 0x26 and 0x2C: SET_ZONE, SET_RAIL, SET_BUDGET, READ_ZONES, READ_RAILS, SET_TIMING,
SET_CHANNEL, SET_PLAY. -/

namespace Sys2Proof.Machine

/-! ### SET_ZONE (R39, R97) -/

def ZoneRec.loadCopy (z : ZoneRec) (x : ZoneSection) : ZoneRec :=
  { z with setpoint := x.setpoint, window := x.window, margin := x.margin, kp := x.kp, ki := x.ki }

/-- The section clamped to the zone's own limit. -/
def State.zoneSectionFor (s : State) (x : ZoneSection) (z : Fin 6) : ZoneSection :=
  match s.ident.record with
  | some d => x.clampTo d z
  | none => x

/-- Every zone addressed is written, in the recipe and in the record. -/
def State.writeZones (s : State) (x : ZoneSection) (addressed : Fin 6 → Bool) : State :=
  let stored := fun z => if addressed z then some (s.zoneSectionFor x z) else s.recipe.zones.get z
  let copied := fun z =>
    if addressed z then (s.therm.zones.get z).loadCopy (s.zoneSectionFor x z) else s.therm.zones.get z
  let s1 := s.setRecipe { s.recipe with zones := Bank.ofFn stored }
  s1.setTherm { s1.therm with zones := Bank.ofFn copied }

/-- The zones addressed: the TARGET's alone, or all six. None for a target out of range. -/
def zonesAddressed : Option Byte → Option (Fin 6 → Bool)
  | none => some fun _ => true
  | some t => (indexOf 6 t.toNat).map fun z => fun y => y == z

/-- R39 -/
def handleSetZone (c : Call) (s : State) : Answer :=
  if s.slot.state.inRun then
    match zonesAddressed c.target with
    | none => s.refuse .badValue 0
    | some addressed =>
      match readZone c.payload with
      | .error no => s.refuse .badValue no
      | .ok x =>
        (s.writeZones x addressed).stored
          ((List.finRange 6).any fun z => addressed z && s.zoneSectionFor x z != x)
  else s.refuse .wrongState 0

/-! ### SET_RAIL (R39, R51) -/

/-- R51: a used rail takes a new setpoint. -/
def RailRec.retarget (r : RailRec) (mv : Nat) : RailRec :=
  match r.state with
  | .off | .faulted => { r with setpoint := mv }
  | .ramping => { r with setpoint := mv, reference := mv, settleTimer := some r.settle }
  | .regulated => { r with setpoint := mv, reference := mv, settleTimer := some r.settle, outRun := 0 }

/-- The setpoint clamped to the board. -/
def State.railSetpointFor (s : State) (r : Fin 4) (mv : Nat) : Nat :=
  match s.ident.record with
  | some d => min mv (d.railMaxMv r)
  | none => mv

/-- The setpoint written to the recipe, and to the record of a used rail (log 14). -/
def State.retargetRail (s : State) (r : Fin 4) (x : RailSection) (mv : Nat) : State :=
  let s1 := s.setRecipe (s.recipe.setRailSection r { x with setpoint := mv })
  if (s.rail.rails.get r).used then s1.modRail r (fun y => y.retarget mv) else s1

/-- R39 -/
def handleSetRail (c : Call) (s : State) : Answer :=
  if s.slot.state.inRun then
    match indexOf 4 c.index with
    | none => s.refuse .badValue 0
    | some r =>
      match s.recipe.rails.get r with
      | none => s.refuse .noRecipe 2
      | some x =>
        let mv := u16At c.payload 0
        if mv ≤ Config.railTopMv then
          (s.retargetRail r x (s.railSetpointFor r mv)).stored (s.railSetpointFor r mv != mv)
        else s.refuse .badValue 3
  else s.refuse .wrongState 0

/-! ### SET_BUDGET (R39, R107) -/

def State.writeBudget (s : State) (b : Nat) : State :=
  let s1 := s.setRecipe { s.recipe with general := s.recipe.general.map fun g => { g with budget := b } }
  s1.setTherm { s1.therm with slotBudget := { s1.therm.slotBudget with budget := b } }

/-- R39 -/
def handleSetBudget (c : Call) (s : State) : Answer :=
  if s.slot.state.inRun then
    (if within 100 20000 (u16At c.payload 0) then (s.writeBudget (u16At c.payload 0)).ok else s.refuse .badValue 5)
  else s.refuse .wrongState 0

/-! ### READ_ZONES and READ_RAILS -/

/-- R98 -/
def ZoneRec.chars (z : ZoneRec) : List Byte :=
  chars1 z.state.code ++ charsInt z.setpoint ++ chars2 z.window ++ chars2 z.margin ++ chars1 z.kp ++ chars1 z.ki
    ++ chars2 z.code ++ charsTemperature z.temperature ++ chars1 z.invalidRun ++ charsFlag z.inWindow
    ++ charsWord32 z.breaches ++ chars2 z.integrator ++ chars2 z.u ++ chars2 z.granted ++ charsFlag z.limited
    ++ chars2 z.appliedDuty

/-- R108 -/
def BudgetRec.chars (b : BudgetRec) : List Byte :=
  chars2 b.budget ++ chars2 b.pDutUsed ++ chars2 b.demand ++ chars2 b.allowance ++ charsFlag b.scaled
    ++ chars1 b.overRun ++ charsFlag b.hold

/-- R98 -/
def handleReadZones (_c : Call) (s : State) : Answer :=
  s.report (s.therm.zones.cells.flatMap ZoneRec.chars ++ s.therm.slotBudget.chars)

/-- R55; an order of none is sent as 255 (log 18). -/
def RailRec.chars (r : RailRec) : List Byte :=
  chars1 r.state.code ++ charsFlag r.used ++ chars1 (r.order.getD 255) ++ chars2 r.setpoint ++ chars2 r.window
    ++ chars2 r.settle ++ chars2 r.sampleV ++ chars2 r.sampleI ++ charsFlag r.inWindow ++ charsWord32 r.excursions
    ++ chars1 r.outRun ++ charsFlag r.settleTimer.isSome

/-- R55 -/
def handleReadRails (_c : Call) (s : State) : Answer :=
  s.report (chars2 s.pDut ++ s.rail.rails.cells.flatMap RailRec.chars)

/-! ### SET_TIMING, SET_CHANNEL, SET_PLAY (R40, R135) -/

/-- R40 -/
def handleSetTiming (c : Call) (s : State) : Answer :=
  if s.slot.state.inRun then
    if s.recipe.timing.isNone then s.refuse .noRecipe 6
    else match readTiming c.payload with
      | .error no => s.refuse .badValue no
      | .ok t =>
        ((s.setRecipe { s.recipe with timing := some t }).takeSettings { Settings.empty with timing := some t }
          c.atBoundary).ok
  else s.refuse .wrongState 0

/-- R40 -/
def handleSetChannel (c : Call) (s : State) : Answer :=
  if s.slot.state.inRun then
    match indexOf 16 c.index with
    | none => s.refuse .badValue 0
    | some k =>
      if (s.recipe.channels.get k).isNone then s.refuse .noRecipe 6
      else match readChannel k c.payload with
        | .error no => s.refuse .badValue no
        | .ok x =>
          ((s.setRecipe (s.recipe.setChannelSection k x.clampDead)).takeSettings
            { Settings.empty with channels := Settings.empty.channels.set k (some x.clampDead) }
            c.atBoundary).stored (decide (x.clampDead ≠ x))
  else s.refuse .wrongState 0

/-- R40: SET_PLAY writes GENERAL's fields 11 to 13. -/
def General.withPlay (g : General) (p : PlaySettings) : General :=
  { g with underrun := p.underrun, mode := p.mode, lowWater := p.lowWater }

/-- R40 -/
def handleSetPlay (c : Call) (s : State) : Answer :=
  if s.slot.state.inRun then
    match readPlay c.payload with
    | .error no => s.refuse .badValue no
    | .ok p =>
      ((s.setRecipe { s.recipe with general := s.recipe.general.map fun g => g.withPlay p }).takeSettings
        { Settings.empty with play := some p } c.atBoundary).ok
  else s.refuse .wrongState 0

def execSetZone (r : Request) (s : State) : Host.Outcome State Fault Refusal :=
  .next (s.request .setZone r handleSetZone)

def execSetRail (r : Request) (s : State) : Host.Outcome State Fault Refusal :=
  .next (s.request .setRail r handleSetRail)

def execSetBudget (r : Request) (s : State) : Host.Outcome State Fault Refusal :=
  .next (s.request .setBudget r handleSetBudget)

def execReadZones (r : Request) (s : State) : Host.Outcome State Fault Refusal :=
  .next (s.request .readZones r handleReadZones)

def execReadRails (r : Request) (s : State) : Host.Outcome State Fault Refusal :=
  .next (s.request .readRails r handleReadRails)

def execSetTiming (r : Request) (s : State) : Host.Outcome State Fault Refusal :=
  .next (s.request .setTiming r handleSetTiming)

def execSetChannel (r : Request) (s : State) : Host.Outcome State Fault Refusal :=
  .next (s.request .setChannel r handleSetChannel)

def execSetPlay (r : Request) (s : State) : Host.Outcome State Fault Refusal :=
  .next (s.request .setPlay r handleSetPlay)

end Sys2Proof.Machine
end

