-- ==== Sys2Proof/Machine/StoreMessages.lean ====
section
/-! DEFINITION. The kinds 0x28 to 0x2B and 0x2D to 0x2F: FRAME_OPEN, FRAME_DATA, FRAME_CANCEL, PURGE_FRAMES,
EXERCISE_START, EXERCISE_STOP, READ_STORE. -/

namespace Sys2Proof.Machine

/-! ### FRAME_OPEN (R111) -/

/-- R111: the descriptor appended at the write end. -/
def Store.openAt (st : Store) (id : Byte) (count repeats : Nat) (checked : Bool) : Store :=
  { st with
    frames := st.frames ++ [{ id := id, first := st.writeEnd, count := count, repeats := repeats, checked := checked,
                              status := .opened 0 }]
    writeEnd := (st.writeEnd + count) % Config.vectorSlots }

/-- R111: the tests in their order. -/
def handleFrameOpen (c : Call) (s : State) : Answer :=
  let id := c.payload.getD 0 0
  let count := u16At c.payload 1
  let repeats := u16At c.payload 3
  match yesNoOf (byteAt c.payload 5) with
  | none => s.refuse .badValue 0
  | some checked =>
    if count < 1 ∨ 1024 < count ∨ repeats < 1 then s.refuse .badValue 0
    else if s.store.openFrame.isSome then s.refuse .busy 0
    else if (s.store.find id).isSome then s.refuse .duplicate 0
    else if Config.frameLimit ≤ s.store.frames.length ∨ s.store.freeSlots < count then s.refuse .noRoom 0
    else (s.setStore (s.store.openAt id count repeats checked)).ok

/-! ### FRAME_DATA (R112, R113) -/

/-- The vector records of a payload (R173), if every expectation code is one. -/
def vectorsOf : List Byte → Option (List StimVector)
  | low :: high :: e :: rest =>
    match expectationOf e.toNat, vectorsOf rest with
    | some x, some tail => some ({ drive := high ++ low, expect := x } :: tail)
    | _, _ => none
  | [] => some []
  | _ => none

/-- The OPEN frame and its received count, if the request continues it (R112). -/
def Store.continues (st : Store) (id : Byte) (start n : Nat) : Option FrameDesc :=
  match st.openFrame with
  | some f => if f.id = id ∧ start = st.received ∧ start + n ≤ f.count then some f else none
  | none => none

/-- R113: the delivered frame is READY; an idle TAIL goes, a STARVED exerciser takes it. -/
def State.frameReady (s : State) (id : Byte) : State :=
  let s1 := s.setStore (s.store.setStatus id .ready).freeIdleTail
  if s.exer.state = .starved then s1.takeFirstReady else s1

/-- R112: the vectors written, the received count moved. -/
def State.deliver (s : State) (f : FrameDesc) (start : Nat) (vectors : List StimVector) : State :=
  let done := start + vectors.length
  let s1 := s.setStore
    { s.store.setStatus f.id (.opened done) with
      memory := Memory.writeFrom s.store.memory (f.first + start) vectors }
  if done = f.count then s1.frameReady f.id else s1

/-- R112: every reply carries the received count that stands after the request. -/
def handleFrameData (c : Call) (s : State) : Answer :=
  let start := u16At c.payload 1
  let refused : Answer := { state := s, result := .badValue, data := chars2 s.store.received }
  match vectorsOf (c.payload.drop 3) with
  | none => refused
  | some vectors =>
    match s.store.continues (c.payload.getD 0 0) start vectors.length with
    | none => refused
    | some f =>
      let s1 := s.deliver f start vectors
      { state := s1, result := .ok, data := chars2 s1.store.received }

/-! ### FRAME_CANCEL, PURGE_FRAMES, READ_STORE -/

/-- R114: the OPEN frame removed at the write end. -/
def Store.cancel (st : Store) (f : FrameDesc) : Store :=
  let st1 := { st with frames := st.frames.filter (fun g => g.id != f.id), writeEnd := f.first }
  if st1.frames.isEmpty then st1.syncReadEnd else st1

/-- R114 -/
def handleFrameCancel (c : Call) (s : State) : Answer :=
  match s.store.openFrame with
  | some f =>
    if f.id = c.payload.getD 0 0 then (s.setStore (s.store.cancel f)).ok else s.refuse .badValue 0
  | none => s.refuse .badValue 0

/-- R115 -/
def handlePurgeFrames (_c : Call) (s : State) : Answer :=
  let s1 := (s.setStore s.store.purge).lowWater s.store.readyCount
  { state := s1, result := .ok,
    data := chars1 (s.store.frames.length - s1.store.frames.length) ++ chars2 s1.store.freeSlots }

/-- R124; the last field belongs to OPEN (received), PLAYING and TAIL (passes done) (log 17). -/
def FrameDesc.chars (f : FrameDesc) (current : Bool) : List Byte :=
  [f.id] ++ chars1 f.status.code ++ chars2 f.first ++ chars2 f.count ++ chars2 f.repeats ++ charsFlag f.checked
    ++ charsFlag current
    ++ (match f.status with
        | .opened received => chars2 received
        | .ready => []
        | .playing passes => chars2 passes
        | .tail => chars2 f.repeats)

/-- R124 -/
def handleReadStore (c : Call) (s : State) : Answer :=
  let index := byteAt c.payload 0
  let entries := (s.store.frames.drop index).take 16
  if 31 < index then s.refuse .badValue 0
  else
    s.report (chars1 s.store.mode.code ++ chars1 s.store.lowWater ++ chars2 s.store.freeSlots
      ++ chars2 s.store.readEnd ++ chars2 s.store.writeEnd ++ chars1 s.store.readyCount
      ++ chars1 s.store.frames.length ++ chars1 entries.length
      ++ entries.flatMap fun f => f.chars (s.store.current == some f.id))

/-! ### EXERCISE_STOP and EXERCISE_START (R131) -/

/-- R131: the stop, in a dynamic run. -/
def State.stopPlay (s : State) : State :=
  match s.exer.state with
  | .playing => s.setExer { s.exer with stopRequested := true }
  | .held | .starved => s.enterStopped
  | .stopped | .idle => s

/-- R131: the start of a STOPPED exerciser. -/
def State.restartPlay (s : State) : State :=
  match s.store.current with
  | some _ =>
    let e := s.exer.clearWindows
    (s.setExer { e with position := some 0 }).playOrHold
  | none => s.takeFirstReady

/-- R131: the start, in a dynamic run. -/
def State.startPlay (s : State) : State :=
  match s.exer.state with
  | .playing => s.setExer { s.exer with stopRequested := false }
  | .stopped => s.restartPlay
  | .held | .starved | .idle => s

/-- R131 -/
def handleExerciseStop (_c : Call) (s : State) : Answer :=
  if s.slot.state = .running then (if s.exer.dynamic then s.stopPlay else s).ok else s.refuse .wrongState 0

/-- R131 -/
def handleExerciseStart (_c : Call) (s : State) : Answer :=
  if s.slot.state = .running then (if s.exer.dynamic then s.startPlay else s).ok else s.refuse .wrongState 0

def execFrameOpen (r : Request) (s : State) : Host.Outcome State Fault Refusal :=
  .next (s.request .frameOpen r handleFrameOpen)

def execFrameData (r : Request) (s : State) : Host.Outcome State Fault Refusal :=
  .next (s.request .frameData r handleFrameData)

def execFrameCancel (r : Request) (s : State) : Host.Outcome State Fault Refusal :=
  .next (s.request .frameCancel r handleFrameCancel)

def execPurgeFrames (r : Request) (s : State) : Host.Outcome State Fault Refusal :=
  .next (s.request .purgeFrames r handlePurgeFrames)

def execReadStore (r : Request) (s : State) : Host.Outcome State Fault Refusal :=
  .next (s.request .readStore r handleReadStore)

def execExerciseStart (r : Request) (s : State) : Host.Outcome State Fault Refusal :=
  .next (s.request .exerciseStart r handleExerciseStart)

def execExerciseStop (r : Request) (s : State) : Host.Outcome State Fault Refusal :=
  .next (s.request .exerciseStop r handleExerciseStop)

end Sys2Proof.Machine
end

