-- ==== Sys2Proof/Machine/Line.lean ====
section
/-! DEFINITION. The line itself (R165 to R168): the receiver, a frame's assembly, the reply's start and end, and the
frames no message command stands for. -/

namespace Sys2Proof.Machine

/-- The rule of each kind. -/
def ruleOf : Kind → Call → State → Answer
  | .ping => handlePing
  | .status => handleStatus
  | .release => handleRelease
  | .restart => handleRestart
  | .setLink => handleSetLink
  | .setClass => handleSetClass
  | .ackClasses => handleAckClasses
  | .readUnanswered => handleReadUnanswered
  | .linkStats => handleLinkStats
  | .readIdentity => handleReadIdentity
  | .reidentify => handleReidentify
  | .loadRecipe => handleLoadRecipe
  | .readRecipe => handleReadRecipe
  | .start => handleStart
  | .go => handleGo
  | .stop => handleStop
  | .pause => handlePause
  | .resume => handleResume
  | .clearSafe => handleClearSafe
  | .retireSocket => handleRetireSocket
  | .setZone => handleSetZone
  | .setRail => handleSetRail
  | .setBudget => handleSetBudget
  | .readZones => handleReadZones
  | .readRails => handleReadRails
  | .setTiming => handleSetTiming
  | .setChannel => handleSetChannel
  | .frameOpen => handleFrameOpen
  | .frameData => handleFrameData
  | .frameCancel => handleFrameCancel
  | .purgeFrames => handlePurgeFrames
  | .setPlay => handleSetPlay
  | .exerciseStart => handleExerciseStart
  | .exerciseStop => handleExerciseStop
  | .readStore => handleReadStore
  | .readSockets => handleReadSockets
  | .fetchFailures => handleFetchFailures
  | .armCapture => handleArmCapture
  | .readCapture => handleReadCapture

/-- A frame's body executed (R168, R169). -/
def State.serveBody (s : State) (hit : FilterHit) (body : List Byte) : State :=
  let h := parseBody body
  if h.short || h.foreign || decide (4 < h.count) then s.serveUnknown hit h
  else match h.kindChar.bind Kind.ofCode with
    | some k => s.serve k { hit := hit, quals := h.quals, payload := h.payload } (ruleOf k)
    | none => s.serveUnknown hit h

/-- A malformed or uncatalogued frame completes (the UNKNOWN_KIND row). -/
def execUnknownKind (hit : FilterHit) (body : List Byte) (s : State) : Host.Outcome State Fault Refusal :=
  .next (s.arrive hit body (fun t => t.serveBody hit body))

/-! ### The receiver -/

/-- R166: how an address is accepted, if it is. -/
def Link.accepts (l : Link) (address : Byte) : Option FilterHit :=
  if address = 0 then none
  else if address.toNat = l.unitAddress then some .unit
  else if address = 255 then some .broadcast
  else if l.groupEnable && (address ^^^ l.groupCode) &&& ~~~l.groupMask == 0 then some .group
  else none

/-- R166: an address character examined. -/
def Link.examine (l : Link) (address : Byte) : Link :=
  { l with receiver := match l.accepts address with
      | some hit => .receiving hit []
      | none => .waitAddress }

/-- The character that is the length (R173), and whether a frame of these characters is complete. -/
def frameComplete (chars : List Byte) : Bool :=
  match chars with
  | _ :: n :: rest => rest.length == n.toNat + 2
  | _ => false

def badLengthChar (soFar : List Byte) (v : Byte) : Bool :=
  soFar.length == 1 && (v.toNat == 0 || decide (Config.bodyLimit < v.toNat))

/-- R167: the check of a complete frame's characters: source, length, body, check. -/
def checkOk (chars : List Byte) : Bool :=
  crc16 (chars.take (chars.length - 2)) == BitVec.ofNat 16 (u16At chars (chars.length - 2))

/-- The body of a complete frame. -/
def bodyOf (chars : List Byte) : List Byte := (chars.drop 2).take (chars.length - 4)

/-- R167: a frame is complete. -/
def State.frameEnds (s : State) (hit : FilterHit) (chars : List Byte) : State :=
  if checkOk chars then s.arrive hit (bodyOf chars) (fun t => t.serveBody hit (bodyOf chars))
  else s.discard .crc

/-- R167: a data character of a frame. -/
def State.assemble (s : State) (hit : FilterHit) (soFar : List Byte) (v : Byte) : State :=
  let chars := soFar ++ [v]
  if badLengthChar soFar v then s.discard .character
  else if frameComplete chars then s.frameEnds hit chars
  else s.setLink { s.link with receiver := .receiving hit chars }

/-- R166, R167: one character, heard by the receiver. -/
def State.hear (s : State) (c : LineChar) : State :=
  match s.link.receiver with
  | .waitAddress => if c.stopOk && c.mark then s.setLink (s.link.examine c.value) else s
  | .receiving hit soFar =>
    if !c.stopOk then s.discard .character
    else if c.mark then s.setLink (s.link.examine c.value)
    else s.assemble hit soFar c.value

/-- The receiver does not listen while a reply is sent (R168). -/
def execLineCharacter (c : LineChar) (s : State) : Host.Outcome State Fault Refusal :=
  .next (if s.link.sending then s else s.hear c)

/-- R167: the gap timer acts in RECEIVING alone. -/
def execLineCharacterTimeout (s : State) : Host.Outcome State Fault Refusal :=
  .next (match s.link.receiver with
    | .receiving _ _ => if s.link.sending then s else s.discard .timeout
    | .waitAddress => s)

/-! ### The reply -/

/-- A frame on the line (R173): the address with its mark, then source, length, body and check. -/
def lineFrame (address source : Byte) (body : List Byte) : List LineChar :=
  let data := source :: BitVec.ofNat 8 body.length :: body
  { value := address, mark := true, stopOk := true } ::
    (data ++ chars2 (crc16 data).toNat).map fun v => { value := v, mark := false, stopOk := true }

/-- R170: a reply's body. -/
def Reply.body (x : Reply) : List Byte := x.kind :: x.result.code :: x.payload

/-- R170, R173: a reply's frame, from the unit address to the host's address 0. -/
def Link.replyFrame (l : Link) (x : Reply) : List LineChar := lineFrame 0 (BitVec.ofNat 8 l.unitAddress) x.body

/-- What the part sends on the line: the frame of the reply being sent, and nothing otherwise (R168, R170). -/
def Link.transmits (l : Link) : Option (List LineChar) :=
  match l.inHand with
  | some x => if x.sending then some (l.replyFrame x.reply) else none
  | none => none

/-- R168: the reply begins; a frame in RECEIVING is abandoned as a character error. -/
def State.replyBegins (s : State) (x : InHand) : State :=
  let s1 := s.setLink { s.link with inHand := some { x with sending := true }, receiver := .waitAddress }
  match s.link.receiver with
  | .receiving _ _ => s1.discard .character
  | .waitAddress => s1

def execReplyStart (s : State) : Host.Outcome State Fault Refusal :=
  .next (match s.link.inHand with
    | some x => if x.sending then s else s.replyBegins x
    | none => s)

/-- R168: the frame in hand finishes; the waiting frame is taken in that event, unless a RESTART is due to reset the
part (R25). -/
def State.replyEnds (s : State) : State :=
  let s1 := s.setLink { s.link with inHand := none }
  if s.link.restartDue then s1
  else match s.link.waiting with
    | some w => (s1.setLink { s1.link with waiting := none }).serveBody w.hit w.body
    | none => s1

def execReplyComplete (s : State) : Host.Outcome State Fault Refusal :=
  .next (if s.link.sending then s.replyEnds else s)

end Sys2Proof.Machine
end

