-- ==== Sys2Proof/Machine/Play.lean ====
section
/-! DEFINITION. The exerciser's own events: the vector end (R129) with the pass end (R117 to R120, R138, R139), and
the strobe (R136). -/

namespace Sys2Proof.Machine

/-! ### The strobe -/

/-- The level an expectation asks for, if it asks for one. -/
def Expectation.level : Expectation → Option Bool
  | .dontCare => none
  | .low => some false
  | .high => some true

/-- R136: a mismatch at vector `p`. -/
def CompareRec.mismatch (r : CompareRec) (p : Nat) : CompareRec :=
  { r with windowCount := satInc 255 r.windowCount, firstMismatch := r.firstMismatch.or (some p),
           mismatchTotal := satInc 65535 r.mismatchTotal }

/-- R136: the compare records after a strobe that asks for `level` at vector `p`. -/
def State.compared (s : State) (level : Bool) (p : Nat) (lines : BitVec 48) : Bank CompareRec 48 :=
  Bank.ofFn fun k =>
    let r := s.exer.compare.get k
    if (s.sock.sockets.get k).judged && lines.getLsbD k.val != level then r.mismatch p else r

/-- R136 -/
def State.strobes (s : State) (lines : BitVec 48) : State :=
  let s1 := s.setExer { s.exer with strobeDue := false }
  match s.exer.vector.expect.level, s.store.currentFrame, s.exer.position with
  | some level, some f, some p =>
    if f.checked then s1.setExer { s1.exer with compare := s.compared level p lines } else s1
  | _, _, _ => s1

/-- The strobe of the vector in progress comes once, while PLAYING (R136, log 25). -/
def execVectorStrobe (lines : BitVec 48) (s : State) : Host.Outcome State Fault Refusal :=
  .next (if s.exer.state.isPlaying && s.exer.strobeDue then s.strobes lines else s)

/-! ### The judgement at a pass end -/

/-- R138: the log entry and C3A of a socket's first functional failure of the run. -/
def State.logFunctional (s : State) (k : Fin 48) : State :=
  let r := s.exer.compare.get k
  if r.logged then s
  else ((s.logFailure .functional (some k) none (BitVec.ofNat 16 (r.firstMismatch.getD 0))).notify 3 .a).modCompare k
    (fun x => { x with logged := true })

/-- R138, R139: one socket's turn. -/
def State.judgeSocket (s : State) (k : Fin 48) : State :=
  if s.exer.threshold ≤ (s.exer.compare.get k).windowCount then
    let s1 := (s.modCompare k (fun x => { x with functionalFails := satInc 255 x.functionalFails })).logFunctional k
    (match s.exer.policy with
     | .keep => s1
     | .retire => s1.retire k .functional)
  else s

/-- R138: every socket in ascending order. -/
def State.judgePass (s : State) : State := (List.finRange 48).foldl (fun t k => t.judgeSocket k) s

/-! ### The store's pass-end steps -/

/-- R118: the end of a frame in Stream mode. -/
def State.streamEnd (s : State) (f : FrameDesc) : State :=
  match s.store.firstReady with
  | some g => (s.setStore (s.store.freeFrame f.id)).takeFrame g.id
  | none =>
    let st := s.store.setStatus f.id .tail
    s.setStore (match s.exer.underrun with
      | .park => { st with current := none }
      | .repeatLast => st)

/-- R120: the end of a frame in Loop mode. -/
def State.loopEnd (s : State) (f : FrameDesc) : State :=
  let st := s.store.setStatus f.id .ready
  match st.nextInLoop f.id with
  | some g => (s.setStore st).takeFrame g.id
  | none => s.setStore { st with current := none }

/-- R119: the end of a TAIL's replay pass. With a READY frame stored it is taken whatever the underrun policy has
become; STARVED follows a change to PARK only when none is stored (DESIGN CHOICE, log 35). -/
def State.tailEnd (s : State) (f : FrameDesc) : State :=
  match s.store.firstReady with
  | some g => (s.setStore (s.store.freeFrame f.id)).takeFrame g.id
  | none =>
    match s.exer.underrun with
    | .park => s.setStore { s.store with current := none }
    | .repeatLast => s

/-- R117, steps 2 and 3. A TAIL that this very pass end has made PLAYING plays one more pass (R121, log 12). -/
def State.storePassEnd (s : State) (wasTail : Bool) : State :=
  match s.store.currentFrame with
  | none => s
  | some f =>
    match f.status with
    | .playing n =>
      if wasTail then s
      else if n + 1 = f.repeats then
        (match s.store.mode with
         | .stream => s.streamEnd f
         | .loop => s.loopEnd f)
      else s.setStore (s.store.setStatus f.id (.playing (n + 1)))
    | .tail => s.tailEnd f
    | _ => s

/-- R129, step 2, at the last vector of the current frame: judging, staged settings, store steps; the play position
is vector 0 of the frame now current. A run end during the judging ends the event (R139). -/
def State.passEnd (s : State) (checked wasTail : Bool) : State :=
  let s1 := if checked then s.judgePass else s
  if s1.exer.state.isPlaying then
    let s2 := if checked then s1.setExer s1.exer.clearWindows else s1
    let s3 := s2.applyStaged.storePassEnd wasTail
    s3.setExer { s3.exer with position := s3.store.current.map fun _ => 0 }
  else s1

/-- R129, step 3. -/
def State.vectorFollows (s : State) : State :=
  if s.exer.stopRequested then s.enterStopped
  else if s.store.current.isNone then s.enterStarved
  else if s.exer.holdSet then s.enterHeld
  else s.startVector

def Store.currentIsTail (st : Store) : Bool :=
  match st.currentFrame with
  | some f => f.status.isTail
  | none => false

/-- R129: the vector end. -/
def State.vectorEnds (s : State) : State :=
  let s1 := (s.setExer s.exer.advanceClocks).applyBoundary
  match s1.store.currentFrame, s1.exer.position with
  | some f, some p =>
    let s2 := if p + 1 = f.count then s1.passEnd f.checked s.store.currentIsTail
      else s1.setExer { s1.exer with position := some (p + 1) }
    if s2.exer.state.isPlaying then s2.vectorFollows else s2
  | _, _ => s1

/-- A vector ends only while one is being played (R129). -/
def execVectorEnd (s : State) : Host.Outcome State Fault Refusal :=
  .next (if s.exer.state.isPlaying then s.vectorEnds else s)

end Sys2Proof.Machine
end

