-- ==== Sys2Proof/Machine/Rails.lean ====
section
/-! DEFINITION. The rail controller's events (chapter 3). -/

namespace Sys2Proof.Machine

/-- R45: a measurement enters the record; a reading above its range is recorded as the top (R42). An OFF rail is
not measured. -/
def RailRec.measure (r : RailRec) (x : RailReading) : RailRec :=
  if r.state = .off then r
  else { r with sampleV := min Config.railTopMv x.mv, sampleI := min Config.railTopMa x.ma,
                history := r.history.push (min Config.railTopMv x.mv) }

/-- The rail after this one in the start sequence (R46). -/
def RailCtl.following (c : RailCtl) (r : Fin 4) : Option (Fin 4) :=
  ((c.startSeq.dropWhile (fun x => x != r)).drop 1).head?

/-- R46: in ARMING the start sequence moves on: the following rail is started, or after the last one the sequence is
complete and the sockets are switched on (R48). -/
def State.sequenceStep (s : State) (r : Fin 4) : State :=
  if s.slot.state = .arming then
    match s.rail.following r with
    | some n => s.modRail n RailRec.startUp
    | none =>
      if s.rail.startSeq.getLast? = some r then
        (s.setRail { s.rail with seqComplete := true }).switchOn
      else s
  else s

/-- R46: the first in-window sample makes a RAMPING rail REGULATED; the arming test follows. -/
def State.railRegulated (s : State) (r : Fin 4) : State :=
  ((s.modRail r (fun x => { x with state := .regulated, settleTimer := none, outRun := 0 })).sequenceStep r).armingTest

/-- R49: a judged sample of a REGULATED rail. The preceding judged sample was inside exactly when the
out-of-window run stands at 0 (log 13). -/
def State.judgeRegulated (s : State) (r : Fin 4) : State :=
  let x := s.rail.rails.get r
  if x.inWindow then s.modRail r (fun y => { y with outRun := 0 })
  else
    let s1 := s.modRail r (fun y => { y with outRun := y.outRun + 1 })
    let s2 := if x.outRun = 0 then
        (s1.modRail r (fun y => { y with excursions := y.excursions + 1 })).notifyRail .a r
      else s1
    if x.outRun + 1 = Config.railFaultRun then s2.railFault r x.sampleV else s2

/-- R45: a measured rail is judged by its state. -/
def State.judgeRail (s : State) (r : Fin 4) : State :=
  let x := s.rail.rails.get r
  let s1 := s.modRail r (fun y => { y with inWindow := railInWindow y })
  match x.state with
  | .off | .faulted => s
  | .ramping => if railInWindow x then s1.railRegulated r else s1
  | .regulated => if x.settleTimer.isSome then s1 else s1.judgeRegulated r

/-- R45: all rails that are not OFF are measured at the instant, then each is judged, in rail order (log 9). -/
def State.railSampled (s : State) (readings : Bank RailReading 4) : State :=
  let s1 := s.setRail { s.rail with rails := Bank.ofFn fun r => (s.rail.rails.get r).measure (readings.get r) }
  (List.finRange 4).foldl (fun t r => if (s.rail.rails.get r).state = .off then t else t.judgeRail r) s1

def execRailSample (readings : Bank RailReading 4) (s : State) : Host.Outcome State Fault Refusal :=
  .next (s.railSampled readings)

/-- R47, R51: the settle timer ends the settling of a RAMPING rail with a fault, or the quiet interval. -/
def State.settleExpires (s : State) (r : Fin 4) : State :=
  let x := s.rail.rails.get r
  match x.state with
  | .ramping => s.railFault r x.sampleV
  | _ => s.modRail r (fun y => { y with settleTimer := none })

def execSettleTimerExpiry (r : Fin 4) (s : State) : Host.Outcome State Fault Refusal :=
  .next (if (s.rail.rails.get r).settleTimer.isSome then s.settleExpires r else s)

/-- R52: the drain steps come while the slot is DRAINING (R17, R18, log 4). -/
def execRailDrainStep (s : State) : Host.Outcome State Fault Refusal :=
  .next (if s.rail.drainStepTimer.isSome && s.slot.state == .draining then s.setRail s.rail.drainStep else s)

end Sys2Proof.Machine
end

