-- ==== Sys2Proof/Machine/Resets.lean ====
section
/-! DEFINITION. The three resets (R24, R25). The input pins keep their levels, the straps are read (log 2). -/

namespace Sys2Proof.Machine

/-- A full reset: every block takes its reset value (R24). -/
def State.fullReset (s : State) (straps : Straps) (cause : RestartCause) : State :=
  { State.reset with
    slot := { SlotRec.atReset with
      restartCause := cause, seatA := s.slot.seatA, seatB := s.slot.seatB, chainOpen := s.slot.chainOpen }
    link := { Link.atReset with straps := straps }
    freeCount := s.freeCount
    pending := s.pending }

/-- R59: a supervision record after RESTART. -/
def SocketRec.afterRestart (r : SocketRec) : SocketRec :=
  { SocketRec.atReset with
    state := (match r.state with
      | .vacant => .vacant
      | .retired => .retired
      | .completed => .completed
      | _ => .off)
    cause := r.cause
    retries := r.retries
    softTrips := r.softTrips
    hardTrips := r.hardTrips }

/-- R125: a compare record after RESTART keeps its account fields. -/
def CompareRec.afterRestart (r : CompareRec) : CompareRec :=
  { CompareRec.atReset with mismatchTotal := r.mismatchTotal, functionalFails := r.functionalFails }

/-- R141: the credit unit after RESTART. -/
def CreditUnit.afterRestart (c : CreditUnit) : CreditUnit :=
  { CreditUnit.atReset with
    prevRun := c.prevRun
    serial := c.serial
    target := c.target
    runLimit := c.runLimit
    accumulated := c.accumulated
    accounts := c.accounts.map fun a => { a with notedOff := 0 } }

/-- R25: the shut-off and reset of RESTART. The shut-off leaves every output at its reset value, so what remains of
it is what the reset leaves; accounts and failure log are kept. -/
def State.restartReset (s : State) (straps : Straps) : State :=
  let r := s.fullReset straps .command
  { r with
    sock := { Supervisor.atReset with sockets := s.sock.sockets.map SocketRec.afterRestart }
    exer := { Exerciser.atReset with compare := s.exer.compare.map CompareRec.afterRestart }
    credit := s.credit.afterRestart
    fail := s.fail }

def execPowerOn (straps : Straps) (s : State) : Host.Outcome State Fault Refusal :=
  .next (s.fullReset straps .powerOn)

def execPinReset (straps : Straps) (s : State) : Host.Outcome State Fault Refusal :=
  .next (s.fullReset straps .pin)

/-- R25: comes once a RESTART has been executed and its reply, if any, has been sent; else it does not come and
nothing changes (log 7). -/
def execRestartShutOff (straps : Straps) (s : State) : Host.Outcome State Fault Refusal :=
  .next (if s.link.restartDue && s.link.inHand.isNone then s.restartReset straps else s)

end Sys2Proof.Machine
end

