-- ==== Sys2Proof/Machine/Sockets.lean ====
section
/-! DEFINITION. The socket supervisor's events (chapters 3.8 and 4). -/

namespace Sys2Proof.Machine

/-- R63: a hard trip at `v` mA. -/
def State.hardTrip (s : State) (k : Fin 48) (v : Nat) : State :=
  let s1 := s.modSocket k (fun r => { r with faultCounter := 255, hardTrips := satInc 255 r.hardTrips })
  ((s1.logFailure .overcurrentHard (some k) none (BitVec.ofNat 16 v)).notifySocket .b k).isolate k

/-- R66: a soft trip at `v` mA. -/
def State.softTrip (s : State) (k : Fin 48) (v : Nat) : State :=
  let s1 := s.modSocket k (fun r => { r with softTrips := satInc 255 r.softTrips })
  ((s1.logFailure .overcurrentSoft (some k) none (BitVec.ofNat 16 v)).notifySocket .b k).isolate k

/-- R64: how a judged sample below the hard limit moves the fault counter. -/
def moveCounter (counter v soft : Nat) : Nat := if soft < v then min 255 (counter + 8) else counter - 1

/-- R65: the warning stage, once the counter has moved. -/
def State.warnStage (s : State) (k : Fin 48) : State :=
  let r := s.sock.sockets.get k
  match r.state with
  | .active =>
    if Config.warnAt ≤ r.faultCounter then (s.modSocket k (fun x => { x with state := .warned })).notifySocket .a k
    else s
  | .warned => if r.faultCounter = 0 then s.modSocket k (fun x => { x with state := .active }) else s
  | _ => s

/-- R66: the trip stage, after the warning stage (R62). -/
def State.tripStage (s : State) (k : Fin 48) (v : Nat) : State :=
  let r := s.sock.sockets.get k
  if r.state = .warned ∧ Config.softTripAt ≤ r.faultCounter then s.softTrip k v else s

/-- R62: a judged sample, against the limits of the socket's rail. -/
def State.judgeSample (s : State) (k : Fin 48) (v : Nat) (w : Wire) : State :=
  if s.sock.hardLimits.get w.rail ≤ v then s.hardTrip k v
  else
    let s1 := s.modSocket k (fun r =>
      { r with faultCounter := moveCounter r.faultCounter v (s.sock.softLimits.get w.rail) })
    (s1.warnStage k).tripStage k v

/-- R61, R62: one socket's sample. -/
def State.socketSampled (s : State) (k : Fin 48) (ma : Nat) : State :=
  let v := min Config.socketTopMa ma
  let s1 := s.modSocket k (fun r => { r with sample := v, history := r.history.push v })
  if (s.sock.sockets.get k).judged then
    match s.wire k with
    | some w => s1.judgeSample k v w
    | none => s1
  else s1

def execSocketSample (k : Fin 48) (ma : Nat) (s : State) : Host.Outcome State Fault Refusal :=
  .next (s.socketSampled k ma)

/-- R57 -/
def execBlankingExpiry (k : Fin 48) (s : State) : Host.Outcome State Fault Refusal :=
  .next (s.modSocket k (fun r => { r with blanking := none }))

/-- R69: the cooldown expires: a retry now, or the retry-due mark. -/
def State.cooldownExpires (s : State) (k : Fin 48) : State :=
  let s1 := s.modSocket k (fun r => { r with cooldown := none })
  if (s.sock.sockets.get k).state = .isolated then
    (if s.slot.state = .running ∧ s.zoneRegulating k then s1.modSocket k SocketRec.retry
     else s1.modSocket k (fun r => { r with retryDue := true }))
  else s1

def execCooldownExpiry (k : Fin 48) (s : State) : Host.Outcome State Fault Refusal :=
  .next (if (s.sock.sockets.get k).cooldown.isSome then s.cooldownExpires k else s)

end Sys2Proof.Machine
end

