-- ==== Sys2Proof/Machine/Zones.lean ====
section
/-! DEFINITION. The thermal controller's events: the control pass (chapter 5), the budget stage (chapter 6) and the
PWM frame. -/

namespace Sys2Proof.Machine

/-! ### The start of a pass -/

def ZoneRec.capture (z : ZoneRec) : ZoneCapture :=
  { state := z.state, setpoint := z.setpoint, window := z.window, margin := z.margin, kp := z.kp, ki := z.ki }

def Identity.zoneBoard (d : Identity) (z : Fin 6) : ZoneBoard :=
  { table := Bank.ofFn (d.tablePoint z), absLimit := d.absLimit z, rated := d.heaterRated z }

/-- R81: the capture. -/
def State.capture (s : State) : PassCapture :=
  { zones := s.therm.zones.map ZoneRec.capture
    board := s.ident.record.map fun d => Bank.ofFn d.zoneBoard
    budget := s.therm.slotBudget.budget }

/-- R81: a pass starts. -/
def execControlPassStart (s : State) : Host.Outcome State Fault Refusal :=
  .next (s.setTherm { s.therm with pass := some s.capture })

/-! ### Reading and classification -/

/-- R84, R85, R88: the reading of a zone's code; `usable` when the identity is present at completion. -/
def ZoneRec.read (z : ZoneRec) (code : Nat) (board : Option ZoneBoard) (usable : Bool) : ZoneRec :=
  let temperature := match board with
    | some b => if codeInvalid code || !usable then z.temperature else some (interpolate b.table code)
    | none => z.temperature
  { z with
    code := code
    invalidRun := if codeInvalid code then min 3 (z.invalidRun + 1) else 0
    temperature := temperature
    history := z.history.push temperature }

/-- T ≥ S + M or T ≥ the absolute limit (R87, R89). -/
def tripTest (t : Int) (c : ZoneCapture) (b : ZoneBoard) : Bool :=
  decide (c.setpoint + c.margin ≤ t) || decide (b.absLimit ≤ t)

/-- T ≤ S + W and T below the absolute limit (R91). -/
def returnTest (t : Int) (c : ZoneCapture) (b : ZoneBoard) : Bool :=
  decide (t ≤ c.setpoint + c.window) && decide (t < b.absLimit)

/-- |T − S| ≤ W (R90). -/
def windowTest (t : Int) (c : ZoneCapture) : Bool :=
  decide (t ≤ c.setpoint + c.window) && decide (c.setpoint ≤ t + c.window)

/-- R90: the window test of a REGULATING zone. -/
def ZoneRec.judgeWindow (z : ZoneRec) (t : Int) (c : ZoneCapture) : ZoneRec :=
  if windowTest t c then { z with inWindow := true }
  else { z with inWindow := false, breaches := z.breaches + 1 }

/-- R86: the sensor fails. A zone that left REGULATING has its sockets held off. -/
def State.sensorFails (s : State) (z : Fin 6) : State :=
  let x := s.therm.zones.get z
  let s1 := s.modZone z (fun y => { y.shutHeater with state := .sensorFailed })
  let s2 := (s1.logFailure .sensorFail none (some z.val) (BitVec.ofInt 16 (x.temperature.getD 0))).notifyZone .b z
  if x.state = .regulating then s2.holdOff z else s2

/-- R89: a zone trips at T; from REGULATING its sockets are held off, from SENSOR_FAILED they already are (R87). -/
def State.zoneTrips (s : State) (z : Fin 6) (t : Int) : State :=
  let x := s.therm.zones.get z
  let s1 := s.modZone z (fun y => { y.shutHeater with state := .tripped })
  let s2 := (s1.logFailure .zoneTrip none (some z.val) (BitVec.ofInt 16 t)).notifyZone .a z
  if x.state = .regulating then s2.holdOff z else s2

/-- R87, R91: a zone returns to REGULATING, its sockets are released, and it is tested against its window. -/
def State.zoneReturns (s : State) (z : Fin 6) (t : Int) (c : ZoneCapture) : State :=
  let s1 := s.modZone z (fun y => { y with state := .regulating, integrator := 0 })
  (s1.releaseZone z).modZone z (fun y => y.judgeWindow t c)

/-- R86: a computing zone whose code is invalid. -/
def State.classifyInvalid (s : State) (z : Fin 6) : State :=
  let x := s.therm.zones.get z
  match x.state with
  | .regulating | .tripped =>
    if x.invalidRun = 3 then s.sensorFails z else s.modZone z (fun y => { y with inWindow := false })
  | _ => s

/-- R87, R89 to R91: a computing zone with a valid code at temperature T. -/
def State.classifyValid (s : State) (z : Fin 6) (t : Int) (c : ZoneCapture) (b : ZoneBoard) : State :=
  match (s.therm.zones.get z).state with
  | .regulating =>
    if tripTest t c b then s.zoneTrips z t else s.modZone z (fun y => y.judgeWindow t c)
  | .tripped => if returnTest t c b then s.zoneReturns z t c else s
  | .sensorFailed => if tripTest t c b then s.zoneTrips z t else s.zoneReturns z t c
  | .idle => s

/-- The classification of a computing zone. A valid code without temperature or board cannot occur (5.4); the
model then makes no test and clears the in-window mark (log 23). -/
def State.classify (s : State) (z : Fin 6) (code : Nat) (c : ZoneCapture) (board : Option ZoneBoard) : State :=
  if codeInvalid code then s.classifyInvalid z
  else match (s.therm.zones.get z).temperature, board with
    | some t, some b => s.classifyValid z t c b
    | _, _ => s.modZone z (fun y => { y with inWindow := false })

/-! ### The controller (R92 to R94) -/

/-- R92, step 1. -/
def controlError (setpoint t : Int) : Int := clampInt (-2048) 2047 (setpoint - t)

/-- R93: is the integrator frozen at this pass, by the outputs of the previous one? -/
def ZoneRec.frozen (z : ZoneRec) (e : Int) : Bool :=
  (decide (0 < e) && (z.u == 1000 || z.limited)) || (decide (e < 0) && z.u == 0)

/-- R92 to R94: the controller stage of a REGULATING zone; without a temperature u is 0 (R86). -/
def ZoneRec.control (z : ZoneRec) (c : ZoneCapture) : ZoneRec :=
  match z.temperature with
  | none => { z with u := 0 }
  | some t =>
    let e := controlError c.setpoint t
    let p := (c.kp : Int) * e / 64
    let i := if z.frozen e then z.integrator else (clampInt 0 64000 (z.integrator + c.ki * e)).toNat
    { z with integrator := i, u := (clampInt 0 1000 (p + (i / 64 : Nat))).toNat }

/-! ### The budget stage (chapter 6) -/

/-- R101: a zone's demand, rounded up. -/
def zoneDemand (u rated : Nat) : Nat := (u * rated + 999) / 1000

/-- R101: the demand of all zones. -/
def totalDemand (zones : Bank ZoneRec 6) (board : Option (Bank ZoneBoard 6)) : Nat :=
  ((List.finRange 6).map fun z =>
    zoneDemand (zones.get z).u (match board with | some b => (b.get z).rated | none => 0)).sum

/-- R102: a zone's grant and mark. -/
def ZoneRec.grant (z : ZoneRec) (allowance demand : Nat) : ZoneRec :=
  let g := if demand ≤ allowance then z.u else z.u * allowance / demand
  { z with granted := g, limited := decide (g < z.u) }

/-- R102, R105: demand, allowance and grants; C6A when scaling begins. -/
def State.grantStage (s : State) (cap : PassCapture) : State :=
  let q := totalDemand s.therm.zones cap.board
  let a := cap.budget - s.pDut
  let scaled := decide (a < q)
  let s1 := s.setTherm { s.therm with
    zones := s.therm.zones.map (fun z => z.grant a q)
    slotBudget := { s.therm.slotBudget with pDutUsed := s.pDut, demand := q, allowance := a, scaled := scaled } }
  if scaled && !s.therm.slotBudget.scaled then s1.notify 6 .a else s1

def State.setBudgetRec (s : State) (b : BudgetRec) : State := s.setTherm { s.therm with slotBudget := b }

/-- R106: the budget hold, judged on the captured B and the P_dut of this completion. -/
def State.holdStage (s : State) (cap : PassCapture) : State :=
  let b := s.therm.slotBudget
  let p := s.pDut
  if cap.budget < p then
    let run := min 3 (b.overRun + 1)
    if run = 3 ∧ b.hold = false then
      ((s.setBudgetRec { b with overRun := run, hold := true }).setHolds true s.exer.holdPause).notify 6 .b
    else s.setBudgetRec { b with overRun := run }
  else if p ≤ cap.budget - cap.budget / 16 ∧ b.hold = true then
    (s.setBudgetRec { b with overRun := 0, hold := false }).setHolds false s.exer.holdPause
  else s.setBudgetRec { b with overRun := 0 }

/-! ### The completion of a pass -/

/-- R82: a zone is computing when neither its captured state nor its state at completion is IDLE. -/
def State.computing (s : State) (cap : PassCapture) (z : Fin 6) : Bool :=
  (cap.zones.get z).state != .idle && (s.therm.zones.get z).state != .idle

def boardOf (cap : PassCapture) (z : Fin 6) : Option ZoneBoard := cap.board.map fun b => b.get z

/-- Reading, and for a computing zone classification; a converting zone gets u = u′ = 0 (R82). -/
def State.zoneStep (s : State) (cap : PassCapture) (code : Nat) (computing : Bool) (z : Fin 6) : State :=
  let s1 := s.modZone z (fun y => y.read code (boardOf cap z) s.ident.record.isSome)
  if computing then s1.classify z code (cap.zones.get z) (boardOf cap z)
  else s1.modZone z (fun y => { y with u := 0, granted := 0 })

/-- The controller stage of a computing zone that is REGULATING (R92 to R94). -/
def State.controlStep (s : State) (cap : PassCapture) (computing : Bool) (z : Fin 6) : State :=
  if computing && (s.therm.zones.get z).state == .regulating then
    s.modZone z (fun y => y.control (cap.zones.get z))
  else s

/-- R82: the completion: zones in ascending order through reading and classification, then the controllers, then one
budget stage if any zone is computing (R100), then the arming test. -/
def State.passCompletes (s : State) (cap : PassCapture) (codes : Bank Nat 6) : State :=
  let comp := fun z => s.computing cap z
  let s0 := s.setTherm { s.therm with pass := none }
  let s1 := (List.finRange 6).foldl (fun t z => t.zoneStep cap (codes.get z) (comp z) z) s0
  let s2 := (List.finRange 6).foldl (fun t z => t.controlStep cap (comp z) z) s1
  let s3 := if (List.finRange 6).any comp then (s2.grantStage cap).holdStage cap else s2
  s3.armingTest

def execControlPassComplete (codes : Bank Nat 6) (s : State) : Host.Outcome State Fault Refusal :=
  .next (match s.therm.pass with
    | some cap => s.passCompletes cap codes
    | none => s)

/-- R95: at a frame's start each heater takes u′ as its applied duty. -/
def execHeaterPwmFrameStart (s : State) : Host.Outcome State Fault Refusal :=
  .next (s.setTherm { s.therm with zones := s.therm.zones.map fun z => { z with appliedDuty := z.granted } })

end Sys2Proof.Machine
end

