-- ==== Sys2Proof/Machine/Dispatch.lean ====
section
/-! DEFINITION. One arm per command: the direct call of its meaning. -/

namespace Sys2Proof.Machine

def exec (i : Instr) (s : State) : Host.Outcome State Fault Refusal :=
  match i with
  | .powerOn straps => Sys2Proof.Machine.execPowerOn straps s
  | .pinReset straps => Sys2Proof.Machine.execPinReset straps s
  | .restartShutOff straps => Sys2Proof.Machine.execRestartShutOff straps s
  | .seatContactChange a b => Sys2Proof.Machine.execSeatContactChange a b s
  | .seatMakeTimerExpiry => Sys2Proof.Machine.execSeatMakeTimerExpiry s
  | .seatOpenTimerExpiry => Sys2Proof.Machine.execSeatOpenTimerExpiry s
  | .safetyChainOpen level => Sys2Proof.Machine.execSafetyChainOpen level s
  | .identityAttemptEnd read => Sys2Proof.Machine.execIdentityAttemptEnd read s
  | .identityAttemptTimeout => Sys2Proof.Machine.execIdentityAttemptTimeout s
  | .identityRetryWaitExpiry => Sys2Proof.Machine.execIdentityRetryWaitExpiry s
  | .armTimerExpiry => Sys2Proof.Machine.execArmTimerExpiry s
  | .drainTimerExpiry => Sys2Proof.Machine.execDrainTimerExpiry s
  | .railDrainStep => Sys2Proof.Machine.execRailDrainStep s
  | .linkSilenceExpiry => Sys2Proof.Machine.execLinkSilenceExpiry s
  | .railSample readings => Sys2Proof.Machine.execRailSample readings s
  | .settleTimerExpiry rail => Sys2Proof.Machine.execSettleTimerExpiry rail s
  | .socketSample k ma => Sys2Proof.Machine.execSocketSample k ma s
  | .blankingExpiry k => Sys2Proof.Machine.execBlankingExpiry k s
  | .cooldownExpiry k => Sys2Proof.Machine.execCooldownExpiry k s
  | .controlPassStart => Sys2Proof.Machine.execControlPassStart s
  | .controlPassComplete codes => Sys2Proof.Machine.execControlPassComplete codes s
  | .heaterPwmFrameStart => Sys2Proof.Machine.execHeaterPwmFrameStart s
  | .creditIntervalExpiry => Sys2Proof.Machine.execCreditIntervalExpiry s
  | .vectorEnd => Sys2Proof.Machine.execVectorEnd s
  | .vectorStrobe lines => Sys2Proof.Machine.execVectorStrobe lines s
  | .lineCharacter char => Sys2Proof.Machine.execLineCharacter char s
  | .lineCharacterTimeout => Sys2Proof.Machine.execLineCharacterTimeout s
  | .replyStart => Sys2Proof.Machine.execReplyStart s
  | .replyComplete => Sys2Proof.Machine.execReplyComplete s
  | .ping req => Sys2Proof.Machine.execPing req s
  | .status req => Sys2Proof.Machine.execStatus req s
  | .release req => Sys2Proof.Machine.execRelease req s
  | .restart req => Sys2Proof.Machine.execRestart req s
  | .setLink req => Sys2Proof.Machine.execSetLink req s
  | .setClass req => Sys2Proof.Machine.execSetClass req s
  | .ackClasses req => Sys2Proof.Machine.execAckClasses req s
  | .readUnanswered req => Sys2Proof.Machine.execReadUnanswered req s
  | .linkStats req => Sys2Proof.Machine.execLinkStats req s
  | .readIdentity req => Sys2Proof.Machine.execReadIdentity req s
  | .reidentify req => Sys2Proof.Machine.execReidentify req s
  | .loadRecipe req => Sys2Proof.Machine.execLoadRecipe req s
  | .readRecipe req => Sys2Proof.Machine.execReadRecipe req s
  | .start req => Sys2Proof.Machine.execStart req s
  | .go req => Sys2Proof.Machine.execGo req s
  | .stop req => Sys2Proof.Machine.execStop req s
  | .pause req => Sys2Proof.Machine.execPause req s
  | .resume req => Sys2Proof.Machine.execResume req s
  | .clearSafe req => Sys2Proof.Machine.execClearSafe req s
  | .retireSocket req => Sys2Proof.Machine.execRetireSocket req s
  | .setZone req => Sys2Proof.Machine.execSetZone req s
  | .setRail req => Sys2Proof.Machine.execSetRail req s
  | .setBudget req => Sys2Proof.Machine.execSetBudget req s
  | .readZones req => Sys2Proof.Machine.execReadZones req s
  | .readRails req => Sys2Proof.Machine.execReadRails req s
  | .setTiming req => Sys2Proof.Machine.execSetTiming req s
  | .setChannel req => Sys2Proof.Machine.execSetChannel req s
  | .frameOpen req => Sys2Proof.Machine.execFrameOpen req s
  | .frameData req => Sys2Proof.Machine.execFrameData req s
  | .frameCancel req => Sys2Proof.Machine.execFrameCancel req s
  | .purgeFrames req => Sys2Proof.Machine.execPurgeFrames req s
  | .setPlay req => Sys2Proof.Machine.execSetPlay req s
  | .exerciseStart req => Sys2Proof.Machine.execExerciseStart req s
  | .exerciseStop req => Sys2Proof.Machine.execExerciseStop req s
  | .readStore req => Sys2Proof.Machine.execReadStore req s
  | .readSockets req => Sys2Proof.Machine.execReadSockets req s
  | .fetchFailures req => Sys2Proof.Machine.execFetchFailures req s
  | .armCapture req => Sys2Proof.Machine.execArmCapture req s
  | .readCapture req => Sys2Proof.Machine.execReadCapture req s
  | .unknownKind hit body => Sys2Proof.Machine.execUnknownKind hit body s

end Sys2Proof.Machine
end

