-- ==== Sys2Proof/WellFormed.lean ====
section
/-! DEFINITION. Which commands are well formed: the operands lie in the ranges the spec gives them. -/

namespace Sys2Proof

/-- A message command's kind and request; none for the other commands. -/
def Instr.message : Instr → Option (Kind × Request)
  | .ping r => some (.ping, r)
  | .status r => some (.status, r)
  | .release r => some (.release, r)
  | .restart r => some (.restart, r)
  | .setLink r => some (.setLink, r)
  | .setClass r => some (.setClass, r)
  | .ackClasses r => some (.ackClasses, r)
  | .readUnanswered r => some (.readUnanswered, r)
  | .linkStats r => some (.linkStats, r)
  | .readIdentity r => some (.readIdentity, r)
  | .reidentify r => some (.reidentify, r)
  | .loadRecipe r => some (.loadRecipe, r)
  | .readRecipe r => some (.readRecipe, r)
  | .start r => some (.start, r)
  | .go r => some (.go, r)
  | .stop r => some (.stop, r)
  | .pause r => some (.pause, r)
  | .resume r => some (.resume, r)
  | .clearSafe r => some (.clearSafe, r)
  | .retireSocket r => some (.retireSocket, r)
  | .setZone r => some (.setZone, r)
  | .setRail r => some (.setRail, r)
  | .setBudget r => some (.setBudget, r)
  | .readZones r => some (.readZones, r)
  | .readRails r => some (.readRails, r)
  | .setTiming r => some (.setTiming, r)
  | .setChannel r => some (.setChannel, r)
  | .frameOpen r => some (.frameOpen, r)
  | .frameData r => some (.frameData, r)
  | .frameCancel r => some (.frameCancel, r)
  | .purgeFrames r => some (.purgeFrames, r)
  | .setPlay r => some (.setPlay, r)
  | .exerciseStart r => some (.exerciseStart, r)
  | .exerciseStop r => some (.exerciseStop, r)
  | .readStore r => some (.readStore, r)
  | .readSockets r => some (.readSockets, r)
  | .fetchFailures r => some (.fetchFailures, r)
  | .armCapture r => some (.armCapture, r)
  | .readCapture r => some (.readCapture, r)
  | .powerOn _ | .pinReset _ | .restartShutOff _ | .seatContactChange _ _ | .seatMakeTimerExpiry
  | .seatOpenTimerExpiry | .safetyChainOpen _ | .identityAttemptEnd _ | .identityAttemptTimeout
  | .identityRetryWaitExpiry | .armTimerExpiry | .drainTimerExpiry | .railDrainStep | .linkSilenceExpiry
  | .railSample _ | .settleTimerExpiry _ | .socketSample _ _ | .blankingExpiry _ | .cooldownExpiry _
  | .controlPassStart | .controlPassComplete _ | .heaterPwmFrameStart | .creditIntervalExpiry | .vectorEnd
  | .vectorStrobe _ | .lineCharacter _ | .lineCharacterTimeout | .replyStart | .replyComplete
  | .unknownKind _ _ => none

/-- A frame's body has 1 to 248 characters (R173). -/
def bodyLengthOk (body : List Byte) : Bool :=
  1 ≤ body.length && body.length ≤ Config.bodyLimit

/-- Is the body malformed, or its kind not in the catalogue (the table's UNKNOWN_KIND row)? -/
def bodyUnknown (body : List Byte) : Bool :=
  let h := parseBody body
  h.short || h.foreign || 4 < h.count || (h.kindChar.bind Kind.ofCode).isNone

/-- The checks of a command's operands. -/
def Instr.wf (i : Instr) : Bool :=
  match i.message with
  | some (k, r) => bodyLengthOk (encodeBody k r)
  | none =>
    match i with
    | .identityAttemptEnd (.bytes image) => image.length == 302
    | .controlPassComplete codes => codes.cells.all (· ≤ 4095)
    | .unknownKind _ body => bodyLengthOk body && bodyUnknown body
    | _ => true

end Sys2Proof
end

