-- ==== Sys2Proof/Safety.lean ====
section
/-! DEFINITION. What holds of a sound state of the part: the manual's laws as predicates on State, block by block,
each with what it needs to be kept by every step. -/

namespace Sys2Proof.Machine

/-- The states a socket rests in while no run is on (4.9, R77). -/
def SocketState.resting : SocketState → Bool
  | .vacant | .off | .retired | .completed => true
  | _ => false

/-- R56: a switch is closed exactly in ACTIVE and WARNED, and outside ARMING and RUNNING every socket rests. -/
def State.SwitchLaw (s : State) : Prop :=
  ∀ k, (s.sock.sockets.get k).switchClosed = (s.sock.sockets.get k).state.powered
    ∧ (s.slot.state.inRun = false → (s.sock.sockets.get k).state.resting = true)

/-- R80's law: a zone that is not REGULATING has no duty, asked, granted or applied; outside ARMING and RUNNING every
zone is IDLE. -/
def State.HeaterLaw (s : State) : Prop :=
  ∀ z, ((s.therm.zones.get z).state ≠ .regulating →
      (s.therm.zones.get z).u = 0 ∧ (s.therm.zones.get z).granted = 0 ∧ (s.therm.zones.get z).appliedDuty = 0)
    ∧ (s.slot.state.inRun = false → (s.therm.zones.get z).state = .idle)

/-- 3.1 and R50's law: a regulator is enabled at its setpoint exactly in RAMPING and REGULATED, and in RUNNING every
used rail is REGULATED. -/
def State.RailLaw (s : State) : Prop :=
  ∀ r, (s.rail.rails.get r).regulatorOn = (s.rail.rails.get r).state.driven
    ∧ (s.rail.rails.get r).reference =
        (if (s.rail.rails.get r).state.driven then (s.rail.rails.get r).setpoint else 0)
    ∧ (s.slot.state = .running → (s.rail.rails.get r).used = true → (s.rail.rails.get r).state = .regulated)

/-- R127, R128: the exerciser leaves IDLE only in a RUNNING dynamic run; its marks belong to PLAYING (R129, R130,
R131). -/
def State.PlayLaw (s : State) : Prop :=
  (s.exer.state ≠ .idle → s.slot.state = .running ∧ s.exer.dynamic = true)
    ∧ (s.exer.holdRequested = true → s.exer.state = .playing)
    ∧ (s.exer.stopRequested = true → s.exer.state = .playing)

/-- R137: a socket that is not ACTIVE or WARNED has an empty compare window; in a run the functional threshold is at
least 1 (R32, R126). -/
def State.WindowLaw (s : State) : Prop :=
  (∀ k, (s.sock.sockets.get k).state.powered = false → (s.exer.compare.get k).windowCount = 0)
    ∧ (s.slot.state.inRun = true → 1 ≤ s.exer.threshold)

/-- R64's and R71's laws: the counters in range, and in a run no retry count above the limit, nor at it for an
ISOLATED socket. -/
def State.RetryLaw (s : State) : Prop :=
  ∀ k, (s.sock.sockets.get k).faultCounter ≤ 255
    ∧ (s.sock.sockets.get k).softTrips ≤ 255 ∧ (s.sock.sockets.get k).hardTrips ≤ 255
    ∧ (s.slot.state.inRun = true → (s.sock.sockets.get k).retries ≤ s.sock.retryLimit
        ∧ ((s.sock.sockets.get k).state = .isolated → (s.sock.sockets.get k).retries < s.sock.retryLimit))

/-- A stored frame's fields lie in their ranges (7.1). -/
def FrameDesc.inRange (f : FrameDesc) : Prop :=
  f.first < Config.vectorSlots ∧ 1 ≤ f.count ∧ f.count ≤ 1024 ∧ 1 ≤ f.repeats

/-- R110's law of the numbers of slots and frames and of their ids, with the canonical form of the vector memory and
the OPEN frame last (7.2). Where the frames lie is State.ArcLaw. -/
def State.StoreLaw (s : State) : Prop :=
  Memory.wf s.store.memory = true
    ∧ (∀ c ∈ s.store.memory, c.1 < Config.vectorSlots)
    ∧ s.store.frames.length ≤ Config.frameLimit
    ∧ s.store.usedSlots ≤ Config.vectorSlots
    ∧ (s.store.frames.map (·.id)).Nodup
    ∧ (∀ f ∈ s.store.frames, f.inRange)
    ∧ (∀ f ∈ s.store.frames.dropLast, f.status.isOpen = false)
    ∧ s.store.readEnd < Config.vectorSlots ∧ s.store.writeEnd < Config.vectorSlots

/-- R110: each frame begins where the one before it ends, round the circle, from the slot `start` up to the slot before
`stop`. -/
def framesArc (start : Nat) : List FrameDesc → Nat → Bool
  | [], stop => start == stop
  | f :: rest, stop => f.first == start && framesArc ((start + f.count) % Config.vectorSlots) rest stop

/-- R110: the stored frames are one unbroken arc from the read end up to the write end. -/
def State.ArcLaw (s : State) : Prop := framesArc s.store.readEnd s.store.frames s.store.writeEnd = true

def FrameStatus.isPlaying : FrameStatus → Bool
  | .playing _ => true
  | _ => false

/-- 7.1, R116, R118 and R121: a TAIL stands at the head of the list, and only in Stream mode; the PLAYING frame is the
current one; the current frame is stored, PLAYING or TAIL, and in Stream mode the head; an exerciser that is IDLE or
STARVED has no current frame. -/
def State.CurrentLaw (s : State) : Prop :=
  (∀ f ∈ s.store.frames.drop 1, f.status.isTail = false)
    ∧ (s.store.mode = .loop → ∀ f ∈ s.store.frames, f.status.isTail = false)
    ∧ (∀ f ∈ s.store.frames, f.status.isPlaying = true → s.store.current = some f.id)
    ∧ (s.store.current.isSome = true → ∃ f ∈ s.store.frames, s.store.current = some f.id
        ∧ (f.status.isPlaying = true ∨ f.status.isTail = true)
        ∧ (s.store.mode = .stream → s.store.frames.head? = some f))
    ∧ (s.exer.state = .idle ∨ s.exer.state = .starved → s.store.current = none)

/-- R110's laws with what keeps the arc unbroken from step to step: play takes and frees frames at the head, and no
frame is current when play begins (R116, R127, R128). -/
def State.StoreSound (s : State) : Prop :=
  s.StoreLaw ∧ s.ArcLaw ∧ s.CurrentLaw ∧ (s.exer.state ≠ .idle → s.slot.state = .running)

/-- The four kinds charged to a socket (R152). -/
def FailureKind.ofSocket : FailureKind → Bool
  | .overcurrentSoft | .overcurrentHard | .functional | .retired => true
  | _ => false

/-- The kinds that name a rail or a zone (R152). -/
def FailureKind.ofUnit : FailureKind → Bool
  | .railFault | .zoneTrip | .sensorFail => true
  | _ => false

/-- R152, R153: at most 64 entries, each with a socket exactly for a socket kind and a unit exactly for a unit kind;
the dropped count within its range. -/
def State.LogLaw (s : State) : Prop :=
  s.fail.log.length ≤ Config.logLimit ∧ s.fail.dropped ≤ 65535
    ∧ ∀ e ∈ s.fail.log, e.socket.isSome = e.kind.ofSocket ∧ e.unit.isSome = e.kind.ofUnit

/-- The timers and the paused flag belong to their slot states (R12, R13, R14, R17, R18, R142). -/
def State.TimerLaw (s : State) : Prop :=
  (s.slot.armTimer.isSome = true → s.slot.state = .arming)
    ∧ (s.slot.drainTimer.isSome = true → s.slot.state = .draining)
    ∧ (s.slot.paused = true → s.slot.state = .running)
    ∧ (s.credit.timer.isSome = true → s.slot.state = .running)

/-- R144, R146 and R147: a socket's credit never passes the stress target in force, and a socket that is not VACANT
is COMPLETED exactly at it; the current run never passes its limit, and a live run is below it. -/
def State.CreditLaw (s : State) : Prop :=
  (∀ k, (s.credit.accounts.get k).credited ≤ s.credit.target
      ∧ ((s.sock.sockets.get k).state = .vacant → (s.credit.accounts.get k).credited = 0)
      ∧ ((s.sock.sockets.get k).state ≠ .vacant →
          ((s.sock.sockets.get k).state = .completed ↔ (s.credit.accounts.get k).credited = s.credit.target)))
    ∧ s.credit.currentRun ≤ s.credit.runLimit
    ∧ (s.slot.state.inRun = true → s.credit.currentRun < s.credit.runLimit)
    ∧ (∀ g, s.recipe.general = some g → 1 ≤ g.target ∧ g.target ≤ g.runLimit ∧ 1 ≤ g.threshold)

/-- The accounts' law with what keeps it from step to step. -/
def State.AccountsSound (s : State) : Prop :=
  s.SwitchLaw ∧ s.TimerLaw ∧ s.PlayLaw ∧ s.WindowLaw ∧ s.CreditLaw

/-- The retry law with what keeps it from step to step. -/
def State.RetriesSound (s : State) : Prop := s.SwitchLaw ∧ s.RetryLaw

/-- The invariant is kept: from every state that has it, whatever command stands in front. -/
def KeptByStep (inv : State → Prop) : Prop := ∀ s t, inv s → step s = .next t → inv t

/-- The command that a request of a kind is. -/
def commandOf : Kind → Request → Instr
  | .ping => .ping
  | .status => .status
  | .release => .release
  | .restart => .restart
  | .setLink => .setLink
  | .setClass => .setClass
  | .ackClasses => .ackClasses
  | .readUnanswered => .readUnanswered
  | .linkStats => .linkStats
  | .readIdentity => .readIdentity
  | .reidentify => .reidentify
  | .loadRecipe => .loadRecipe
  | .readRecipe => .readRecipe
  | .start => .start
  | .go => .go
  | .stop => .stop
  | .pause => .pause
  | .resume => .resume
  | .clearSafe => .clearSafe
  | .retireSocket => .retireSocket
  | .setZone => .setZone
  | .setRail => .setRail
  | .setBudget => .setBudget
  | .readZones => .readZones
  | .readRails => .readRails
  | .setTiming => .setTiming
  | .setChannel => .setChannel
  | .frameOpen => .frameOpen
  | .frameData => .frameData
  | .frameCancel => .frameCancel
  | .purgeFrames => .purgeFrames
  | .setPlay => .setPlay
  | .exerciseStart => .exerciseStart
  | .exerciseStop => .exerciseStop
  | .readStore => .readStore
  | .readSockets => .readSockets
  | .fetchFailures => .fetchFailures
  | .armCapture => .armCapture
  | .readCapture => .readCapture

/-- The part right after a valid frame is heard: the receiver waits for an address and the silence timer is
restarted (R22, R166). -/
def State.heard (s : State) : State :=
  s.setLink { s.link.restartSilence with receiver := .waitAddress }

/-- The link stands ready to take a frame at once (R168), and the request passes the tests of R169 steps 1 to 6. -/
def State.Takes (s : State) (k : Kind) (r : Request) : Prop :=
  s.link.inHand = none ∧ s.link.restartDue = false ∧ s.screen k r = none

/-- The link stands ready to take a frame at once (R168). -/
def State.LinkReady (s : State) : Prop := s.link.inHand = none ∧ s.link.restartDue = false

/-- The state after a request of kind `k` has been executed with this outcome: `t` is the state its rule leaves, and
the reply stands in hand (R170) or the result in the unanswered-results list (R171). -/
def State.answering (t : State) (k : Kind) (r : Request) (result : Result) (data : List Byte) : State :=
  State.conclude k.code r.hit (callOf r).answered { state := t, result := result, data := data }

/-- A SET_PLAY applied to the store alone (R135). -/
def Store.withPlay (st : Store) : Option PlaySettings → Store
  | some p => { st.setMode p.mode with lowWater := p.lowWater }
  | none => st

/-- What play alone can move is all that moved: the store, the exerciser and the notice unit. -/
def OnlyPlayMoved (s t : State) : Prop :=
  t.slot = s.slot ∧ t.ident = s.ident ∧ t.recipe = s.recipe ∧ t.rail = s.rail ∧ t.sock = s.sock
    ∧ t.therm = s.therm ∧ t.credit = s.credit ∧ t.fail = s.fail ∧ t.link = s.link
    ∧ t.freeCount = s.freeCount ∧ t.pending = s.pending

/-- R121, R122: the store before and after a play mode is put in force. The mode in force leaves it as it is; to Loop,
a current TAIL is PLAYING one pass short of its repeats and any other TAIL is READY; to Stream, the frames before the
current one are gone, or none without a current frame. -/
def Store.Moded (st st' : Store) (m : PlayMode) : Prop :=
  (st.mode = m → st' = st)
    ∧ (st.mode = .stream → m = .loop → st' = { st with
        mode := .loop
        frames := st.frames.map fun f => { f with status := match f.status with
          | .tail => if st.current = some f.id then .playing (f.repeats - 1) else .ready
          | x => x } })
    ∧ (st.mode = .loop → m = .stream →
      (st.currentFrame = none → st' = { st with mode := .stream })
      ∧ ∀ before f after, st.currentFrame = some f → st.frames = before ++ f :: after → (∀ g ∈ before, g.id ≠ f.id) →
        st' = { st with mode := .stream, frames := f :: after, readEnd := f.first })

/-- R135, with R121, R122 and R123: the part before and after waiting settings are applied while the exerciser is not
STARVED. A channel's clock restarts when what times it changed, or when the even channel below went into or out of
PAIR (log 36); C7A is raised only by a SET_PLAY that keeps the mark and whose change to Stream frees READY frames. -/
def State.Applied (s t : State) (x : Settings) : Prop :=
  let old := s.exer.channels.get
  let new := t.exer.channels.get
  (∀ c, new c = (x.channels.get c).getD (old c))
    ∧ (∀ c, t.exer.clockAge.get c =
        if (new c).mode ≠ (old c).mode ∨ (new c).period ≠ (old c).period ∨ (new c).high ≠ (old c).high
          ∨ (new c).dead ≠ (old c).dead
          ∨ (∃ b : Fin 16, b.val % 2 = 0 ∧ b.val + 1 = c.val ∧ ((new b).mode = .pair ↔ (old b).mode ≠ .pair))
        then 0 else s.exer.clockAge.get c)
    ∧ t.exer = { s.exer with
        timing := x.timing.getD s.exer.timing, channels := t.exer.channels, clockAge := t.exer.clockAge
        underrun := (x.play.map PlaySettings.underrun).getD s.exer.underrun }
    ∧ (x.play = none → t.store = s.store ∧ t.notice = s.notice)
    ∧ (∀ p, x.play = some p →
        s.store.Moded { t.store with lowWater := s.store.lowWater } p.mode ∧ t.store.lowWater = p.lowWater
        ∧ t.notice =
          (if p.lowWater = s.store.lowWater ∧ p.mode = .stream ∧ p.lowWater < s.store.readyCount
              ∧ t.store.readyCount ≤ p.lowWater
            then s.notice.countRaise 7 else s.notice))
    ∧ OnlyPlayMoved s t

/-- What an entry to DRAINING and an entry to SAFE have in common (R17, R19, R77, R80, R106, R128, R142), between the
state before and the state after. -/
def State.Quiesced (s t : State) : Prop :=
  (∀ k, t.sock.sockets.get k =
      { s.sock.sockets.get k with
        state := if (s.sock.sockets.get k).state = .active ∨ (s.sock.sockets.get k).state = .warned
            ∨ (s.sock.sockets.get k).state = .heldOff ∨ (s.sock.sockets.get k).state = .isolated
          then .off else (s.sock.sockets.get k).state
        offCount := (s.sock.sockets.get k).offCount
          + (if (s.sock.sockets.get k).state = .active ∨ (s.sock.sockets.get k).state = .warned then 1 else 0)
        prior := none, blanking := none, cooldown := none, retryDue := false, switchClosed := false })
    ∧ t.sock = { s.sock with sockets := t.sock.sockets }
    ∧ (∀ z, t.therm.zones.get z =
        { s.therm.zones.get z with
          state := .idle, integrator := 0, u := 0, granted := 0, limited := false, inWindow := false,
          appliedDuty := 0 })
    ∧ t.therm = { s.therm with
        zones := t.therm.zones
        slotBudget := { s.therm.slotBudget with scaled := false, overRun := 0, hold := false } }
    ∧ t.credit = { s.credit with timer := none }
    ∧ t.exer.state = .idle ∧ t.exer.position = none ∧ t.exer.holdBudget = false ∧ t.exer.holdPause = false
    ∧ t.exer.holdRequested = false ∧ t.exer.stopRequested = false ∧ t.exer.strobeDue = false
    ∧ t.exer.boundary = Settings.empty ∧ t.exer.staged = Settings.empty ∧ t.exer.stalls = s.exer.stalls
    ∧ (∀ k, t.exer.compare.get k = { s.exer.compare.get k with windowCount := 0, firstMismatch := none })
    ∧ t.exer.timing = (s.exer.staged.timing.or s.exer.boundary.timing).getD s.exer.timing
    ∧ (∀ c, t.exer.channels.get c =
        ((s.exer.staged.channels.get c).or (s.exer.boundary.channels.get c)).getD (s.exer.channels.get c))
    ∧ t.exer.underrun =
        ((s.exer.staged.play.or s.exer.boundary.play).map PlaySettings.underrun).getD s.exer.underrun
    ∧ t.exer.dynamic = s.exer.dynamic ∧ t.exer.policy = s.exer.policy ∧ t.exer.threshold = s.exer.threshold
    ∧ t.store = (s.store.release.withPlay s.exer.boundary.play).withPlay s.exer.staged.play
    ∧ t.store.current = none

/-- R28, check by check, on a 302-byte image. -/
def ImageOk (image : List Byte) : Prop :=
  crc16 (image.take 300) = BitVec.ofNat 16 (u16At image 300)
    ∧ byteAt image 0 = 1
    ∧ 1 ≤ byteAt image 1 ∧ byteAt image 1 ≤ 48
    ∧ (∀ k < 48, byteAt image (252 + k) = 255
        ∨ (byteAt image (252 + k) / 16 ≤ 3 ∧ byteAt image (252 + k) % 16 ≤ 5))
    ∧ ((List.range 48).filter fun k => byteAt image (252 + k) ≠ 255).length = byteAt image 1
    ∧ (∀ r < 4, u16At image (8 + 4 * r) ≤ 16000
        ∧ 1 ≤ u16At image (10 + 4 * r) ∧ u16At image (10 + 4 * r) ≤ 4000)
    ∧ (∀ z < 6, u16At image (24 + 38 * z) ≤ 2500
        ∧ -624 ≤ s16At image (26 + 38 * z) ∧ s16At image (26 + 38 * z) ≤ 4000)
    ∧ ∀ z < 6, ∀ i < 17,
        -640 ≤ s16At image (28 + 38 * z + 2 * i) ∧ s16At image (28 + 38 * z + 2 * i) ≤ 4000

/-- What START NEW and START CONTINUE have in common (R11, R38, R43, R44, R60, R79, R99, R109, R126), for GENERAL `g`
and the board `d`: everything but the accounts. -/
def State.Begun (s t : State) (g : General) (d : Identity) : Prop :=
  let p := s.recipe.clampTo d
  let loaded := fun r : Fin 4 =>
    { s.rail.rails.get r with
      state := .off, regulatorOn := false, reference := 0, settleTimer := none, outRun := 0
      used := ((p.rails.get r).map RailSection.used).getD false
      order := (p.rails.get r).map RailSection.order
      setpoint := ((p.rails.get r).map RailSection.setpoint).getD 0
      window := ((p.rails.get r).map RailSection.window).getD 0
      settle := ((p.rails.get r).map RailSection.settle).getD 0 }
  t.recipe = p
    ∧ t.slot = { s.slot with
        state := .arming, endCause := .none, goGiven := false, paused := false, armTimer := some g.armTimeout }
    ∧ (∀ r, t.rail.rails.get r =
        if t.rail.startSeq.head? = some r then
          { loaded r with
            state := .ramping, regulatorOn := true, reference := (loaded r).setpoint, sampleV := 0, sampleI := 0,
            inWindow := false, settleTimer := some (loaded r).settle }
        else loaded r)
    ∧ (∀ r, r ∈ t.rail.startSeq ↔ (loaded r).used = true ∧ ∃ o, 1 ≤ o ∧ o ≤ 4 ∧ (loaded r).order = some o)
    ∧ (t.rail.startSeq.map fun r => (loaded r).order.getD 0).Pairwise (· ≤ ·)
    ∧ t.rail.seqComplete = false
    ∧ (∀ r, t.sock.softLimits.get r = ((p.rails.get r).map RailSection.soft).getD 0
        ∧ t.sock.hardLimits.get r = ((p.rails.get r).map RailSection.hard).getD 0)
    ∧ t.sock.retryLimit = g.retryLimit ∧ t.sock.cooldownTime = g.cooldown
    ∧ (∀ z x, p.zones.get z = some x → t.therm.zones.get z =
        { s.therm.zones.get z with
          state := .regulating, integrator := 0, u := 0, granted := 0, limited := false, inWindow := false,
          setpoint := x.setpoint, window := x.window, margin := x.margin, kp := x.kp, ki := x.ki })
    ∧ t.therm = { s.therm with
        zones := t.therm.zones
        slotBudget := { s.therm.slotBudget with budget := g.budget, scaled := false, overRun := 0, hold := false } }
    ∧ t.store = { s.store.setMode g.mode with lowWater := g.lowWater }
    ∧ (∀ c, t.exer.channels.get c = (p.channels.get c).getD ChannelSection.atReset)
    ∧ t.exer = { s.exer with
        timing := p.timing.getD { period := 0, offset := 0 }, channels := t.exer.channels, dynamic := g.dynamic,
        underrun := g.underrun, policy := g.policy, threshold := g.threshold, boundary := Settings.empty,
        staged := Settings.empty, compare := t.exer.compare }
    ∧ t.credit.target = g.target ∧ t.credit.runLimit = g.runLimit ∧ t.credit.currentRun = 0
    ∧ t.credit.timer = s.credit.timer
    ∧ t.ident = s.ident ∧ t.link = s.link ∧ t.freeCount = s.freeCount ∧ t.pending = s.pending

/-- Commands executed one after another, up to the first that does not complete. -/
def execAll : List Instr → State → Host.Outcome State Fault Refusal
  | [], s => .next s
  | c :: rest, s =>
    match exec c s with
    | .next t => execAll rest t
    | .fault f => .fault f
    | .refused x => .refused x

/-- The result codes of a request that is taken (R170). -/
def Result.taken : Result → Bool
  | .ok | .clamped | .accepted => true
  | _ => false

end Sys2Proof.Machine
end

