-- ==== Sys2Proof/Certificates/Slice0/Obligations.lean ====
section
/-! DEFINITION. The statements about the part, for the provers. OBLIGATIONS.json lists them. -/

open Sys2Proof Sys2Proof.Machine

/-- [opcode_table.json] For every state: if a command stands at the front of the queue, step is exec of that command on
the state with the rest of the queue; on an empty queue step answers the same state. The queue and the idling are the
model's own (assumption log 5). -/
def Obligations.StepTakesTheFront : Prop :=
  (∀ (s : State) (c : Instr) (rest : List Instr), s.pending = c :: rest → step s = exec c (s.setPending rest))
    ∧ ∀ s : State, s.pending = [] → step s = .next s

/-- [opcode_table.json] For every command, with any operands, and every state, exec answers a next state, never a fault or
a refusal, and the queue of waiting commands in it is the one before. That no command stops is the model's reading of
the spec (assumption log 33), and the queue is the model's own (assumption log 5). -/
def Obligations.EveryCommandCompletes : Prop :=
  ∀ (c : Instr) (s : State), ∃ t, exec c s = .next t ∧ t.pending = s.pending

/-- [R169] For every kind and request, the body encodeBody writes (qualifiers, kind character, payload) is read by
parseBody as the same qualifiers in order, their count, no foreign code, the kind's character and the same payload;
and the kind character names that kind. -/
def Obligations.BodyReadsBack : Prop :=
  ∀ (k : Kind) (r : Request),
    parseBody (encodeBody k r) =
      { quals := r.quals, count := r.quals.length, foreign := false, kindChar := some k.code, payload := r.payload,
        short := false }
    ∧ Kind.ofCode k.code = some k

/-- [R166, R167, R168, R169, R173] Let the part not be sending. For every kind, request, source character and address that
its filters accept with the request's filter hit, the frame of that request (address, source, length, body, CRC-16
check) fed one character at a time, whatever the receiver was doing before, leaves exactly the state that the message
command leaves: executed at once, waiting, or discarded as overrun. That a message command is such a frame's
completion is the model's own (assumption log 6). -/
def Obligations.FrameOnTheLineActsAsItsCommand : Prop :=
  ∀ (s : State) (k : Kind) (r : Request) (address source : Byte),
    s.link.sending = false → s.link.accepts address = some r.hit → bodyLengthOk (encodeBody k r) = true →
    execAll ((lineFrame address source (encodeBody k r)).map Instr.lineCharacter) s = exec (commandOf k r) s

/-- [R169, R3, R112, R170] Let the link be free. A request of any kind with more than four qualifiers gets BAD_QUALIFIER;
else one whose TARGET does not fit the kind, or with AT_BOUNDARY on a kind that takes none, gets BAD_QUALIFIER; else
one with a payload length its kind does not allow gets BAD_LENGTH; else in HOLD every kind but PING, STATUS, RELEASE,
RESTART and SET_LINK gets WRONG_STATE. The refusal's detail is 0, or for FRAME_DATA, told by its kind character also
at a fifth qualifier (assumption log 21), the received count in its place; nothing changes but the receiver, the
silence timer and the reply or record. -/
def Obligations.RequestTestsComeInOrder : Prop :=
  ∀ (s : State) (k : Kind) (r : Request), s.LinkReady →
    let detail := if k = .frameData then chars2 s.store.received else [0]
    (4 < r.quals.length → exec (commandOf k r) s = .next (s.heard.answering k r .badQualifier detail))
    ∧ (r.quals.length ≤ 4 →
        let targeted := (lastTarget r.quals).isSome
        ((targeted = true ∧ k.target = .no ∨ targeted = false ∧ k.target = .required
            ∨ r.quals.contains .atBoundary = true ∧ k ≠ .setTiming ∧ k ≠ .setChannel ∧ k ≠ .setPlay) →
          exec (commandOf k r) s = .next (s.heard.answering k r .badQualifier detail))
        ∧ (targetFits k (lastTarget r.quals) = true → (r.quals.contains .atBoundary = true → k.takesBoundary = true) →
          (k.lengthOk r.payload = false →
            exec (commandOf k r) s = .next (s.heard.answering k r .badLength detail))
          ∧ (k.lengthOk r.payload = true → s.slot.state = .hold → k ≠ .ping → k ≠ .status → k ≠ .release →
              k ≠ .restart → k ≠ .setLink →
            exec (commandOf k r) s = .next (s.heard.answering k r .wrongState detail))))

/-- [R169, R170] For every kind, call and state: when the kind's rule answers any result other than OK, CLAMPED or
ACCEPTED, the state it leaves is the state it found. -/
def Obligations.RefusalChangesNothing : Prop :=
  ∀ (k : Kind) (c : Call) (s : State), (ruleOf k c s).result.taken = false → (ruleOf k c s).state = s

/-- [R168, R167] For every kind and request: while a reply is being sent nothing changes. Otherwise, with a frame in hand
(or a RESTART due), the frame becomes the waiting frame and restarts the silence timer when none waits; when one
already waits, the overrun count rises (saturating at 65535), C9B is raised and the waiting frame is kept. That a
frame also waits while a RESTART is due with nothing in hand is the model's reading (assumption log 7). -/
def Obligations.BusyLinkMakesAFrameWait : Prop :=
  ∀ (s : State) (k : Kind) (r : Request),
    (s.link.sending = true → exec (commandOf k r) s = .next s)
    ∧ (s.link.sending = false → (s.link.inHand.isSome = true ∨ s.link.restartDue = true) →
        (s.link.waiting = none →
          exec (commandOf k r) s = .next (s.setLink { s.link with
            receiver := .waitAddress, waiting := some { hit := r.hit, body := encodeBody k r },
            silenceTimer := if s.link.silenceLimit = 0 then none else some s.link.silenceLimit }))
        ∧ (s.link.waiting.isSome = true →
          exec (commandOf k r) s = .next ((s.setLink { s.link with
            receiver := .waitAddress, overruns := min 65535 (s.link.overruns + 1) }).notify 9 .b)))

/-- [R170, R171, R173, R168] For every state, kind, request and outcome: with filter hit UNIT and no QUIET the reply (kind
plus 0x80, result, payload) stands in hand and the unanswered-results list is as before; otherwise the entry (kind
character, filter hit, result) is appended to the list, the oldest entry leaving first when it already holds four, and
no frame is in hand that was not. While a reply is being sent the part transmits its frame: address 0 with the mark
set, then as data characters the unit address, the body length, the body (kind, result code, payload) and the CRC-16
over these from the unit address on, high character first; otherwise it transmits nothing. The result codes are those
of R170. -/
def Obligations.AnsweredOrRecorded : Prop :=
  ∀ (t : State) (k : Kind) (r : Request) (x : Result) (data : List Byte) (y : InHand),
    (r.hit = .unit → r.quals.contains .quiet = false →
      t.answering k r x data = t.setLink { t.link with
        inHand := some { reply := { kind := k.code + 0x80, result := x, payload := data }, sending := false } })
    ∧ ((r.hit ≠ .unit ∨ r.quals.contains .quiet = true) →
      t.answering k r x data = t.setLink { t.link with
        unanswered := (if 4 ≤ t.link.unanswered.length then t.link.unanswered.drop 1 else t.link.unanswered)
          ++ [{ kind := k.code, hit := r.hit, result := x }] })
    ∧ (t.link.inHand = some y → y.sending = true →
      let body := y.reply.kind :: y.reply.result.code :: y.reply.payload
      let covered := BitVec.ofNat 8 (t.link.straps.slot.toNat + 1) :: BitVec.ofNat 8 body.length :: body
      let check := (crc16 covered).toNat
      t.link.transmits = some ({ value := 0, mark := true, stopOk := true } ::
        (covered ++ [BitVec.ofNat 8 (check / 256), BitVec.ofNat 8 check]).map fun v =>
          { value := v, mark := false, stopOk := true }))
    ∧ (t.link.inHand = none → t.link.transmits = none)
    ∧ (t.link.inHand = some y → y.sending = false → t.link.transmits = none)
    ∧ ([.ok, .clamped, .accepted, .wrongState, .badKind, .badLength, .badValue, .badQualifier, .noRoom, .duplicate,
        .noRecipe, .noIdentity, .interlock, .mismatch, .busy] : List Result).map Result.code =
      [0, 1, 2, 0x10, 0x11, 0x12, 0x13, 0x14, 0x15, 0x16, 0x17, 0x18, 0x19, 0x1A, 0x1B]

/-- [R169, R170, R171, R112] Let the link be free. A body that ends before its kind character gets BAD_LENGTH; else one
with a foreign qualifier code or a fifth qualifier gets BAD_QUALIFIER; else one whose kind is not in the catalogue
gets BAD_KIND. The reply carries kind 0x80 plus the character in the kind position (0x80 when there was none) and
detail 0, or for the character 0x29 (FRAME_DATA, assumption log 21) the received count, or the entry records that
character or 0; nothing else changes but the receiver and the silence timer. How the reading goes on past a foreign
code is the model's choice (assumption log 20). -/
def Obligations.UnknownKindIsRefused : Prop :=
  ∀ (s : State) (hit : FilterHit) (body : List Byte) (result : Result), s.LinkReady →
    ((parseBody body).short = true ∧ result = .badLength
      ∨ (parseBody body).short = false ∧ ((parseBody body).foreign = true ∨ 4 < (parseBody body).count)
        ∧ result = .badQualifier
      ∨ (parseBody body).short = false ∧ (parseBody body).foreign = false ∧ (parseBody body).count ≤ 4
        ∧ (parseBody body).kindChar.bind Kind.ofCode = none ∧ result = .badKind) →
    let kindChar := (parseBody body).kindChar.getD 0
    let detail := if kindChar = 0x29 then chars2 s.store.received else [0]
    exec (.unknownKind hit body) s = .next
      (if hit = .unit ∧ (parseBody body).quals.contains .quiet = false then
        s.heard.setLink { s.heard.link with
          inHand := some { reply := { kind := kindChar + 0x80, result := result, payload := detail }, sending := false } }
      else s.heard.setLink (s.heard.link.record { kind := kindChar, hit := hit, result := result }))

/-- [R168, R25] REPLY_START with a composed reply in hand begins sending it and puts the receiver in WAIT_ADDRESS; a frame
being received then is abandoned, counted as a character error, and C9B is raised. REPLY_COMPLETE while sending
empties the hand; the waiting frame, if any, is then executed in that event, except that with a RESTART due nothing
more happens. With nothing to start or to end, neither changes anything. That a due RESTART leaves the waiting frame
unexecuted is the model's reading (assumption log 7). -/
def Obligations.ReplyHoldsTheLineUntilItsEnd : Prop :=
  ∀ (s : State) (x : InHand),
    (s.link.inHand = some x → x.sending = false → s.link.receiver = .waitAddress →
      exec .replyStart s = .next (s.setLink { s.link with inHand := some { x with sending := true } }))
    ∧ (∀ hit chars, s.link.inHand = some x → x.sending = false → s.link.receiver = .receiving hit chars →
      exec .replyStart s = .next ((s.setLink { s.link with
        inHand := some { x with sending := true }, receiver := .waitAddress,
        charErrors := min 65535 (s.link.charErrors + 1) }).notify 9 .b))
    ∧ (s.link.inHand = some x → x.sending = true → exec .replyStart s = .next s)
    ∧ (s.link.inHand = none → exec .replyStart s = .next s)
    ∧ (s.link.inHand = some x → x.sending = true → (s.link.restartDue = true ∨ s.link.waiting = none) →
      exec .replyComplete s = .next (s.setLink { s.link with inHand := none }))
    ∧ (∀ w, s.link.inHand = some x → x.sending = true → s.link.restartDue = false → s.link.waiting = some w →
      exec .replyComplete s =
        .next ((s.setLink { s.link with inHand := none, waiting := none }).serveBody w.hit w.body))
    ∧ (s.link.sending = false → exec .replyComplete s = .next s)

/-- [R166, R167] While not sending: in WAIT_ADDRESS a data character or a character error changes nothing, and an address
character starts a frame exactly when it is accepted; acceptance is unit address, then 255, then the enabled group
filter agreeing in every bit whose mask bit is 0, and never value 0. In RECEIVING a character error, a length of 0 or
above 248 and a gap over 1 ms discard the frame with their statistic (saturating) and C9B; an address character starts
afresh without a count; any other data character is appended while the frame is not complete, that is until the second
check character. A complete frame whose check differs from the CRC-16 over source, length and body is discarded with
the CRC count and C9B; with the right check it does what the command of its body does (UNKNOWN_KIND with that body,
which for a catalogued body is its kind, assumption log 6). While sending nothing is heard, and a gap in WAIT_ADDRESS
is nothing. -/
def Obligations.ReceiverRules : Prop :=
  ∀ (s : State) (c : LineChar) (hit : FilterHit) (soFar : List Byte),
    (s.link.sending = true → exec (.lineCharacter c) s = .next s ∧ exec .lineCharacterTimeout s = .next s)
    ∧ (s.link.sending = false → s.link.receiver = .waitAddress →
        (c.stopOk = false ∨ c.mark = false → exec (.lineCharacter c) s = .next s)
        ∧ exec .lineCharacterTimeout s = .next s)
    ∧ (s.link.sending = false → c.stopOk = true → c.mark = true →
        (∀ h, s.link.accepts c.value = some h →
          exec (.lineCharacter c) s = .next (s.setLink { s.link with receiver := .receiving h [] }))
        ∧ (s.link.accepts c.value = none →
          exec (.lineCharacter c) s = .next (s.setLink { s.link with receiver := .waitAddress })))
    ∧ (s.link.sending = false → s.link.receiver = .receiving hit soFar →
        exec .lineCharacterTimeout s = .next ((s.setLink { s.link with
          receiver := .waitAddress, timeouts := min 65535 (s.link.timeouts + 1) }).notify 9 .b)
        ∧ (c.stopOk = false ∨ c.mark = false ∧ soFar.length = 1 ∧ (c.value = 0 ∨ 248 < c.value.toNat) →
          exec (.lineCharacter c) s = .next ((s.setLink { s.link with
            receiver := .waitAddress, charErrors := min 65535 (s.link.charErrors + 1) }).notify 9 .b))
        ∧ (c.stopOk = true → c.mark = false → ¬ (soFar.length = 1 ∧ (c.value = 0 ∨ 248 < c.value.toNat)) →
          let chars := soFar ++ [c.value]
          let complete := 2 ≤ chars.length ∧ chars.length = (chars.getD 1 0).toNat + 4
          let agrees := crc16 (chars.take (chars.length - 2)) = BitVec.ofNat 16 (u16At chars (chars.length - 2))
          (¬ complete →
            exec (.lineCharacter c) s = .next (s.setLink { s.link with receiver := .receiving hit chars }))
          ∧ (complete → ¬ agrees →
            exec (.lineCharacter c) s = .next ((s.setLink { s.link with
              receiver := .waitAddress, crcErrors := min 65535 (s.link.crcErrors + 1) }).notify 9 .b))
          ∧ (complete → agrees →
            exec (.lineCharacter c) s =
              exec (.unknownKind hit ((chars.drop 2).take (chars.getD 1 0).toNat)) s)))
    ∧ (∀ v : Byte,
        (s.link.accepts v = some .unit ↔ v.toNat = s.link.straps.slot.toNat + 1)
        ∧ (s.link.accepts v = some .broadcast ↔ v = 255)
        ∧ (s.link.accepts v = some .group ↔
            v ≠ 0 ∧ v ≠ 255 ∧ v.toNat ≠ s.link.straps.slot.toNat + 1 ∧ s.link.groupEnable = true
              ∧ ∀ i, i < 8 → s.link.groupMask.getLsbD i = false → v.getLsbD i = s.link.groupCode.getLsbD i))

/-- [R1, R24, R25, R59, R125, R141, R152] POWER_ON and PIN_RESET, from every state, leave every block at its reset value
with the restart cause POWER_ON or PIN; the straps are those read, and the levels of the input pins are the pins' own
(kept: the model's choice, assumption log 2). RESTART_SHUT_OFF, once a RESTART is due and no reply is outstanding,
leaves HOLD with restart cause COMMAND, the failure recorder as it was, the kept credit fields and every socket's
credit and stamp; VACANT, RETIRED and COMPLETED sockets keep their state and every other socket is OFF, with cause,
retry and trip counts kept, every switch open and the other fields at reset; the supervisor's run copy and every noted
count are 0; the exerciser is IDLE with an empty hold set, its marks clear, stall count 0, no position, its run copies
and policies at reset and nothing waiting, and of the compare records mismatch totals and fail counts alone are kept.
The queue and the free-value counter are the model's own and stay. Identity, recipe, rails, zones, store, classes and
captures are at reset, and so is the link but for the straps read. Without a RESTART due, or while its reply is
outstanding, nothing changes (assumption log 7). -/
def Obligations.ResetsClearAndRestartKeeps : Prop :=
  ∀ (straps : Straps) (s : State),
    exec (.powerOn straps) s = .next { State.reset with
      slot := { SlotRec.atReset with
        restartCause := .powerOn, seatA := s.slot.seatA, seatB := s.slot.seatB, chainOpen := s.slot.chainOpen }
      link := { Link.atReset with straps := straps }
      freeCount := s.freeCount, pending := s.pending }
    ∧ exec (.pinReset straps) s = .next { State.reset with
      slot := { SlotRec.atReset with
        restartCause := .pin, seatA := s.slot.seatA, seatB := s.slot.seatB, chainOpen := s.slot.chainOpen }
      link := { Link.atReset with straps := straps }
      freeCount := s.freeCount, pending := s.pending }
    ∧ (s.link.restartDue = true → s.link.inHand = none →
      ∃ t, exec (.restartShutOff straps) s = .next t
        ∧ t.slot = { SlotRec.atReset with
            restartCause := .command, seatA := s.slot.seatA, seatB := s.slot.seatB, chainOpen := s.slot.chainOpen }
        ∧ t.fail = s.fail ∧ t.freeCount = s.freeCount ∧ t.pending = s.pending
        ∧ t.credit.prevRun = s.credit.prevRun ∧ t.credit.serial = s.credit.serial
        ∧ t.credit.target = s.credit.target ∧ t.credit.runLimit = s.credit.runLimit
        ∧ t.credit.accumulated = s.credit.accumulated ∧ t.credit.currentRun = 0 ∧ t.credit.timer = none
        ∧ (∀ k, t.credit.accounts.get k = { s.credit.accounts.get k with notedOff := 0 })
        ∧ (∀ r, t.credit.notedExcursions.get r = 0) ∧ (∀ z, t.credit.notedBreaches.get z = 0)
        ∧ t.credit.notedStalls = 0
        ∧ (∀ k, t.sock.sockets.get k = { SocketRec.atReset with
            state := if (s.sock.sockets.get k).state = .vacant ∨ (s.sock.sockets.get k).state = .retired
                ∨ (s.sock.sockets.get k).state = .completed then (s.sock.sockets.get k).state else .off
            cause := (s.sock.sockets.get k).cause, retries := (s.sock.sockets.get k).retries
            softTrips := (s.sock.sockets.get k).softTrips, hardTrips := (s.sock.sockets.get k).hardTrips })
        ∧ (∀ r, t.sock.softLimits.get r = 0 ∧ t.sock.hardLimits.get r = 0)
        ∧ t.sock.retryLimit = 0 ∧ t.sock.cooldownTime = 0
        ∧ (∀ c, t.exer.channels.get c =
            { mode := .vector, park := .released, fixedHigh := false, period := 0, high := 0, dead := 0 }
          ∧ t.exer.clockAge.get c = 0)
        ∧ t.exer = {
            state := .idle, holdBudget := false, holdPause := false, holdRequested := false, stopRequested := false
            stalls := 0, position := none, timing := { period := 0, offset := 0 }, channels := t.exer.channels
            dynamic := false, underrun := .park, policy := .keep, threshold := 0
            boundary := { timing := none, channels := Bank.replicate 16 none, play := none }
            staged := { timing := none, channels := Bank.replicate 16 none, play := none }
            compare := t.exer.compare, vecPeriod := 0, vecOffset := 0
            vector := { drive := 0, expect := .dontCare }, strobeDue := false, clockAge := t.exer.clockAge }
        ∧ (∀ k, t.exer.compare.get k = { CompareRec.atReset with
            mismatchTotal := (s.exer.compare.get k).mismatchTotal
            functionalFails := (s.exer.compare.get k).functionalFails })
        ∧ t.exer.state = .idle ∧ t.ident = IdentRec.atReset ∧ t.recipe = Recipe.atReset ∧ t.rail = RailCtl.atReset
        ∧ t.therm = Thermal.atReset ∧ t.store = Store.atReset ∧ t.notice = Notices.atReset
        ∧ t.link = { Link.atReset with straps := straps })
    ∧ (s.link.restartDue = false ∨ s.link.inHand.isSome = true → exec (.restartShutOff straps) s = .next s)

/-- [R4, R5, R6, R7, R26] In HOLD a contact change records the pins alone. Without the seated mark, both contacts made run
the 100 ms make timer (a running one runs on) and an open one stops it; with the mark, an open contact runs the 10 ms
open timer and both made stop it. The make expiry sets the mark; in EMPTY the slot also enters IDENTIFYING: record and
temperatures dropped, attempt 1 begun, C0A. The open expiry clears mark, record and temperatures, raises C8B, and
moves IDENTIFYING (its read ended), UNIDENTIFIED and READY to EMPTY with C0A, the make timer running if both contacts
stand made; in ARMING, RUNNING and DRAINING it is the entry to SAFE; else the state stays. Nothing else changes, and
an expiry without its timer running changes nothing (the model's choice, assumption log 4). That an unseat entering
SAFE raises C8B once, within the entry, is the model's reading (assumption log 28). -/
def Obligations.SeatDebounce : Prop :=
  ∀ (s : State) (a b : Bool),
    let cold : Thermal := { s.therm with zones := s.therm.zones.map fun z => { z with temperature := none } }
    let lost : SlotRec := { s.slot with
      seated := false, openTimer := none
      makeTimer := if s.slot.seatA = true ∧ s.slot.seatB = true then s.slot.makeTimer.or (some 100) else none }
    (s.slot.state = .hold →
      exec (.seatContactChange a b) s = .next (s.setSlot { s.slot with seatA := a, seatB := b }))
    ∧ (s.slot.state ≠ .hold → s.slot.seated = false →
      exec (.seatContactChange a b) s = .next (s.setSlot { s.slot with
        seatA := a, seatB := b
        makeTimer := if a = true ∧ b = true then s.slot.makeTimer.or (some 100) else none }))
    ∧ (s.slot.state ≠ .hold → s.slot.seated = true →
      exec (.seatContactChange a b) s = .next (s.setSlot { s.slot with
        seatA := a, seatB := b
        openTimer := if a = true ∧ b = true then none else s.slot.openTimer.or (some 10) }))
    ∧ (s.slot.makeTimer = none → exec .seatMakeTimerExpiry s = .next s)
    ∧ (s.slot.makeTimer.isSome = true → s.slot.state ≠ .empty →
      exec .seatMakeTimerExpiry s = .next (s.setSlot { s.slot with seated := true, makeTimer := none }))
    ∧ (s.slot.makeTimer.isSome = true → s.slot.state = .empty →
      exec .seatMakeTimerExpiry s = .next
        ((((s.setSlot { s.slot with seated := true, makeTimer := none, state := .identifying }).setTherm cold).setIdent
          { record := none, attempts := 1, attemptTimer := some 40, waitTimer := none }).setNotice
          (s.notice.countRaise 0)))
    ∧ (s.slot.openTimer = none → exec .seatOpenTimerExpiry s = .next s)
    ∧ (s.slot.openTimer.isSome = true →
      (s.slot.state = .arming ∨ s.slot.state = .running ∨ s.slot.state = .draining →
        exec .seatOpenTimerExpiry s = .next
          ((((s.setSlot lost).setIdent { s.ident with record := none }).setTherm cold).enterSafe .unseat .unseat 8 .b))
      ∧ (s.slot.state = .hold ∨ s.slot.state = .empty ∨ s.slot.state = .safe →
        exec .seatOpenTimerExpiry s = .next
          ((((s.setSlot lost).setIdent { s.ident with record := none }).setTherm cold).setNotice
            (s.notice.countRaise 8)))
      ∧ (s.slot.state = .unidentified ∨ s.slot.state = .ready →
        exec .seatOpenTimerExpiry s = .next
          ((((s.setSlot { lost with state := .empty }).setIdent { s.ident with record := none }).setTherm cold).setNotice
            ((s.notice.countRaise 8).countRaise 0)))
      ∧ (s.slot.state = .identifying →
        exec .seatOpenTimerExpiry s = .next
          ((((s.setSlot { lost with state := .empty }).setIdent
            { s.ident with record := none, attemptTimer := none, waitTimer := none }).setTherm cold).setNotice
            ((s.notice.countRaise 8).countRaise 0))))

/-- [R7, R27, R28] While an attempt is under way in IDENTIFYING the local bus carries one read: device 0x50, start offset
0, 302 bytes; otherwise it carries nothing. 302 bytes that pass every check of R28 are stored as the record and the
slot enters READY (C0A). A missing acknowledgement, other bytes and the 40 ms timeout are failures: after attempt 1 or
2 a 10 ms wait runs; after the third the slot enters UNIDENTIFIED (C0A) with the record as it was. At the wait's end
the count moves up by one and the next attempt begins. With no attempt or wait under way the event changes nothing
(the model's choice, assumption log 4). -/
def Obligations.IdentityAttempts : Prop :=
  ∀ (s : State) (read : BusRead) (image : List Byte) (h : image.length = 302),
    let failed : State :=
      if s.ident.attempts < 3 then s.setIdent { s.ident with attemptTimer := none, waitTimer := some 10 }
      else ((s.setIdent { s.ident with attemptTimer := none }).setSlot { s.slot with state := .unidentified }).setNotice
        (s.notice.countRaise 0)
    (s.slot.state = .identifying → s.ident.attemptTimer.isSome = true →
      (ImageOk image →
        exec (.identityAttemptEnd (.bytes image)) s = .next
          (((s.setIdent { s.ident with record := some { image := ⟨image, h⟩ }, attemptTimer := none }).setSlot
            { s.slot with state := .ready }).setNotice (s.notice.countRaise 0)))
      ∧ (¬ ImageOk image → exec (.identityAttemptEnd (.bytes image)) s = .next failed)
      ∧ (∀ bytes : List Byte, bytes.length ≠ 302 → exec (.identityAttemptEnd (.bytes bytes)) s = .next failed)
      ∧ exec (.identityAttemptEnd .noAcknowledge) s = .next failed
      ∧ exec .identityAttemptTimeout s = .next failed)
    ∧ (s.slot.state = .identifying → s.ident.waitTimer.isSome = true →
      exec .identityRetryWaitExpiry s = .next (s.setIdent { s.ident with
        attempts := s.ident.attempts + 1, waitTimer := none, attemptTimer := some 40 }))
    ∧ (s.slot.state ≠ .identifying →
      exec (.identityAttemptEnd read) s = .next s ∧ exec .identityAttemptTimeout s = .next s
        ∧ exec .identityRetryWaitExpiry s = .next s)
    ∧ s.localBus = (if s.slot.state = .identifying ∧ s.ident.attemptTimer.isSome = true then
        some { device := 0x50, offset := 0, length := 302 } else none)

/-- [R9, R13, R18, R22] The chain opening and, in SAFE mode, link silence take ARMING, RUNNING and DRAINING to SAFE by the
entry of R19 with their cause, kind and notice; in other states (and for silence in NOTIFY mode) they raise C8A or C9A
and the slot state stays. The chain making records the pin alone (the model's choice, assumption log 3). The arm
expiry takes ARMING to DRAINING with ARM_TIMEOUT. The drain expiry takes DRAINING to READY with a seated, identified
board and to EMPTY otherwise, with C0A. An expiry whose timer does not run changes nothing (assumption log 4). That
link silence entering SAFE raises C9A once, within the entry, is the model's reading (assumption log 28). -/
def Obligations.ChainSilenceAndSlotTimers : Prop :=
  ∀ s : State,
    (s.slot.state = .arming ∨ s.slot.state = .running ∨ s.slot.state = .draining →
      exec (.safetyChainOpen .opened) s =
          .next ((s.setSlot { s.slot with chainOpen := true }).enterSafe .safetyChain .safetyChain 8 .a)
      ∧ (s.link.silenceTimer.isSome = true → s.link.silenceMode = .safe →
        exec .linkSilenceExpiry s =
          .next ((s.setLink { s.link with silenceTimer := none }).enterSafe .linkSilence .linkSilence 9 .a)))
    ∧ (s.slot.state ≠ .arming → s.slot.state ≠ .running → s.slot.state ≠ .draining →
      exec (.safetyChainOpen .opened) s =
          .next ((s.setSlot { s.slot with chainOpen := true }).setNotice (s.notice.countRaise 8))
      ∧ (s.link.silenceTimer.isSome = true →
        exec .linkSilenceExpiry s =
          .next ((s.setLink { s.link with silenceTimer := none }).setNotice (s.notice.countRaise 9))))
    ∧ (s.link.silenceTimer.isSome = true → s.link.silenceMode = .notify →
      exec .linkSilenceExpiry s =
        .next ((s.setLink { s.link with silenceTimer := none }).setNotice (s.notice.countRaise 9)))
    ∧ (s.link.silenceTimer = none → exec .linkSilenceExpiry s = .next s)
    ∧ exec (.safetyChainOpen .made) s = .next (s.setSlot { s.slot with chainOpen := false })
    ∧ (s.slot.state = .arming → s.slot.armTimer.isSome = true →
      exec .armTimerExpiry s = .next (s.enterDraining .armTimeout))
    ∧ (s.slot.state ≠ .arming ∨ s.slot.armTimer = none → exec .armTimerExpiry s = .next s)
    ∧ (s.slot.state = .draining → s.slot.drainTimer.isSome = true →
      exec .drainTimerExpiry s = .next ((s.setSlot { s.slot with
        drainTimer := none
        state := if s.slot.seated = true ∧ s.ident.record.isSome = true then .ready else .empty }).setNotice
          (s.notice.countRaise 0)))
    ∧ (s.slot.state ≠ .draining ∨ s.slot.drainTimer = none → exec .drainTimerExpiry s = .next s)

/-- [R17, R52, R77, R80, R106, R128, R142] The entry leaves DRAINING with the cause, no pause, no arm timer and a 2000 ms
drain timer; the blocks quiesced (sockets off with their counts kept, switches open, zones IDLE at duty 0, exerciser
IDLE with empty windows, its waiting settings applied and its frame released, budget flags and credit timer cleared);
the start sequence abandoned; of the used rails in descending order, the first that is driven turned off and the rest
left as the drain list, stepped every 250 ms while it is not empty; C0A then C0B. Identity, recipe, failure log and
link are untouched. -/
def Obligations.DrainingEntry : Prop :=
  ∀ (s : State) (cause : EndCause),
    let t := s.enterDraining cause
    let order := s.rail.usedInOrder.reverse
    let live := order.dropWhile fun r => !(s.rail.rails.get r).state.driven
    s.Quiesced t
    ∧ t.slot = { s.slot with
        state := .draining, endCause := cause, paused := false, armTimer := none, drainTimer := some 2000 }
    ∧ (∀ r, r ∈ order ↔ (s.rail.rails.get r).used = true
        ∧ ∃ o, 1 ≤ o ∧ o ≤ 4 ∧ (s.rail.rails.get r).order = some o)
    ∧ (order.map fun r => (s.rail.rails.get r).order.getD 0).Pairwise (· ≥ ·)
    ∧ (∀ r, t.rail.rails.get r =
        if live.head? = some r then
          { s.rail.rails.get r with state := .off, regulatorOn := false, reference := 0, settleTimer := none }
        else s.rail.rails.get r)
    ∧ t.rail.startSeq = [] ∧ t.rail.seqComplete = s.rail.seqComplete ∧ t.rail.drainSeq = live.drop 1
    ∧ t.rail.drainStepTimer = (if live.drop 1 = [] then none else some 250)
    ∧ t.notice = (s.notice.countRaise 0).countRaise 0
    ∧ t.ident = s.ident ∧ t.recipe = s.recipe ∧ t.fail = s.fail ∧ t.link = s.link ∧ t.freeCount = s.freeCount
    ∧ t.pending = s.pending

/-- [R19, R2, R53, R77, R80, R128, R152] The entry to SAFE leaves SAFE with the cause, no pause and no arm or drain timer;
the blocks quiesced as at DRAINING; every RAMPING or REGULATED rail OFF with its regulator disabled, the other rails
as they were; start and drain sequences and step timer cleared, the sequence-complete mark kept; the failure recorder
given an equipment entry of the kind with no socket, unit or detail 0; then C0A, the cause's notice and C0B. Identity,
recipe and link are untouched. The order of log entry, C0A, the cause's notice and C0B is the model's reading
(assumption log 28). -/
def Obligations.SafeEntry : Prop :=
  ∀ (s : State) (cause : EndCause) (kind : FailureKind) (cls : Fin 12) (src : Source),
    let t := s.enterSafe cause kind cls src
    s.Quiesced t
    ∧ t.slot = { s.slot with
        state := .safe, endCause := cause, paused := false, armTimer := none, drainTimer := none }
    ∧ (∀ r, t.rail.rails.get r =
        if (s.rail.rails.get r).state = .ramping ∨ (s.rail.rails.get r).state = .regulated then
          { s.rail.rails.get r with state := .off, regulatorOn := false, reference := 0, settleTimer := none }
        else s.rail.rails.get r)
    ∧ t.rail.startSeq = [] ∧ t.rail.seqComplete = s.rail.seqComplete ∧ t.rail.drainSeq = []
    ∧ t.rail.drainStepTimer = none
    ∧ t.fail = (s.logFailure kind none none 0).fail
    ∧ t.notice = (((s.logFailure kind none none 0).notice.countRaise 0).countRaise cls).countRaise 0
    ∧ t.ident = s.ident ∧ t.recipe = s.recipe ∧ t.link = s.link ∧ t.freeCount = s.freeCount
    ∧ t.pending = s.pending

/-- [R153, R154, R152] A failure handed to the recorder moves the next sequence number up by one (wrapping). With fewer
than 64 entries it is appended with that number, the accumulated RUN seconds and its detail, raising C10A exactly at
the rise from 47 to 48; with 64 it is dropped, the dropped count rises (saturating at 65535) and C10B is raised. For a
socket kind the last failure becomes its kind and stamp, and the first one too when absent; other sockets' marks and
everything else stay. -/
def Obligations.FailureTaken : Prop :=
  ∀ (s : State) (kind : FailureKind) (socket : Option (Fin 48)) (unit : Option Nat) (detail : Word16),
    let t := s.logFailure kind socket unit detail
    let mark : FailureMark := { kind := kind, stamp := s.credit.accumulated }
    t.fail.nextSeq = s.fail.nextSeq + 1
    ∧ (s.fail.log.length < 64 →
        t.fail.log = s.fail.log ++ [{ seq := s.fail.nextSeq, kind := kind, socket := socket, unit := unit,
                                      stamp := s.credit.accumulated, detail := detail }]
        ∧ t.fail.dropped = s.fail.dropped
        ∧ t.notice = (if s.fail.log.length = 47 then s.notice.countRaise 10 else s.notice))
    ∧ (64 ≤ s.fail.log.length →
        t.fail.log = s.fail.log ∧ t.fail.dropped = min 65535 (s.fail.dropped + 1)
        ∧ t.notice = s.notice.countRaise 10)
    ∧ (∀ k, t.fail.marks.get k =
        if socket = some k then { first := (s.fail.marks.get k).first.or (some mark), last := some mark }
        else s.fail.marks.get k)
    ∧ t = (s.setFail t.fail).setNotice t.notice

/-- [R47, R50, R51, R52] In DRAINING with the step timer running, a step passes over the rails at the head of the list
that are not driven, turns off the first driven one, and leaves the rest with 250 ms, or no timer when none is left;
with no driven rail left the list ends. Elsewhere the step changes nothing (assumption log 4). A settle expiry of a
RAMPING rail faults it with its latest voltage; of another rail it stops the timer; without the timer running it
changes nothing. A faulted rail has its regulator off, timer stopped and in-window mark clear, RAIL_FAULT logged with
the rail and voltage and C4B raised, and in ARMING and RUNNING the slot enters DRAINING with RAIL_FAULT. -/
def Obligations.DrainStepAndSettle : Prop :=
  ∀ (s : State) (r : Fin 4) (passed rest : List (Fin 4)) (mv : Nat),
    (s.slot.state = .draining → s.rail.drainStepTimer.isSome = true →
      (∀ x ∈ passed, (s.rail.rails.get x).state.driven = false) →
      (s.rail.drainSeq = passed →
        exec .railDrainStep s = .next (s.setRail { s.rail with drainSeq := [], drainStepTimer := none }))
      ∧ (s.rail.drainSeq = passed ++ r :: rest → (s.rail.rails.get r).state.driven = true →
        exec .railDrainStep s = .next (s.setRail { s.rail with
          rails := s.rail.rails.set r
            { s.rail.rails.get r with state := .off, regulatorOn := false, reference := 0, settleTimer := none }
          drainSeq := rest
          drainStepTimer := if rest = [] then none else some 250 })))
    ∧ (s.slot.state ≠ .draining ∨ s.rail.drainStepTimer = none → exec .railDrainStep s = .next s)
    ∧ ((s.rail.rails.get r).settleTimer = none → exec (.settleTimerExpiry r) s = .next s)
    ∧ ((s.rail.rails.get r).settleTimer.isSome = true →
      ((s.rail.rails.get r).state = .ramping →
        exec (.settleTimerExpiry r) s = .next (s.railFault r (s.rail.rails.get r).sampleV))
      ∧ ((s.rail.rails.get r).state ≠ .ramping →
        exec (.settleTimerExpiry r) s = .next (s.setRail { s.rail with
          rails := s.rail.rails.set r { s.rail.rails.get r with settleTimer := none } })))
    ∧ (let u := ((s.setRail { s.rail with
          rails := s.rail.rails.set r { s.rail.rails.get r with
            state := .faulted, regulatorOn := false, reference := 0, settleTimer := none,
            inWindow := false } }).logFailure .railFault none (some r.val) (BitVec.ofNat 16 mv)).notifyRail .b r
      s.railFault r mv =
        if s.slot.state = .arming ∨ s.slot.state = .running then u.enterDraining .railFault else u)

/-- [R45, R46, R49, R50] A sample records for every rail that is not OFF its voltage and current (each cut to its top) and
the history's newest entry; then those rails are judged one by one in ascending order, each by its state at its turn
(assumption log 9). A judgement of rail r: OFF or FAULTED nothing more. RAMPING or REGULATED: the in-window mark is |V
- setpoint| <= window. REGULATED in its quiet interval: nothing more; else inside clears the out-of-window run, and
outside moves it up, counts an excursion with C4A when the run stood at 0 (assumption log 13), and at 50 faults the
rail with that voltage. RAMPING inside makes it REGULATED with its timer stopped; in ARMING the rail after it in the
start sequence is started, or after the last the sequence is complete and the sockets are switched on, and the arming
test follows. With every rail OFF nothing changes. -/
def Obligations.RailSampleJudged : Prop :=
  ∀ (s u : State) (readings : Bank RailReading 4) (r : Fin 4) (before after : List (Fin 4)),
    let on := fun q => (s.rail.rails.get q).state ≠ .off
    let sampled := fun q : Fin 4 =>
      let x := s.rail.rails.get q
      let mv := min 16000 (readings.get q).mv
      if on q then
        { x with sampleV := mv, sampleI := min 40000 (readings.get q).ma, history := x.history.push mv }
      else x
    let measured := s.setRail { s.rail with rails := Bank.ofFn sampled }
    let x := u.rail.rails.get r
    let inside := ((x.sampleV : Int) - x.setpoint).natAbs ≤ x.window
    let now := fun z : RailRec => u.setRail { u.rail with rails := u.rail.rails.set r z }
    let up := now { x with inWindow := true, state := .regulated, settleTimer := none, outRun := 0 }
    let out := now { x with
      inWindow := false, outRun := x.outRun + 1, excursions := x.excursions + (if x.outRun = 0 then 1 else 0) }
    let told := if x.outRun = 0 then out.notifyRail .a r else out
    exec (.railSample readings) s =
      .next (([0, 1, 2, 3] : List (Fin 4)).foldl (fun v q => if on q then v.judgeRail q else v) measured)
    ∧ ((∀ q, ¬ on q) → exec (.railSample readings) s = .next s)
    ∧ (x.state = .off ∨ x.state = .faulted → u.judgeRail r = u)
    ∧ (x.state = .regulated → x.settleTimer.isSome = true → u.judgeRail r = now { x with inWindow := decide inside })
    ∧ (x.state = .regulated → x.settleTimer = none →
      (inside → u.judgeRail r = now { x with inWindow := true, outRun := 0 })
      ∧ (¬ inside → x.outRun + 1 ≠ 50 → u.judgeRail r = told)
      ∧ (¬ inside → x.outRun + 1 = 50 → u.judgeRail r = told.railFault r x.sampleV))
    ∧ (x.state = .ramping →
      (¬ inside → u.judgeRail r = now { x with inWindow := false })
      ∧ (inside → u.slot.state ≠ .arming → u.judgeRail r = up)
      ∧ (inside → u.slot.state = .arming → r ∉ before →
        (∀ n, u.rail.startSeq = before ++ r :: n :: after →
          u.judgeRail r = (up.modRail n RailRec.startUp).armingTest)
        ∧ (u.rail.startSeq = before ++ [r] →
          u.judgeRail r = (up.setRail { up.rail with seqComplete := true }).switchOn.armingTest)))

/-- [R12, R127, R142, R16] The test changes nothing outside ARMING, or unless every used rail is REGULATED, the sequence
is complete, every zone is REGULATING and in window, and GO was given or auto-go is yes. When it passes: the arm timer
stops, the slot enters RUNNING with C0A, a dynamic exerciser takes the first READY frame or starves, due ISOLATED
sockets whose zone is REGULATING are retried, the credit unit notes every count and starts its 1 s timer; a run with
every socket final then ends at once with COMPLETE. -/
def Obligations.ArmingAndEntryToRunning : Prop :=
  ∀ s : State,
    let ready := s.slot.state = .arming
      ∧ (∀ r, (s.rail.rails.get r).used = true → (s.rail.rails.get r).state = .regulated)
      ∧ s.rail.seqComplete = true
      ∧ (∀ z, (s.therm.zones.get z).state = .regulating ∧ (s.therm.zones.get z).inWindow = true)
      ∧ (s.slot.goGiven = true ∨ ∃ g, s.recipe.general = some g ∧ g.autoGo = true)
    let final := ∀ k, (s.sock.sockets.get k).state = .vacant ∨ (s.sock.sockets.get k).state = .retired
      ∨ (s.sock.sockets.get k).state = .completed
    let begun := (s.setSlot { s.slot with armTimer := none, state := .running }).setNotice (s.notice.countRaise 0)
    let played := if s.exer.dynamic = true then begun.takeFirstReady else begun
    (¬ ready → s.armingTest = s)
    ∧ (ready → ∃ u : State,
        s.armingTest = (if final then u.enterDraining .complete else u)
        ∧ u.slot = begun.slot ∧ u.exer = played.exer ∧ u.store = played.store ∧ u.notice = played.notice
        ∧ (∀ k, u.sock.sockets.get k =
            if (s.sock.sockets.get k).state = .isolated ∧ (s.sock.sockets.get k).retryDue = true
              ∧ s.zoneRegulating k = true then
              { s.sock.sockets.get k with
                state := .active, faultCounter := 64, retries := (s.sock.sockets.get k).retries + 1,
                retryDue := false, switchClosed := true, blanking := some 20 }
            else s.sock.sockets.get k)
        ∧ u.credit = { s.credit with
            timer := some 1
            notedExcursions := s.rail.rails.map RailRec.excursions
            notedBreaches := s.therm.zones.map ZoneRec.breaches
            notedStalls := u.exer.stalls
            accounts := u.credit.accounts }
        ∧ (∀ k, u.credit.accounts.get k =
            { s.credit.accounts.get k with notedOff := (s.sock.sockets.get k).offCount })
        ∧ u.rail = s.rail ∧ u.therm = s.therm ∧ u.ident = s.ident ∧ u.recipe = s.recipe ∧ u.fail = s.fail
        ∧ u.link = s.link ∧ u.pending = s.pending)

/-- [R61, R62, R63, R64, R65, R66] Every sample becomes the latest one and the history's newest entry, cut to 4000 mA. A
socket not ACTIVE or WARNED, or in blanking, changes in nothing else. Judged against its rail's limits: at or above
the hard limit the counter is 255, the hard trip count rises (saturating), OVERCURRENT_HARD is logged with the sample,
C1B is raised and the socket is isolated. Below it the counter gains 8 above the soft limit (at most 255) and else
loses 1 (at least 0): an ACTIVE socket at 96 or above becomes WARNED with C1A, a WARNED one at 0 becomes ACTIVE, one
at 128 or above trips softly (count, OVERCURRENT_SOFT, C1B, isolation), and otherwise the state stays. -/
def Obligations.SocketSampleJudged : Prop :=
  ∀ (s : State) (k : Fin 48) (ma : Nat) (w : Wire),
    let r := s.sock.sockets.get k
    let v := min 4000 ma
    let y : SocketRec := { r with sample := v, history := r.history.push v }
    let now := fun z : SocketRec => s.setSock { s.sock with sockets := s.sock.sockets.set k z }
    let judged := (r.state = .active ∨ r.state = .warned) ∧ r.blanking = none
    let c := if s.sock.softLimits.get w.rail < v then min 255 (r.faultCounter + 8) else r.faultCounter - 1
    (¬ judged → exec (.socketSample k ma) s = .next (now y))
    ∧ (judged → s.wire k = some w →
      (s.sock.hardLimits.get w.rail ≤ v →
        exec (.socketSample k ma) s = .next ((((now { y with
          faultCounter := 255, hardTrips := min 255 (r.hardTrips + 1) }).logFailure .overcurrentHard (some k) none
            (BitVec.ofNat 16 v)).notifySocket .b k).isolate k))
      ∧ (v < s.sock.hardLimits.get w.rail →
        (r.state = .active → c < 96 → exec (.socketSample k ma) s = .next (now { y with faultCounter := c }))
        ∧ (r.state = .active → 96 ≤ c → c < 128 →
          exec (.socketSample k ma) s = .next ((now { y with faultCounter := c, state := .warned }).notifySocket .a k))
        ∧ (r.state = .warned → c = 0 →
          exec (.socketSample k ma) s = .next (now { y with faultCounter := 0, state := .active }))
        ∧ (r.state = .warned → 0 < c → c < 128 →
          exec (.socketSample k ma) s = .next (now { y with faultCounter := c }))
        ∧ (r.state = .warned → 128 ≤ c →
          exec (.socketSample k ma) s = .next ((((now { y with
            faultCounter := c, softTrips := min 255 (r.softTrips + 1) }).logFailure .overcurrentSoft (some k) none
              (BitVec.ofNat 16 v)).notifySocket .b k).isolate k))))

/-- [R67, R68, R69, R71, R74, R76, R137, R16, R57] A socket leaving ACTIVE or WARNED has its switch opened, blanking
cancelled, off count moved up and compare window emptied. Isolation with the retry count at the limit retires the
socket with cause ELECTRICAL; else it becomes ISOLATED with the cooldown running. Retirement, whatever its cause,
leaves RETIRED with the cause and no prior state, cooldown or retry-due mark, logs RETIRED with the cause's code,
raises C2A, and in ARMING and RUNNING with every socket final enters DRAINING with COMPLETE. RETIRE_SOCKET retires an
OFF, ACTIVE, WARNED, HELD_OFF or ISOLATED target with cause OPERATOR; other targets get BAD_VALUE, other slot states
WRONG_STATE. A blanking expiry stops the blanking timer alone. A cooldown expiry of an ISOLATED socket stops the
timer; with the slot RUNNING and the socket's zone REGULATING it retries: ACTIVE, counter 64, retry count up by one,
mark clear, switch closed with 20 ms blanking; else the retry-due mark is set. Without the cooldown running nothing
changes (assumption log 4). No other record and nothing else changes. -/
def Obligations.IsolationRetirementAndRetry : Prop :=
  (∀ (s : State) (k : Fin 48) (cause : RetireCause) (q : Request) (t : Byte),
      let r := s.sock.sockets.get k
      let on := r.state = .active ∨ r.state = .warned
      let gone : SocketRec :=
        if on then { r with switchClosed := false, blanking := none, offCount := r.offCount + 1 } else r
      let emptied : CompareRec := { s.exer.compare.get k with windowCount := 0, firstMismatch := none }
      let left := fun z : SocketRec =>
        (s.setSock { s.sock with sockets := s.sock.sockets.set k z }).setExer
          (if on then { s.exer with compare := s.exer.compare.set k emptied } else s.exer)
      let u := (left { gone with
          state := .retired, cause := some cause, prior := none, cooldown := none, retryDue := false }).logFailure
        .retired (some k) none (match cause with | .electrical => 1 | .functional => 2 | .operator => 3)
      let told := u.setNotice (u.notice.countRaise 2)
      let inRun := s.slot.state = .arming ∨ s.slot.state = .running
      (r.retries = s.sock.retryLimit → s.isolate k = s.retire k .electrical)
      ∧ (r.retries ≠ s.sock.retryLimit →
        s.isolate k = left { gone with state := .isolated, cooldown := some s.sock.cooldownTime, retryDue := false })
      ∧ (s.retire k cause =
          if inRun ∧ ∀ j, (told.sock.sockets.get j).state = .vacant ∨ (told.sock.sockets.get j).state = .retired
              ∨ (told.sock.sockets.get j).state = .completed
          then told.enterDraining .complete else told)
      ∧ (s.Takes .retireSocket q → lastTarget q.quals = some t →
        (¬ inRun → exec (.retireSocket q) s = .next (s.heard.answering .retireSocket q .wrongState [0]))
        ∧ (inRun → 47 < t.toNat → exec (.retireSocket q) s = .next (s.heard.answering .retireSocket q .badValue [0]))
        ∧ (inRun → t.toNat = k.val →
          (r.state = .vacant ∨ r.state = .retired ∨ r.state = .completed →
            exec (.retireSocket q) s = .next (s.heard.answering .retireSocket q .badValue [0]))
          ∧ (r.state = .off ∨ on ∨ r.state = .heldOff ∨ r.state = .isolated →
            exec (.retireSocket q) s = .next ((s.heard.retire k .operator).answering .retireSocket q .ok [])))))
  ∧ ∀ (s : State) (k : Fin 48),
      let r := s.sock.sockets.get k
      let now := fun z : SocketRec => s.setSock { s.sock with sockets := s.sock.sockets.set k z }
      exec (.blankingExpiry k) s = .next (now { r with blanking := none })
      ∧ (r.cooldown = none → exec (.cooldownExpiry k) s = .next s)
      ∧ (r.cooldown.isSome = true → r.state = .isolated →
        (s.slot.state = .running → s.zoneRegulating k = true →
          exec (.cooldownExpiry k) s = .next (now { r with
            cooldown := none, state := .active, faultCounter := 64, retries := r.retries + 1, retryDue := false,
            switchClosed := true, blanking := some 20 }))
        ∧ (s.slot.state ≠ .running ∨ s.zoneRegulating k = false →
          exec (.cooldownExpiry k) s = .next (now { r with cooldown := none, retryDue := true })))

/-- [R48, R72, R73, R70, R86, R89] A trip or sensor failure shuts the zone's heater, logs ZONE_TRIP with T or SENSOR_FAIL
with the held temperature (0 when absent), raises C5A or C5B, and from REGULATING holds off the zone's sockets:
exactly the ACTIVE and WARNED ones become HELD_OFF with that prior state, their switch open, blanking off, off count
moved, compare window empty. A return in ARMING or RUNNING gives HELD_OFF sockets their prior state, switch closed, 20
ms blanking, and in RUNNING retries the due ISOLATED ones. The switch-on makes exactly the OFF sockets ACTIVE with
switch and blanking, or HELD_OFF (prior ACTIVE) where the zone is TRIPPED or SENSOR_FAILED. Nothing else changes. -/
def Obligations.ZoneFaultsMoveSockets : Prop :=
  ∀ (s : State) (z : Fin 6) (temp : Int),
    let x := s.therm.zones.get z
    let shut := fun st : ZoneState => s.setTherm { s.therm with
      zones := s.therm.zones.set z { x with
        state := st, integrator := 0, u := 0, granted := 0, limited := false, inWindow := false, appliedDuty := 0 } }
    let tripped := ((shut .tripped).logFailure .zoneTrip none (some z.val) (BitVec.ofInt 16 temp)).notifyZone .a z
    let failed := ((shut .sensorFailed).logFailure .sensorFail none (some z.val)
      (BitVec.ofInt 16 (x.temperature.getD 0))).notifyZone .b z
    let held := s.holdOff z
    let freed := s.releaseZone z
    let on := s.switchOn
    (s.zoneTrips z temp = if x.state = .regulating then tripped.holdOff z else tripped)
    ∧ (s.sensorFails z = if x.state = .regulating then failed.holdOff z else failed)
    ∧ held = (s.setSock { s.sock with sockets := held.sock.sockets }).setExer
        { s.exer with compare := held.exer.compare }
    ∧ freed = s.setSock { s.sock with sockets := freed.sock.sockets }
    ∧ on = s.setSock { s.sock with sockets := on.sock.sockets }
    ∧ (s.slot.state ≠ .arming → s.slot.state ≠ .running → freed = s)
    ∧ ∀ k,
        let r := s.sock.sockets.get k
        let closed : SocketRec := { r with switchClosed := true, blanking := some 20 }
        let hit := s.inZone k z = true ∧ (r.state = .active ∨ r.state = .warned)
        held.sock.sockets.get k = (if hit then
            { r with
              state := .heldOff, prior := some (if r.state = .active then .active else .warned)
              switchClosed := false, blanking := none, offCount := r.offCount + 1 }
          else r)
        ∧ held.exer.compare.get k = (if hit then
            { s.exer.compare.get k with windowCount := 0, firstMismatch := none } else s.exer.compare.get k)
        ∧ (s.slot.state = .arming ∨ s.slot.state = .running →
          (s.inZone k z = true → r.state = .heldOff → r.prior = some .active →
            freed.sock.sockets.get k = { closed with state := .active, prior := none })
          ∧ (s.inZone k z = true → r.state = .heldOff → r.prior = some .warned →
            freed.sock.sockets.get k = { closed with state := .warned, prior := none })
          ∧ (s.inZone k z = true → r.state = .isolated → r.retryDue = true → s.slot.state = .running →
            freed.sock.sockets.get k = { closed with
              state := .active, faultCounter := 64, retries := r.retries + 1, retryDue := false })
          ∧ (s.inZone k z = false ∨ (r.state ≠ .heldOff
              ∧ ¬ (r.state = .isolated ∧ r.retryDue = true ∧ s.slot.state = .running)) →
            freed.sock.sockets.get k = r))
        ∧ (r.state = .off → s.zoneAtFault k = true →
          on.sock.sockets.get k = { r with state := .heldOff, prior := some .active })
        ∧ (r.state = .off → s.zoneAtFault k = false → on.sock.sockets.get k = { closed with state := .active })
        ∧ (r.state ≠ .off → on.sock.sockets.get k = r)

/-- [R81, R82, R84, R88, R95, R100, R12] A pass start captures every zone's state and run copy, the budget, and from a
present identity each zone's table, absolute limit and rating, replacing a capture in flight (assumption log 24), and
changes nothing else. A completion takes every zone in ascending order through its reading (and, not IDLE in the
capture and now, its classification), then the controllers in ascending order, then with any computing zone one budget
stage of grants and hold, then the arming test. A converting zone's turn moves only code, invalid-reading run
(saturating at 3, cleared by a valid code), temperature (interpolated from a valid code when the identity was captured
and is present, else kept) and history, with u and the grant 0; so does a completion with every zone converting,
before its arming test. With no pass in flight a completion changes nothing (assumption logs 4 and 24). A PWM frame
start makes each applied duty the granted duty and changes nothing else. -/
def Obligations.PassCaptureConversionAndPwm : Prop :=
  ∀ (s u : State) (codes : Bank Nat 6) (cap : PassCapture) (zone : Fin 6),
    let comp := fun z => decide ((cap.zones.get z).state ≠ .idle ∧ (s.therm.zones.get z).state ≠ .idle)
    let order : List (Fin 6) := [0, 1, 2, 3, 4, 5]
    let read := order.foldl (fun v z => v.zoneStep cap (codes.get z) (comp z) z) (s.setTherm { s.therm with pass := none })
    let controlled := order.foldl (fun v z => v.controlStep cap (comp z) z) read
    let measured := fun (v : State) (z : Fin 6) =>
      let x := v.therm.zones.get z
      let bad := codes.get z < 16 ∨ 4079 < codes.get z
      let temp := match cap.board with
        | some b => if bad ∨ v.ident.record = none then x.temperature
            else some (interpolate (b.get z).table (codes.get z))
        | none => x.temperature
      { x with
        code := codes.get z, invalidRun := if bad then min 3 (x.invalidRun + 1) else 0, temperature := temp
        history := x.history.push temp, u := 0, granted := 0 }
    (∃ p : PassCapture, exec .controlPassStart s = .next (s.setTherm { s.therm with pass := some p })
      ∧ p.budget = s.therm.slotBudget.budget
      ∧ (∀ z, p.zones.get z =
          { state := (s.therm.zones.get z).state, setpoint := (s.therm.zones.get z).setpoint,
            window := (s.therm.zones.get z).window, margin := (s.therm.zones.get z).margin,
            kp := (s.therm.zones.get z).kp, ki := (s.therm.zones.get z).ki })
      ∧ (s.ident.record = none → p.board = none)
      ∧ ∀ d, s.ident.record = some d → ∃ b, p.board = some b ∧ ∀ z,
          (b.get z).rated = u16At d.image.cells (24 + 38 * z.val)
          ∧ (b.get z).absLimit = s16At d.image.cells (26 + 38 * z.val)
          ∧ ∀ i, (b.get z).table.get i = s16At d.image.cells (28 + 38 * z.val + 2 * i.val))
    ∧ exec .heaterPwmFrameStart s = .next (s.setTherm { s.therm with
        zones := s.therm.zones.map fun z => { z with appliedDuty := z.granted } })
    ∧ (s.therm.pass = none → exec (.controlPassComplete codes) s = .next s)
    ∧ (s.therm.pass = some cap →
      exec (.controlPassComplete codes) s = .next
        (if ∃ z, comp z = true then (controlled.grantStage cap).holdStage cap else controlled).armingTest)
    ∧ u.zoneStep cap (codes.get zone) false zone =
        u.setTherm { u.therm with zones := u.therm.zones.set zone (measured u zone) }
    ∧ (s.therm.pass = some cap → (∀ z, comp z = false) →
      exec (.controlPassComplete codes) s = .next
        (s.setTherm { s.therm with pass := none, zones := Bank.ofFn (measured s) }).armingTest)

/-- [R102] At a completion that makes a budget stage (outside ARMING, where an entry to RUNNING that ends at once would
clear the grants), with the captured board: A is max(0, B - P_dut); with Q <= A every zone is granted its u and no
mark or flag stands; with Q > A every grant is floor(u x A / Q), a zone is limited exactly when its grant is below its
u, and the scaled flag stands. The sum of granted duty times rated power never exceeds 1000 x A, also at every other
completion from any state. -/
def Obligations.GrantSharesTheAllowance : Prop :=
  ∀ (s : State) (codes : Bank Nat 6) (cap : PassCapture) (b : Bank ZoneBoard 6),
    s.therm.pass = some cap → cap.board = some b →
    let a := cap.budget - s.pDut
    ∃ t, exec (.controlPassComplete codes) s = .next t
      ∧ ((List.finRange 6).map fun z => (t.therm.zones.get z).granted * (b.get z).rated).sum ≤ 1000 * a
      ∧ (s.slot.state ≠ .arming →
        (∃ z, (cap.zones.get z).state ≠ .idle ∧ (s.therm.zones.get z).state ≠ .idle) →
        let q := ((List.finRange 6).map fun z => ((t.therm.zones.get z).u * (b.get z).rated + 999) / 1000).sum
        t.therm.slotBudget.allowance = a ∧ t.therm.slotBudget.demand = q
        ∧ t.therm.slotBudget.scaled = decide (a < q)
        ∧ ∀ z, (t.therm.zones.get z).granted =
            (if q ≤ a then (t.therm.zones.get z).u else (t.therm.zones.get z).u * a / q)
          ∧ (t.therm.zones.get z).limited =
            decide ((t.therm.zones.get z).granted < (t.therm.zones.get z).u))

/-- [R84, R86, R87, R89, R90, R91, R92, R93, R94, R72, R73, R12] For a zone not IDLE in the capture and now, in every slot
state; in ARMING the arming test follows on what is said. Invalid code: a REGULATING or TRIPPED zone whose run reaches
3 fails (R86: SENSOR_FAILED, heater shut, SENSOR_FAIL logged, C5B, a REGULATING zone's sockets held off); below 3 it
keeps its state, out of window, with no breach, and a REGULATING one is controlled on its held temperature, or with
none gets u 0 and keeps its integrator. Valid code at T with the captured values: T >= S + M or T >= the limit trips a
REGULATING or SENSOR_FAILED zone (R89: heater shut, ZONE_TRIP logged, C5A, sockets held off); a TRIPPED zone returns
exactly at T <= S + W below the limit, a SENSOR_FAILED one when not tripped, releasing its sockets. These entries are
those that ZoneFaultsMoveSockets describes. A zone then REGULATING at a valid code is in window exactly when |T - S|
<= W, else counts a breach. The controller at the temperature T used: e is S - T cut to -2048..2047, the integrator (0
after a return) moves by Ki e within 0..64000 unless frozen by R93, and u is floor(Kp e / 64) + floor(I / 64) within
0..1000. -/
def Obligations.ComputingZoneIsJudgedAndControlled : Prop :=
  ∀ (s v : State) (codes : Bank Nat 6) (cap : PassCapture) (z : Fin 6),
    let c := cap.zones.get z
    let bad := codes.get z < 16 ∨ 4079 < codes.get z
    (let x := v.therm.zones.get z
      let turn := v.zoneStep cap (codes.get z) true z
      let put := fun (w : State) (y : ZoneRec) => w.setTherm { w.therm with zones := w.therm.zones.set z y }
      let run := if bad then min 3 (x.invalidRun + 1) else 0
      let read := fun temp : Option Int =>
        { x with code := codes.get z, invalidRun := run, temperature := temp, history := x.history.push temp }
      (bad →
        let y := read x.temperature
        (x.state = .regulating ∨ x.state = .tripped →
          (run = 3 → turn = (put v y).sensorFails z) ∧ (run < 3 → turn = put v { y with inWindow := false }))
        ∧ (x.state = .sensorFailed ∨ x.state = .idle → turn = put v y))
      ∧ (¬ bad → ∀ (b : Bank ZoneBoard 6) (temp : Int), cap.board = some b → v.ident.record.isSome = true →
        temp = interpolate (b.get z).table (codes.get z) →
        let trips := c.setpoint + c.margin ≤ temp ∨ (b.get z).absLimit ≤ temp
        let back := temp ≤ c.setpoint + c.window ∧ temp < (b.get z).absLimit
        let fits := temp ≤ c.setpoint + c.window ∧ c.setpoint ≤ temp + c.window
        let y := read (some temp)
        let judged := fun y : ZoneRec =>
          { y with inWindow := decide fits, breaches := if fits then y.breaches else y.breaches + 1 }
        let freed := (put v { y with state := .regulating, integrator := 0 }).releaseZone z
        let returned := put freed (judged (freed.therm.zones.get z))
        (x.state = .regulating → (trips → turn = (put v y).zoneTrips z temp) ∧ (¬ trips → turn = put v (judged y)))
        ∧ (x.state = .tripped → (back → turn = returned) ∧ (¬ back → turn = put v y))
        ∧ (x.state = .sensorFailed → (trips → turn = (put v y).zoneTrips z temp) ∧ (¬ trips → turn = returned))
        ∧ (x.state = .idle → turn = put v y)))
    ∧ (s.therm.pass = some cap → c.state ≠ .idle → (s.therm.zones.get z).state ≠ .idle →
      ∃ t : State, exec (.controlPassComplete codes) s = .next t.armingTest ∧ t.slot = s.slot ∧
        let x := s.therm.zones.get z
        let y := t.therm.zones.get z
        let run := if bad then min 3 (x.invalidRun + 1) else 0
        let shut := y.integrator = 0 ∧ y.u = 0 ∧ y.granted = 0 ∧ y.limited = false ∧ y.inWindow = false
          ∧ y.appliedDuty = 0 ∧ y.breaches = x.breaches
        let control := fun temp start : Int =>
          let e := max (-2048) (min 2047 (c.setpoint - temp))
          let frozen := (0 < e ∧ (x.u = 1000 ∨ x.limited = true)) ∨ (e < 0 ∧ x.u = 0)
          (frozen → (y.integrator : Int) = start)
          ∧ (¬ frozen → (y.integrator : Int) = max 0 (min 64000 (start + c.ki * e)))
          ∧ (y.u : Int) = max 0 (min 1000 (c.kp * e / 64 + (y.integrator : Int) / 64))
        y.code = codes.get z ∧ y.invalidRun = run
        ∧ (bad →
          y.temperature = x.temperature ∧ y.breaches = x.breaches
          ∧ (run < 3 → x.state ≠ .sensorFailed → y.state = x.state ∧ y.inWindow = false)
          ∧ (run < 3 → x.state = .regulating →
            (∀ temp, x.temperature = some temp → control temp x.integrator)
            ∧ (x.temperature = none → y.u = 0 ∧ y.integrator = x.integrator))
          ∧ (run < 3 → x.state = .tripped → y.u = x.u ∧ y.integrator = x.integrator)
          ∧ (run = 3 → x.state ≠ .sensorFailed → y.state = .sensorFailed ∧ shut)
          ∧ (x.state = .sensorFailed → y.state = .sensorFailed))
        ∧ (¬ bad → ∀ (b : Bank ZoneBoard 6) (temp : Int), cap.board = some b → s.ident.record.isSome = true →
          temp = interpolate (b.get z).table (codes.get z) →
          let trips := c.setpoint + c.margin ≤ temp ∨ (b.get z).absLimit ≤ temp
          let back := temp ≤ c.setpoint + c.window ∧ temp < (b.get z).absLimit
          let fits := temp ≤ c.setpoint + c.window ∧ c.setpoint ≤ temp + c.window
          y.temperature = some temp
          ∧ (x.state ≠ .tripped → trips → y.state = .tripped ∧ shut)
          ∧ (x.state = .tripped → ¬ back → y.state = .tripped ∧ y.breaches = x.breaches)
          ∧ ((x.state ≠ .tripped ∧ ¬ trips) ∨ (x.state = .tripped ∧ back) →
            y.state = .regulating ∧ (y.inWindow = true ↔ fits)
            ∧ (fits → y.breaches = x.breaches) ∧ (¬ fits → y.breaches = x.breaches + 1)
            ∧ control temp (if x.state = .regulating then x.integrator else 0))))

/-- [R85] For every code of 16 to 4079 and every table whose points lie in -640 to 4000: with k = floor(code / 256) and d
= code - 256 k, k is 0 to 15 and d 0 to 255, and the temperature is t[k] plus the floor of (t[k+1] - t[k]) x d / 256;
it lies between the two points, so the clamp to -640..4000 leaves it as it is. -/
def Obligations.InterpolationIsR85 : Prop :=
  ∀ (table : Bank Int 17) (code : Nat), 16 ≤ code → code ≤ 4079 →
    (∀ i, -640 ≤ table.get i ∧ table.get i ≤ 4000) →
    ∃ (k d : Nat) (hk : k ≤ 15), d ≤ 255 ∧ code = 256 * k + d ∧
      let t0 := table.get ⟨k, by omega⟩
      let t1 := table.get ⟨k + 1, by omega⟩
      interpolate table code = t0 + (t1 - t0) * d / 256
      ∧ min t0 t1 ≤ interpolate table code ∧ interpolate table code ≤ max t0 t1
      ∧ -640 ≤ interpolate table code ∧ interpolate table code ≤ 4000

/-- [R101, R102, R105, R106, R130] A budget stage records P_dut, the demand Q (each u times its rating, rounded up), the
allowance A and the scaled flag (A below Q), grants every zone u, or floor(u A / Q) when scaled, marks the limited
ones, and raises C6A exactly when the flag rises. Then: over B the run rises, saturating at 3, and when it reaches 3
with the flag clear the flag is set, BUDGET enters the hold set and C6B is raised; at or below B the run is 0, and at
or below B - floor(B / 16) with the flag set both flag and BUDGET go, with no notice. A hold set that becomes non-
empty while PLAYING sets the hold-requested mark, one that becomes empty clears it; one that becomes empty while HELD
enters PLAYING at the held vector with every clock restarted; anything else moves the set alone. -/
def Obligations.BudgetHoldAndHoldSet : Prop :=
  ∀ (s : State) (cap : PassCapture) (budget pause : Bool) (f : FrameDesc) (p : Nat),
    let b := s.therm.slotBudget
    let put := fun x : BudgetRec => s.setTherm { s.therm with slotBudget := x }
    let e : Exerciser := { s.exer with holdBudget := budget, holdPause := pause }
    let was := s.exer.holdBudget || s.exer.holdPause
    let is := budget || pause
    let beyond := cap.budget < s.pDut
    let under := s.pDut ≤ cap.budget - cap.budget / 16
    let rated := fun z : Fin 6 => match cap.board with | some x => (x.get z).rated | none => 0
    let a := cap.budget - s.pDut
    let q := ((List.finRange 6).map fun z => ((s.therm.zones.get z).u * rated z + 999) / 1000).sum
    let share := fun z : ZoneRec => if q ≤ a then z.u else z.u * a / q
    let granted := s.setTherm { s.therm with
      zones := s.therm.zones.map fun z => { z with granted := share z, limited := decide (share z < z.u) }
      slotBudget := { b with pDutUsed := s.pDut, demand := q, allowance := a, scaled := decide (a < q) } }
    (a < q → b.scaled = false → s.grantStage cap = granted.setNotice (s.notice.countRaise 6))
    ∧ (q ≤ a ∨ b.scaled = true → s.grantStage cap = granted)
    ∧ (beyond → 2 ≤ b.overRun → b.hold = false →
      s.holdStage cap =
        let u := (put { b with overRun := 3, hold := true }).setHolds true s.exer.holdPause
        u.setNotice (u.notice.countRaise 6))
    ∧ (beyond → b.overRun < 2 ∨ b.hold = true →
      s.holdStage cap = put { b with overRun := min 3 (b.overRun + 1) })
    ∧ (¬ beyond → under → b.hold = true →
      s.holdStage cap = (put { b with overRun := 0, hold := false }).setHolds false s.exer.holdPause)
    ∧ (¬ beyond → ¬ under ∨ b.hold = false → s.holdStage cap = put { b with overRun := 0 })
    ∧ (s.exer.state = .playing → was = false → is = true →
      s.setHolds budget pause = s.setExer { e with holdRequested := true })
    ∧ (s.exer.state = .playing → was = true → is = false →
      s.setHolds budget pause = s.setExer { e with holdRequested := false })
    ∧ (s.exer.state = .held → was = true → is = false → s.store.currentFrame = some f → s.exer.position = some p →
      s.setHolds budget pause = s.setExer { e with
        state := .playing, clockAge := Bank.replicate 16 0, vecPeriod := s.exer.timing.period,
        vecOffset := s.exer.timing.offset, strobeDue := true,
        vector := Memory.read s.store.memory ((f.first + p) % 8192) })
    ∧ (was = is ∨ (s.exer.state ≠ .playing ∧ s.exer.state ≠ .held) ∨ (s.exer.state = .held ∧ is = true) →
      s.setHolds budget pause = s.setExer e)

/-- [R143, R144, R142] An expiry with the timer running moves the current-run seconds up by one and the accumulated RUN
seconds too; where those stand at their top the spec gives no value, and a free value is taken (assumption log 8). A
socket's credit rises by one exactly when the run is not paused and every condition of R144 holds, and otherwise
stays. Excursion, breach, stall and off counts are noted as they stood; target, run limit, previous-run mark and
serial stay. Without the timer running nothing changes (assumption log 4). -/
def Obligations.CreditedSecond : Prop :=
  ∀ s : State,
    (s.credit.timer = none → exec .creditIntervalExpiry s = .next s)
    ∧ (s.credit.timer.isSome = true → ∃ t, exec .creditIntervalExpiry s = .next t
      ∧ t.credit.currentRun = s.credit.currentRun + 1
      ∧ (s.credit.accumulated ≠ BitVec.allOnes 32 →
        t.credit.accumulated = s.credit.accumulated + 1 ∧ t.freeCount = s.freeCount)
      ∧ (s.credit.accumulated = BitVec.allOnes 32 →
        t.credit.accumulated = Config.runSecondsPastTop s.freeCount ∧ t.freeCount = s.freeCount + 1)
      ∧ t.credit.target = s.credit.target ∧ t.credit.runLimit = s.credit.runLimit
      ∧ t.credit.prevRun = s.credit.prevRun ∧ t.credit.serial = s.credit.serial
      ∧ t.credit.notedStalls = s.exer.stalls
      ∧ (∀ r, t.credit.notedExcursions.get r = (s.rail.rails.get r).excursions)
      ∧ (∀ z, t.credit.notedBreaches.get z = (s.therm.zones.get z).breaches)
      ∧ ∀ k,
        let earns := s.slot.paused = false
          ∧ ((s.sock.sockets.get k).state = .active ∨ (s.sock.sockets.get k).state = .warned)
          ∧ (s.sock.sockets.get k).blanking = none
          ∧ (s.sock.sockets.get k).offCount = (s.credit.accounts.get k).notedOff
          ∧ (∃ w, s.wire k = some w
            ∧ (s.rail.rails.get w.rail).excursions = s.credit.notedExcursions.get w.rail
            ∧ (s.rail.rails.get w.rail).inWindow = true
            ∧ (s.therm.zones.get w.zone).state = .regulating
            ∧ (s.therm.zones.get w.zone).breaches = s.credit.notedBreaches.get w.zone
            ∧ (s.therm.zones.get w.zone).inWindow = true)
          ∧ (s.exer.dynamic = true → s.exer.state = .playing ∧ s.exer.stalls = s.credit.notedStalls)
        (t.credit.accounts.get k).notedOff = (s.sock.sockets.get k).offCount
        ∧ (earns → (t.credit.accounts.get k).credited = (s.credit.accounts.get k).credited + 1)
        ∧ (¬ earns → (t.credit.accounts.get k).credited = (s.credit.accounts.get k).credited))

/-- [R143, R146, R147, R16, R75, R76, R77, R137] At an expiry in RUNNING: every socket whose credit of this second reaches
the target becomes COMPLETED, its switch open, its blanking off, its off count moved, its compare window emptied, its
stamp the advanced RUN seconds, and C2B is raised once for each. When one was completed and every socket is then
VACANT, RETIRED or COMPLETED the slot is in DRAINING with COMPLETE; else with the current-run seconds at the run limit
it is in DRAINING with RUN_LIMIT; else it stays RUNNING with its end cause as it was, and the timer runs 1 s again. A
socket not completed keeps its stamp, and while the run goes on its whole supervision record and compare record; where
the run ends every socket has besides what the entry to DRAINING makes of it (R77), and every window is empty. No
failure is logged, and but for C0 and C7 where the run ends no other class moves. -/
def Obligations.CompletionAndRunLimit : Prop :=
  ∀ s : State, s.slot.state = .running → s.credit.timer.isSome = true →
    let done := fun k => s.slot.paused = false ∧ s.creditable k = true
      ∧ (s.credit.accounts.get k).credited + 1 = s.credit.target
    let finished := (∃ k, done k) ∧ ∀ k, done k ∨ (s.sock.sockets.get k).state = .vacant
      ∨ (s.sock.sockets.get k).state = .retired ∨ (s.sock.sockets.get k).state = .completed
    let ended := finished ∨ s.credit.currentRun + 1 = s.credit.runLimit
    let completed := fun k =>
      let r := s.sock.sockets.get k
      if done k then { r with state := .completed, switchClosed := false, blanking := none, offCount := r.offCount + 1 }
      else r
    let drained := fun r : SocketRec =>
      let on := r.state = .active ∨ r.state = .warned
      { r with
        state := if on ∨ r.state = .heldOff ∨ r.state = .isolated then .off else r.state
        offCount := if on then r.offCount + 1 else r.offCount
        prior := none, blanking := none, cooldown := none, retryDue := false, switchClosed := false }
    let told := ((List.finRange 48).filter fun k => decide (done k)).foldl (fun n _ => n.countRaise 2) s.notice
    ∃ t, exec .creditIntervalExpiry s = .next t
      ∧ (∀ k, t.sock.sockets.get k = if ended then drained (completed k) else completed k)
      ∧ t.sock = { s.sock with sockets := t.sock.sockets }
      ∧ (∀ k, t.exer.compare.get k =
          if ended ∨ done k then { s.exer.compare.get k with windowCount := 0, firstMismatch := none }
          else s.exer.compare.get k)
      ∧ (∀ k, (t.credit.accounts.get k).stamp =
          if done k then some t.credit.accumulated else (s.credit.accounts.get k).stamp)
      ∧ (∀ c, c ≠ 0 → c ≠ 7 → t.notice.classes.get c = told.classes.get c)
      ∧ (¬ ended → t.notice = told)
      ∧ t.fail = s.fail
      ∧ (finished → t.slot.state = .draining ∧ t.slot.endCause = .complete ∧ t.credit.timer = none)
      ∧ (¬ finished → s.credit.currentRun + 1 = s.credit.runLimit →
        t.slot.state = .draining ∧ t.slot.endCause = .runLimit ∧ t.credit.timer = none)
      ∧ (¬ finished → s.credit.currentRun + 1 ≠ s.credit.runLimit →
        t.slot = s.slot ∧ t.credit.timer = some 1)

/-- [R136] At the strobe of a vector in progress of a checked frame whose expectation is LOW or HIGH: a socket ACTIVE or
WARNED and not in blanking whose line shows the other level has its window count and mismatch total moved up
(saturating at 255 and 65535) and its first mismatch set when absent; no other socket and nothing else changes. A
DONT_CARE vector and an unchecked frame compare nothing, and with no vector in progress or its strobe past nothing
changes (the single strobe is assumption log 25). -/
def Obligations.VectorStrobeCompares : Prop :=
  ∀ (s : State) (lines : BitVec 48) (f : FrameDesc) (p : Nat) (high : Bool),
    let seen := { s.exer with strobeDue := false }
    (s.exer.state ≠ .playing ∨ s.exer.strobeDue = false → exec (.vectorStrobe lines) s = .next s)
    ∧ (s.exer.state = .playing → s.exer.strobeDue = true → s.store.currentFrame = some f → s.exer.position = some p →
      (f.checked = false ∨ s.exer.vector.expect = .dontCare →
        exec (.vectorStrobe lines) s = .next (s.setExer seen))
      ∧ (f.checked = true → s.exer.vector.expect = (if high then .high else .low) →
        ∃ t, exec (.vectorStrobe lines) s = .next t ∧ t = s.setExer { seen with compare := t.exer.compare }
          ∧ ∀ k,
            let r := s.exer.compare.get k
            t.exer.compare.get k =
              if ((s.sock.sockets.get k).state = .active ∨ (s.sock.sockets.get k).state = .warned)
                ∧ (s.sock.sockets.get k).blanking = none ∧ lines.getLsbD k.val ≠ high then
                { r with
                  windowCount := min 255 (r.windowCount + 1), firstMismatch := r.firstMismatch.or (some p),
                  mismatchTotal := min 65535 (r.mismatchTotal + 1) }
              else r))

/-- [R134, R36] For every exerciser, channel and time t since the vector's start. Outside PLAYING a channel shows its park
level; the odd channel above a PAIR the complement of the PAIR's, RELEASED for RELEASED. In PLAYING a VECTOR channel
shows its drive bit and a FIXED one its fixed level, whatever t; a CLOCK, and a PAIR on its own channel, is HIGH
exactly in the first high-time units of its cycle; the channel above a PAIR is HIGH exactly from the dead time after
the fall to the dead time before the rise, and never while the PAIR's own channel is. At the next vector start, with
no setting applied, every channel but a VECTOR one shows what it would have shown t later in the vector before. The
cycle phase is the channel's clock age plus t modulo its period (how levels are kept is assumption log 26). That the
odd channel above a PAIR shows the complement also when its own CHANNEL section is absent is the model's choice
(assumption log 37). -/
def Obligations.StimulusLevels : Prop :=
  ∀ (e : Exerciser) (c : Fin 16) (pair : Fin 8) (t : Nat),
    let lo : Fin 16 := ⟨2 * pair.val, by omega⟩
    let hi : Fin 16 := ⟨2 * pair.val + 1, by omega⟩
    let above := fun x : Fin 16 => ∃ b : Fin 16, b.val % 2 = 0 ∧ b.val + 1 = x.val ∧ (e.channels.get b).mode = .pair
    let ch := e.channels.get c
    let phase := fun x : Fin 16 => (e.clockAge.get x + t) % (e.channels.get x).period
    let is := fun (x : Fin 16) (high : Prop) =>
      (high → e.channelLevel x t = .high) ∧ (¬ high → e.channelLevel x t = .low)
    (e.state ≠ .playing →
      (¬ above c → e.channelLevel c t = ch.park)
      ∧ ((e.channels.get lo).mode = .pair →
        e.channelLevel hi t = match (e.channels.get lo).park with
          | .low => .high | .high => .low | .released => .released))
    ∧ (e.state = .playing →
      (¬ above c →
        (ch.mode = .vector → is c (e.vector.drive.getLsbD c.val = true))
        ∧ (ch.mode = .fixed → is c (ch.fixedHigh = true))
        ∧ (ch.mode = .clock ∨ ch.mode = .pair → 1 ≤ ch.period → is c (phase c < ch.high)))
      ∧ ((e.channels.get lo).mode = .pair → 1 ≤ (e.channels.get lo).period →
        is hi ((e.channels.get lo).high + (e.channels.get lo).dead ≤ phase lo
          ∧ phase lo + (e.channels.get lo).dead < (e.channels.get lo).period)
        ∧ ¬ (e.channelLevel lo t = .high ∧ e.channelLevel hi t = .high))
      ∧ (above c ∨ ch.mode ≠ .vector → e.advanceClocks.channelLevel c t = e.channelLevel c (e.vecPeriod + t)))

/-- [R129, R133, R135, R121, R122, R134] At the end of a vector that is not the frame's last the clocks have run on by the
vector's period and the boundary settings, if any wait, are applied (timing, channels, underrun policy, play mode and
mark, R121 and R122, C7A by R123) and emptied; the position advances by one; with a stop requested the exerciser is
STOPPED there, else with a hold in the set HELD there, each clearing its marks and counting one stall; else the vector
at the new position starts with the timing then in force. Nothing else changes. When nothing is PLAYING the event
changes nothing (assumption log 4). That an odd channel's clock restarts when the channel below goes into or out of
PAIR is the model's choice (assumption log 36). -/
def Obligations.VectorEndWithinAFrame : Prop :=
  ∀ (s : State) (f : FrameDesc) (p : Nat),
    let advanced := s.setExer { s.exer with
      boundary := Settings.empty
      clockAge := Bank.ofFn fun c => if (s.exer.channels.get c).period = 0 then 0
        else (s.exer.clockAge.get c + s.exer.vecPeriod) % (s.exer.channels.get c).period }
    (s.exer.state ≠ .playing → exec .vectorEnd s = .next s)
    ∧ (s.exer.state = .playing → s.store.currentFrame = some f → s.exer.position = some p → p + 1 ≠ f.count →
      ∃ u : State, advanced.Applied u s.exer.boundary ∧
        let e : Exerciser := { u.exer with position := some (p + 1) }
        (s.exer.stopRequested = true →
          exec .vectorEnd s = .next (u.setExer { e with
            state := .stopped, stalls := s.exer.stalls + 1, holdRequested := false, stopRequested := false,
            strobeDue := false }))
        ∧ (s.exer.stopRequested = false → (s.exer.holdBudget = true ∨ s.exer.holdPause = true) →
          exec .vectorEnd s = .next (u.setExer { e with
            state := .held, stalls := s.exer.stalls + 1, holdRequested := false, strobeDue := false }))
        ∧ (s.exer.stopRequested = false → s.exer.holdBudget = false → s.exer.holdPause = false →
          exec .vectorEnd s = .next (u.setExer { e with
            vecPeriod := u.exer.timing.period, vecOffset := u.exer.timing.offset, strobeDue := true
            vector := Memory.read s.store.memory ((f.first + (p + 1)) % 8192) })))

/-- [R117, R118, R119, R120, R116, R123, R129, R131, R132, R133, R135, R138] At the last vector of the current frame in a
sound store: the boundary settings are applied; a checked frame's sockets are judged (CheckedPassIsJudged), and a run
end there ends the event; the windows are emptied, the staged settings applied. Then with passes left the frame has
one more pass done. At its last pass in Stream mode, and at a TAIL's pass end, a first READY frame takes over and the
ended frame is gone, with C7A when the READY count falls to the mark; without one the frame is a TAIL, current under
REPEAT, while under PARK there is no current frame. In Loop mode the ended frame is READY again and the next READY
frame after it, else the first of the list, is current. With a stop requested the exerciser is then STOPPED, else
without a current frame STARVED with C7B, else with a hold HELD, each counting one stall; else vector 0 of the current
frame starts. Only store, exerciser and notices move. A TAIL made PLAYING in this event plays one more pass
(assumption log 12); a TAIL's READY successor is taken also after a change to PARK (assumption log 35). That applied
settings restart the clock of an odd channel when the channel below goes into or out of PAIR is the model's choice
(assumption log 36). -/
def Obligations.PassEndMovesTheStream : Prop :=
  ∀ (s : State) (f g : FrameDesc) (p n : Nat) (before after : List FrameDesc),
    s.StoreLaw → s.exer.state = .playing → s.store.currentFrame = some f → s.exer.position = some p → p + 1 = f.count →
    let advanced := s.setExer { s.exer with
      boundary := Settings.empty
      clockAge := Bank.ofFn fun c => if (s.exer.channels.get c).period = 0 then 0
        else (s.exer.clockAge.get c + s.exer.vecPeriod) % (s.exer.channels.get c).period }
    ∃ u : State, advanced.Applied u s.exer.boundary ∧
    let judged := if f.checked = true then u.judgePass else u
    let cleared := judged.setExer { judged.exer with
      staged := Settings.empty
      compare := if f.checked = true then
          judged.exer.compare.map fun r => { r with windowCount := 0, firstMismatch := none }
        else judged.exer.compare }
    (judged.exer.state ≠ .playing → exec .vectorEnd s = .next judged)
    ∧ (judged.exer.state = .playing → ∃ w t : State, cleared.Applied w s.exer.staged
      ∧ exec .vectorEnd s = .next t ∧ OnlyPlayMoved w t ∧
      let now := w.store.currentFrame
      let stalled := fun (x : ExerState) (at0 : Option Nat) => { w.exer with
        state := x, position := at0, stalls := w.exer.stalls + 1, holdRequested := false, stopRequested := false,
        strobeDue := false }
      let goes := fun x : FrameDesc =>
        t.store.current = some x.id ∧ t.store.find x.id = some x
        ∧ t.exer = (if w.exer.stopRequested = true then stalled .stopped (some 0)
          else if w.exer.holdBudget = true ∨ w.exer.holdPause = true then stalled .held (some 0)
          else { w.exer with
            position := some 0, vecPeriod := w.exer.timing.period, vecOffset := w.exer.timing.offset,
            strobeDue := true, vector := Memory.read s.store.memory (x.first % 8192) })
      let ended := (f.status ≠ .tail ∧ now = some { f with status := .playing n } ∧ n + 1 = f.repeats
          ∧ w.store.mode = .stream)
        ∨ now = some { f with status := .tail }
      t.store.memory = w.store.memory ∧ t.store.writeEnd = w.store.writeEnd ∧ t.store.mode = w.store.mode
      ∧ t.store.lowWater = w.store.lowWater
      ∧ (∀ x ∈ w.store.frames, x.status ≠ .tail → x.id ≠ f.id → t.store.current ≠ some x.id →
        t.store.find x.id = some x)
      ∧ (f.status ≠ .tail → now = some { f with status := .playing n } → n + 1 ≠ f.repeats →
        goes { f with status := .playing (n + 1) } ∧ t.notice = w.notice)
      ∧ (f.status = .tail → now = some { f with status := .playing n } →
        goes { f with status := .playing n } ∧ t.notice = w.notice)
      ∧ (ended → w.store.firstReady = some g →
        goes { g with status := .playing 0 } ∧ t.store.find f.id = none
        ∧ t.store.readEnd = ((t.store.frames.head?).map FrameDesc.first).getD t.store.writeEnd
        ∧ t.notice =
          (if w.store.mode = .stream ∧ w.store.lowWater < w.store.readyCount
              ∧ w.store.readyCount - 1 ≤ w.store.lowWater
            then w.notice.countRaise 7 else w.notice))
      ∧ (ended → w.store.firstReady = none → w.exer.underrun = .repeatLast →
        goes { f with status := .tail } ∧ t.notice = w.notice)
      ∧ (ended → w.store.firstReady = none → w.exer.underrun = .park →
        t.store.current = none ∧ t.store.find f.id = some { f with status := .tail }
        ∧ (w.exer.stopRequested = true → t.exer = stalled .stopped none ∧ t.notice = w.notice)
        ∧ (w.exer.stopRequested = false → t.exer = stalled .starved none ∧ t.notice = w.notice.countRaise 7))
      ∧ (f.status ≠ .tail → now = some { f with status := .playing n } → n + 1 = f.repeats → w.store.mode = .loop →
        w.store.frames = before ++ { f with status := .playing n } :: after →
        ((after.find? fun x => x.status = .ready).or (before.find? fun x => x.status = .ready)).getD f = g →
        goes { g with status := .playing 0 } ∧ t.notice = w.notice
        ∧ (g.id ≠ f.id → t.store.find f.id = some { f with status := .ready })))

/-- [R138, R139, R68, R129] At the last vector of a checked frame in RUNNING, compare windows sound: every socket whose
window count reaches the functional threshold has its fail count moved up by one (saturating at 255) and its logged
mark set; no other socket's fail count or mark moves, and every window is emptied. In ascending socket order each such
socket whose mark was clear gets a FUNCTIONAL entry with its first mismatch as detail and C3A, and under RETIRE each
such socket then a RETIRED entry with detail 2 and C2A; nothing else is logged, so with no socket at the threshold
nothing is, and no class but C0 (a run end) and C7 (the store) moves otherwise. Under KEEP no socket's supervision
record changes. Under RETIRE each such socket is RETIRED with cause FUNCTIONAL and its switch open. -/
def Obligations.CheckedPassIsJudged : Prop :=
  ∀ (s : State) (f : FrameDesc) (p : Nat),
    s.WindowLaw → s.slot.state = .running → s.exer.state = .playing → s.store.currentFrame = some f →
    f.checked = true → s.exer.position = some p → p + 1 = f.count →
    let old := s.exer.compare.get
    let fails := fun k => s.exer.threshold ≤ (old k).windowCount
    let entered := fun (v : State) (k : Fin 48) =>
      let v1 := if fails k ∧ (old k).logged = false then
          (v.logFailure .functional (some k) none (BitVec.ofNat 16 ((old k).firstMismatch.getD 0))).notify 3 .a
        else v
      if fails k ∧ s.exer.policy = .retire then (v1.logFailure .retired (some k) none 2).notify 2 .a else v1
    let told := (List.finRange 48).foldl entered s
    ∃ t, exec .vectorEnd s = .next t
      ∧ (∀ k, t.exer.compare.get k = { old k with
          windowCount := 0, firstMismatch := none
          functionalFails := if fails k then min 255 ((old k).functionalFails + 1) else (old k).functionalFails
          logged := if fails k then true else (old k).logged })
      ∧ t.fail = told.fail
      ∧ (∀ c, c ≠ 0 → c ≠ 7 → t.notice.classes.get c = told.notice.classes.get c)
      ∧ ((∀ k, ¬ fails k) → t.fail = s.fail)
      ∧ (s.exer.policy = .keep → t.sock = s.sock ∧ t.slot = s.slot)
      ∧ (s.exer.policy = .retire → ∀ k, fails k →
        (t.sock.sockets.get k).state = .retired ∧ (t.sock.sockets.get k).cause = some .functional
        ∧ (t.sock.sockets.get k).switchClosed = false)

/-- [R172, R159, R158, R98, R108, R55, R173] Each, once it passes the tests of R169, answers OK and changes nothing but
the receiver, the silence timer and the reply or record. PING: restart cause and unit address. STATUS: slot state, end
cause, paused flag, exerciser state, hold-requested mark, scaled and budget-hold flags, the attention mark (set
exactly when a pending class of level 1 or more stands at or above the threshold), then every pending class once by
descending level and ascending number, with its count. READ_ZONES: the six zone records and the slot budget state.
READ_RAILS: P_dut and the four rail records. Fields in the order and widths of the spec. That a flag is sent as 1 or 0
is the model's reading (assumption log 16), as is an order of none sent as 255 (assumption log 18). -/
def Obligations.ReportsReadTheRecords : Prop :=
  ∀ (s : State) (q : Request),
    let flag := fun b : Bool => (if b then 1 else 0 : Byte)
    let one := fun n : Nat => BitVec.ofNat 8 n
    (s.Takes .ping q →
      exec (.ping q) s = .next (s.heard.answering .ping q .ok
        [match s.slot.restartCause with | .powerOn => 0 | .pin => 1 | .command => 2,
         one (s.link.straps.slot.toNat + 1)]))
    ∧ (s.Takes .status q → ∃ (l : List (Fin 12)) (attn : Bool),
      (∀ c, c ∈ l ↔ (s.notice.classes.get c).pending = true ∧ (s.notice.classes.get c).level ≤ 7)
      ∧ l.Pairwise (fun a b => (s.notice.classes.get b).level < (s.notice.classes.get a).level
        ∨ ((s.notice.classes.get a).level = (s.notice.classes.get b).level ∧ a < b))
      ∧ (attn = true ↔ ∃ c, (s.notice.classes.get c).pending = true ∧ 1 ≤ (s.notice.classes.get c).level
        ∧ s.notice.threshold ≤ (s.notice.classes.get c).level)
      ∧ exec (.status q) s = .next (s.heard.answering .status q .ok
        ([one s.slot.state.code, one s.slot.endCause.code, flag s.slot.paused, one s.exer.state.code,
          flag s.exer.holdRequested, flag s.therm.slotBudget.scaled, flag s.therm.slotBudget.hold, flag attn,
          one l.length] ++ l.flatMap fun c => [one c.val, one (s.notice.classes.get c).count])))
    ∧ (s.Takes .readZones q →
      exec (.readZones q) s = .next (s.heard.answering .readZones q .ok
        ((s.therm.zones.cells.flatMap fun z =>
          [one z.state.code] ++ charsInt z.setpoint ++ chars2 z.window ++ chars2 z.margin ++ [one z.kp, one z.ki]
            ++ chars2 z.code ++ (match z.temperature with | some t => charsInt t | none => [0x80, 0])
            ++ [one z.invalidRun, flag z.inWindow] ++ chars4 z.breaches.toNat ++ chars2 z.integrator ++ chars2 z.u
            ++ chars2 z.granted ++ [flag z.limited] ++ chars2 z.appliedDuty)
          ++ chars2 s.therm.slotBudget.budget ++ chars2 s.therm.slotBudget.pDutUsed
          ++ chars2 s.therm.slotBudget.demand ++ chars2 s.therm.slotBudget.allowance
          ++ [flag s.therm.slotBudget.scaled, one s.therm.slotBudget.overRun, flag s.therm.slotBudget.hold])))
    ∧ (s.Takes .readRails q →
      exec (.readRails q) s = .next (s.heard.answering .readRails q .ok
        (chars2 ((s.rail.rails.cells.map fun r => if r.state = .off then 0 else r.sampleV * r.sampleI).sum / 100000)
          ++ s.rail.rails.cells.flatMap fun r =>
            [one r.state.code, flag r.used, match r.order with | some o => one o | none => 255]
              ++ chars2 r.setpoint ++ chars2 r.window ++ chars2 r.settle ++ chars2 r.sampleV ++ chars2 r.sampleI
              ++ [flag r.inWindow] ++ chars4 r.excursions.toNat ++ [one r.outRun, flag r.settleTimer.isSome])))

/-- [R29, R41, R124, R150, R164, R173] Each, once it passes the tests of R169, changes nothing but the receiver, the
silence timer and the reply or record. A range, index, selector or channel out of its bounds gets BAD_VALUE with field
0; READ_IDENTITY in range without a record gets NO_IDENTITY. Otherwise OK with the data: the bytes of the image; the
present flag and the section's fields; the store's header and at most 16 frame entries from the index on; the
accounts' header and one 24-character account per socket, in order; the channel's binding, the number of snapshots,
and the one at the index if it is there. Frame entry, account (with the verdict VerdictIsR151 gives), header, binding
and snapshot are spelled out field by field in the widths and codes of R173. That flags and marks are 1 or 0 is the
model's reading (assumption log 16), as is a READY frame's entry without its last field (assumption log 17). -/
def Obligations.PagedReads : Prop :=
  ∀ (s : State) (q : Request),
    let n := byteAt q.payload
    let first := match lastTarget q.quals with | some t => t.toNat | none => 0
    let one := fun x : Nat => BitVec.ofNat 8 x
    let flag := fun b : Bool => (if b = true then 1 else 0 : Byte)
    let stamped := fun x : Option Word32 => chars4 ((x.map BitVec.toNat).getD 0)
    let entry := fun f : FrameDesc =>
      [f.id, match f.status with | .opened _ => 0 | .ready => 1 | .playing _ => 2 | .tail => 3]
        ++ chars2 f.first ++ chars2 f.count ++ chars2 f.repeats
        ++ [flag f.checked, flag (decide (s.store.current = some f.id))]
        ++ (match f.status with
          | .opened received => chars2 received
          | .ready => []
          | .playing passes => chars2 passes
          | .tail => chars2 f.repeats)
    let kindOf := fun m : Option FailureMark => match m.map FailureMark.kind with
      | some .overcurrentSoft => 1 | some .overcurrentHard => 2 | some .functional => 3 | some .retired => 4
      | some .railFault => 5 | some .zoneTrip => 6 | some .sensorFail => 7 | some .safetyChain => 8
      | some .unseat => 9 | some .linkSilence => 10 | none => 0
    let account := fun k : Fin 48 =>
      let r := s.sock.sockets.get k
      let a := s.credit.accounts.get k
      let x := s.exer.compare.get k
      let m := s.fail.marks.get k
      let state := match r.state with
        | .vacant => 0 | .off => 1 | .active => 2 | .warned => 3 | .heldOff => 4 | .isolated => 5 | .retired => 6
        | .completed => 7
      let verdict := match s.verdict k with
        | .vacant => 0 | .pass => 1 | .failFunctional => 2 | .failElectrical => 3 | .failOperator => 4
        | .incomplete => 5
      let cause := match r.cause with
        | none => 0 | some .electrical => 1 | some .functional => 2 | some .operator => 3
      [one (state * 16 + verdict), one r.faultCounter, one (cause * 16 + r.retries), one r.softTrips,
        one r.hardTrips, one (a.credited / 65536), one (a.credited / 256), one a.credited]
        ++ (if r.state = .completed then stamped a.stamp else [0, 0, 0, 0])
        ++ chars2 x.mismatchTotal ++ [one x.functionalFails, one (kindOf m.first * 16 + kindOf m.last)]
        ++ stamped (m.first.map FailureMark.stamp) ++ stamped (m.last.map FailureMark.stamp)
    let header := [flag s.credit.prevRun, flag s.credit.serial.isSome] ++ stamped s.credit.serial
      ++ chars4 s.credit.target ++ chars4 s.credit.runLimit ++ chars4 s.credit.accumulated.toNat
      ++ chars4 s.credit.currentRun
    let bindingOf := fun b : Option Binding => match b with
      | some b => [one b.cls.val, match b.source with | .a => 0 | .b => 1, one b.remaining]
      | none => [255, 0, 0]
    let copy := fun x : Snapshot =>
      [one x.cls.val, match x.source with | .a => 0 | .b => 1, one x.unit] ++ chars4 x.stamp.toNat
        ++ (match x.history with
          | .counts b => b.cells.flatMap chars2
          | .temperatures b => b.cells.flatMap fun v => match v with
            | some v => chars2 (v % 65536).toNat
            | none => [0x80, 0])
    let refused := fun k : Kind => s.heard.answering k q .badValue [0]
    (s.Takes .readIdentity q →
      let wide := u16At q.payload 0 ≤ 301 ∧ 1 ≤ n 2 ∧ n 2 ≤ 240 ∧ u16At q.payload 0 + n 2 ≤ 302
      (¬ wide → exec (.readIdentity q) s = .next (refused .readIdentity))
      ∧ (wide → s.ident.record = none →
        exec (.readIdentity q) s = .next (s.heard.answering .readIdentity q .noIdentity [0]))
      ∧ (∀ d, wide → s.ident.record = some d →
        exec (.readIdentity q) s = .next (s.heard.answering .readIdentity q .ok
          ((d.image.cells.drop (u16At q.payload 0)).take (n 2)))))
    ∧ (s.Takes .readRecipe q →
      (sectionOf (n 0) (n 1) = none → exec (.readRecipe q) s = .next (refused .readRecipe))
      ∧ (∀ ref, sectionOf (n 0) (n 1) = some ref →
        exec (.readRecipe q) s = .next (s.heard.answering .readRecipe q .ok
          (match s.recipe.fields ref with | some l => 1 :: l | none => [0]))))
    ∧ (s.Takes .readStore q →
      (31 < n 0 → exec (.readStore q) s = .next (refused .readStore))
      ∧ (n 0 ≤ 31 → exec (.readStore q) s = .next (s.heard.answering .readStore q .ok
        ([BitVec.ofNat 8 s.store.mode.code, BitVec.ofNat 8 s.store.lowWater]
          ++ chars2 (8192 - (s.store.frames.map FrameDesc.count).sum)
          ++ chars2 s.store.readEnd ++ chars2 s.store.writeEnd
          ++ [BitVec.ofNat 8 (s.store.frames.filter fun f => f.status = .ready).length,
              BitVec.ofNat 8 s.store.frames.length, BitVec.ofNat 8 (min 16 (s.store.frames.length - n 0))]
          ++ ((s.store.frames.drop (n 0)).take 16).flatMap entry))))
    ∧ (s.Takes .readSockets q →
      let wide := first ≤ 47 ∧ 1 ≤ n 0 ∧ n 0 ≤ 8 ∧ first + n 0 ≤ 48
      (¬ wide → exec (.readSockets q) s = .next (refused .readSockets))
      ∧ (wide → ∃ l : List (Fin 48), l.map Fin.val = List.range' first (n 0)
        ∧ (∀ k, (account k).length = 24)
        ∧ exec (.readSockets q) s = .next (s.heard.answering .readSockets q .ok
          (header ++ l.flatMap account))))
    ∧ (s.Takes .readCapture q →
      (1 < n 0 ∨ 7 < n 1 → exec (.readCapture q) s = .next (refused .readCapture))
      ∧ (∀ ch : Fin 2, n 0 = ch.val → n 1 ≤ 7 →
        exec (.readCapture q) s = .next (s.heard.answering .readCapture q .ok
          (bindingOf (s.notice.capture.get ch).binding
            ++ [BitVec.ofNat 8 (s.notice.capture.get ch).buffer.length]
            ++ (match (s.notice.capture.get ch).buffer[n 1]? with
              | some x => 1 :: copy x
              | none => [0])))))

/-- [R155, R171, R172, R173] With a reply due: FETCH_FAILURES with a count of 1 to 8 removes that many oldest entries (or
all there are) and clears the dropped count; READ_UNANSWERED empties its list; LINK_STATS with choice 1 clears the
four statistics. Without a reply nothing is removed, and the result is OK all the same. The data are the counts and
entries as they stood, oldest first. A count outside 1 to 8 and a choice above 1 get BAD_VALUE and change nothing. The
codes UNIT 0, GROUP 1, BROADCAST 2 are the model's reading (assumption log 19). -/
def Obligations.ReadsThatHandOver : Prop :=
  ∀ (s : State) (q : Request),
    let n := byteAt q.payload 0
    let answered := q.hit = .unit ∧ q.quals.contains .quiet = false
    (s.Takes .fetchFailures q →
      (n = 0 ∨ 8 < n → exec (.fetchFailures q) s = .next (s.heard.answering .fetchFailures q .badValue [0]))
      ∧ (1 ≤ n → n ≤ 8 →
        exec (.fetchFailures q) s = .next
          ((if answered then s.heard.setFail { s.fail with log := s.fail.log.drop n, dropped := 0 }
            else s.heard).answering .fetchFailures q .ok
            ([BitVec.ofNat 8 (min n s.fail.log.length), BitVec.ofNat 8 (s.fail.log.length - n)]
              ++ chars2 s.fail.dropped ++ chars2 s.fail.nextSeq.toNat
              ++ (s.fail.log.take n).flatMap fun e =>
                chars2 e.seq.toNat ++ [BitVec.ofNat 8 e.kind.code,
                  match e.socket with | some k => BitVec.ofNat 8 k.val | none => 255,
                  match e.unit with | some u => BitVec.ofNat 8 u | none => 255]
                ++ chars4 e.stamp.toNat ++ chars2 e.detail.toNat))))
    ∧ (s.Takes .readUnanswered q →
      exec (.readUnanswered q) s = .next
        ((if answered then s.heard.setLink { s.heard.link with unanswered := [] } else s.heard).answering
          .readUnanswered q .ok
          (BitVec.ofNat 8 s.link.unanswered.length :: s.link.unanswered.flatMap fun e =>
            [e.kind, match e.hit with | .unit => 0 | .group => 1 | .broadcast => 2, e.result.code])))
    ∧ (s.Takes .linkStats q →
      (1 < n → exec (.linkStats q) s = .next (s.heard.answering .linkStats q .badValue [0]))
      ∧ (n ≤ 1 →
        exec (.linkStats q) s = .next
          ((if n = 1 ∧ answered then
              s.heard.setLink { s.heard.link with crcErrors := 0, charErrors := 0, timeouts := 0, overruns := 0 }
            else s.heard).answering .linkStats q .ok
            (chars2 s.link.crcErrors ++ chars2 s.link.charErrors ++ chars2 s.link.timeouts
              ++ chars2 s.link.overruns))))

/-- [R4, R25, R172, R21, R160, R161] RELEASE in HOLD enters EMPTY with C0A, the make timer running if both contacts are
made, and elsewhere has no effect; both get OK. RESTART gets OK and makes the shut-off due. SET_LINK writes all five
settings and restarts the silence timer with the new limit, 0 stopping it (assumption log 29), or gets BAD_VALUE for a
mode or enable above 1. SET_CLASS sets a class's level (0 also clears it) or the threshold (1 to 7), or gets
BAD_VALUE. ACK_CLASSES applies its pairs in order: equal counts clear the class, a smaller seen count is subtracted, a
larger one passed over; each pair's count and flag are answered; a class above C11 in any pair gets BAD_VALUE with no
pair applied. That the pending flag is answered as 1 or 0 is the model's reading (assumption log 16). -/
def Obligations.LinkAndClassSettings : Prop :=
  ∀ (s : State) (q : Request) (k : Fin 12) (pairs : List (Byte × Byte)),
    let a := byteAt q.payload 0
    let v := byteAt q.payload 1
    let made := if s.slot.seatA = true ∧ s.slot.seatB = true then s.slot.makeTimer.or (some 100) else none
    let ack := fun (acc : Notices × List Byte) (p : Fin 12 × Nat) =>
      let r := acc.1.classes.get p.1
      let r' : ClassRec :=
        if r.count = p.2 then { r with pending := false, count := 0 }
        else if p.2 < r.count then { r with count := r.count - p.2 }
        else r
      (({ acc.1 with classes := acc.1.classes.set p.1 r' } : Notices),
        acc.2 ++ [BitVec.ofNat 8 r'.count, if r'.pending then 1 else 0])
    (s.Takes .release q →
      (s.slot.state = .hold → exec (.release q) s = .next
        (((s.heard.setSlot { s.slot with state := .empty, makeTimer := made }).setNotice
          (s.notice.countRaise 0)).answering .release q .ok []))
      ∧ (s.slot.state ≠ .hold → exec (.release q) s = .next (s.heard.answering .release q .ok [])))
    ∧ (s.Takes .restart q → exec (.restart q) s = .next
      ((s.heard.setLink { s.heard.link with restartDue := true }).answering .restart q .ok []))
    ∧ (s.Takes .setLink q →
      (1 < v ∨ 1 < byteAt q.payload 2 →
        exec (.setLink q) s = .next (s.heard.answering .setLink q .badValue [0]))
      ∧ (v ≤ 1 → byteAt q.payload 2 ≤ 1 →
        exec (.setLink q) s = .next ((s.heard.setLink { s.heard.link with
          silenceLimit := a, silenceMode := if v = 1 then .safe else .notify,
          groupEnable := decide (byteAt q.payload 2 = 1), groupCode := q.payload.getD 3 0,
          groupMask := q.payload.getD 4 0, silenceTimer := if a = 0 then none else some a }).answering
            .setLink q .ok [])))
    ∧ (s.Takes .setClass q →
      (a = k.val → v ≤ 7 → exec (.setClass q) s = .next ((s.heard.setNotice { s.notice with
        classes := s.notice.classes.set k (if v = 0 then { level := 0, pending := false, count := 0 }
          else { s.notice.classes.get k with level := v }) }).answering .setClass q .ok []))
      ∧ (a = 12 → 1 ≤ v → v ≤ 7 → exec (.setClass q) s = .next
        ((s.heard.setNotice { s.notice with threshold := v }).answering .setClass q .ok []))
      ∧ (12 < a ∨ 7 < v ∨ (a = 12 ∧ v = 0) →
        exec (.setClass q) s = .next (s.heard.answering .setClass q .badValue [0])))
    ∧ (s.Takes .ackClasses q → q.payload = pairs.flatMap (fun p => [p.1, p.2]) →
      ((∃ p ∈ pairs, 12 ≤ p.1.toNat) →
        exec (.ackClasses q) s = .next (s.heard.answering .ackClasses q .badValue [0]))
      ∧ (∀ named : List (Fin 12 × Nat), pairs.map (fun p => (p.1.toNat, p.2.toNat)) = named.map (fun p => (p.1.val, p.2)) →
        exec (.ackClasses q) s = .next
          ((s.heard.setNotice (named.foldl ack (s.notice, [])).1).answering .ackClasses q .ok
            (named.foldl ack (s.notice, [])).2)))

/-- [R157, R162, R163] ARM_CAPTURE with a channel 0 or 1, class C1, C4 or C5, source A or B and count 1 to 8 empties the
channel and binds it, unless the other channel holds the class (DUPLICATE); other values get BAD_VALUE. A raise counts
in its class (saturating at 255) when the level is not 0, and sets it pending unless a channel is bound to the class.
A raise of a bound source also appends the snapshot and counts down; the last one unbinds the channel and raises C11.
The other source of a bound class takes no snapshot. -/
def Obligations.CaptureBindsAndTakes : Prop :=
  ∀ (s : State) (q : Request) (ch : Fin 2) (snap : Snapshot) (b : Binding) (c : Fin 12) (n : Notices),
    let p := byteAt q.payload
    let other : Fin 2 := if ch = 0 then 1 else 0
    let good := p 0 ≤ 1 ∧ (p 1 = 1 ∨ p 1 = 4 ∨ p 1 = 5) ∧ p 2 ≤ 1 ∧ 1 ≤ p 3 ∧ p 3 ≤ 8
    let held := fun k : Fin 2 => ∃ x, (n.capture.get k).binding = some x ∧ x.cls = c
    let counted := n.countRaise snap.cls
    let grown := (n.capture.get ch).buffer ++ [snap]
    (s.Takes .armCapture q →
      (¬ good → exec (.armCapture q) s = .next (s.heard.answering .armCapture q .badValue [0]))
      ∧ (good → p 0 = ch.val → p 1 = c.val →
        ((∃ x, (s.notice.capture.get other).binding = some x ∧ x.cls = c) →
          exec (.armCapture q) s = .next (s.heard.answering .armCapture q .duplicate [0]))
        ∧ ((∀ x, (s.notice.capture.get other).binding = some x → x.cls ≠ c) →
          exec (.armCapture q) s = .next ((s.heard.setNotice { s.notice with
            capture := s.notice.capture.set ch
              { binding := some { cls := c, source := if p 2 = 0 then .a else .b, remaining := p 3 }
                buffer := [] } }).answering .armCapture q .ok []))))
    ∧ ((n.classes.get c).level = 0 → n.countRaise c = n)
    ∧ ((n.classes.get c).level ≠ 0 →
      (held 0 ∨ held 1 → n.countRaise c = { n with classes := n.classes.set c { n.classes.get c with
        count := min 255 ((n.classes.get c).count + 1) } })
      ∧ (¬ held 0 → ¬ held 1 → n.countRaise c = { n with classes := n.classes.set c { n.classes.get c with
        count := min 255 ((n.classes.get c).count + 1), pending := true } }))
    ∧ ((∀ k x, (n.capture.get k).binding = some x → x.cls = snap.cls → x.source ≠ snap.source) →
      n.raiseWith snap = counted)
    ∧ ((n.capture.get ch).binding = some b → b.cls = snap.cls → b.source = snap.source →
      (∀ x, (n.capture.get other).binding = some x → x.cls ≠ snap.cls) →
      (2 ≤ b.remaining → n.raiseWith snap = { counted with
        capture := n.capture.set ch { binding := some { b with remaining := b.remaining - 1 }, buffer := grown } })
      ∧ (b.remaining ≤ 1 → n.raiseWith snap =
        ({ counted with capture := n.capture.set ch { binding := none, buffer := grown } } : Notices).countRaise 11))

/-- [R8, R12, R14, R15, R18, R20] STOP: ARMING and RUNNING drain with STOPPED; DRAINING OK, no effect; else WRONG_STATE.
GO: ARMING sets the flag and makes the arming test; RUNNING OK; DRAINING BUSY; else WRONG_STATE. PAUSE and RESUME, in
RUNNING alone: the flag changes and PAUSE enters or leaves the hold set; a flag already so gets OK, no effect.
REIDENTIFY, in UNIDENTIFIED and READY alone: ACCEPTED, record and temperatures dropped, IDENTIFYING at attempt 1, C0A.
CLEAR_SAFE, in SAFE: INTERLOCK while the chain is open; else READY, IDENTIFYING (read begun) or EMPTY (make timer by
the contacts), C0A; DRAINING BUSY; else WRONG_STATE. -/
def Obligations.RunControlRequests : Prop :=
  ∀ (s : State) (q : Request),
    let st := s.slot.state
    let cold : Thermal := { s.therm with zones := s.therm.zones.map fun z => { z with temperature := none } }
    let identifying := (((s.heard.setTherm cold).setIdent
      { record := none, attempts := 1, attemptTimer := some 40, waitTimer := none }).setSlot
        { s.slot with state := .identifying }).setNotice (s.notice.countRaise 0)
    let no := fun (k : Kind) (x : Result) => s.heard.answering k q x [0]
    let yes := fun k : Kind => s.heard.answering k q .ok []
    (s.Takes .stop q →
      (st = .arming ∨ st = .running →
        exec (.stop q) s = .next ((s.heard.enterDraining .stopped).answering .stop q .ok []))
      ∧ (st = .draining → exec (.stop q) s = .next (yes .stop))
      ∧ (st ≠ .arming → st ≠ .running → st ≠ .draining → exec (.stop q) s = .next (no .stop .wrongState)))
    ∧ (s.Takes .go q →
      (st = .arming → exec (.go q) s = .next
        ((s.heard.setSlot { s.slot with goGiven := true }).armingTest.answering .go q .ok []))
      ∧ (st = .running → exec (.go q) s = .next (yes .go))
      ∧ (st = .draining → exec (.go q) s = .next (no .go .busy))
      ∧ (st ≠ .arming → st ≠ .running → st ≠ .draining → exec (.go q) s = .next (no .go .wrongState)))
    ∧ (s.Takes .pause q →
      (st = .running → s.slot.paused = false → exec (.pause q) s = .next
        (((s.heard.setSlot { s.slot with paused := true }).setHolds s.exer.holdBudget true).answering .pause q .ok []))
      ∧ (st = .running → s.slot.paused = true → exec (.pause q) s = .next (yes .pause))
      ∧ (st ≠ .running → exec (.pause q) s = .next (no .pause .wrongState)))
    ∧ (s.Takes .resume q →
      (st = .running → s.slot.paused = true → exec (.resume q) s = .next
        (((s.heard.setSlot { s.slot with paused := false }).setHolds s.exer.holdBudget false).answering
          .resume q .ok []))
      ∧ (st = .running → s.slot.paused = false → exec (.resume q) s = .next (yes .resume))
      ∧ (st ≠ .running → exec (.resume q) s = .next (no .resume .wrongState)))
    ∧ (s.Takes .reidentify q →
      (st = .unidentified ∨ st = .ready →
        exec (.reidentify q) s = .next (identifying.answering .reidentify q .accepted []))
      ∧ (st ≠ .unidentified → st ≠ .ready → exec (.reidentify q) s = .next (no .reidentify .wrongState)))
    ∧ (s.Takes .clearSafe q →
      (st = .safe → s.slot.chainOpen = true → exec (.clearSafe q) s = .next (no .clearSafe .interlock))
      ∧ (st = .safe → s.slot.chainOpen = false →
        (s.slot.seated = true → s.ident.record.isSome = true → exec (.clearSafe q) s = .next
          (((s.heard.setSlot { s.slot with state := .ready }).setNotice (s.notice.countRaise 0)).answering
            .clearSafe q .ok []))
        ∧ (s.slot.seated = true → s.ident.record = none →
          exec (.clearSafe q) s = .next (identifying.answering .clearSafe q .ok []))
        ∧ (s.slot.seated = false → exec (.clearSafe q) s = .next
          (((s.heard.setSlot { s.slot with
            state := .empty
            makeTimer := if s.slot.seatA = true ∧ s.slot.seatB = true then s.slot.makeTimer.or (some 100)
              else none }).setNotice (s.notice.countRaise 0)).answering .clearSafe q .ok [])))
      ∧ (st = .draining → exec (.clearSafe q) s = .next (no .clearSafe .busy))
      ∧ (st ≠ .safe → st ≠ .draining → exec (.clearSafe q) s = .next (no .clearSafe .wrongState)))

/-- [R31, R32, R33, R34, R35, R36] Outside READY: WRONG_STATE. In READY a selector above 5 or a number out of its range
gets BAD_VALUE with field 0; else the first field out of its range, in field order, gets BAD_VALUE with its number and
nothing stored; else the section is stored clamped, CLAMPED when a clamp changed a value and OK otherwise, and nothing
else changes. RAIL: setpoint to the board's maximum voltage, hard limit to its maximum current, soft limit to the hard
limit. ZONE: setpoint to the absolute limit less 16. SOCKETS: yes only where fitted. CHANNEL: fields its mode does not
use 0 or LOW, and the dead time of a PAIR cut to floor((m - 1) / 2), m the smaller of high and low time, when twice it
reaches m. -/
def Obligations.LoadRecipeChecksClampsStores : Prop :=
  ∀ (s : State) (q : Request) (d : Identity) (r : Fin 4) (z : Fin 6) (c : Fin 16), s.Takes .loadRecipe q →
    let l := q.payload.drop 2
    let sel := byteAt q.payload 0
    let num := byteAt q.payload 1
    let keep := fun p : Recipe => (s.heard.setRecipe p).answering .loadRecipe q
    let judge := fun (tests : List Bool) (p : Recipe) (changed : Bool) =>
      match tests.findIdx? (fun b => !b) with
      | some i => s.heard.answering .loadRecipe q .badValue [BitVec.ofNat 8 (i + 1)]
      | none => keep p (if changed then .clamped else .ok) []
    let yesNo := fun i : Nat => decide (byteAt l i ≤ 1)
    (s.slot.state ≠ .ready →
      exec (.loadRecipe q) s = .next (s.heard.answering .loadRecipe q .wrongState [0]))
    ∧ (s.slot.state = .ready → s.ident.record = some d →
      (5 < sel ∨ (sel = 1 ∧ 3 < num) ∨ (sel = 2 ∧ 5 < num) ∨ (sel = 5 ∧ 15 < num)
          ∨ ((sel = 0 ∨ sel = 3 ∨ sel = 4) ∧ num ≠ 0) →
        exec (.loadRecipe q) s = .next (s.heard.answering .loadRecipe q .badValue [0]))
      ∧ (sel = 0 → num = 0 → exec (.loadRecipe q) s = .next (judge
          [decide (1 ≤ u32At l 0 ∧ u32At l 0 ≤ 4000000), decide (u32At l 0 ≤ u32At l 4 ∧ u32At l 4 ≤ 8000000),
           decide (10 ≤ u16At l 8 ∧ u16At l 8 ≤ 3600), yesNo 10, decide (100 ≤ u16At l 11 ∧ u16At l 11 ≤ 20000),
           decide (byteAt l 13 ≤ 7), decide (1 ≤ u16At l 14 ∧ u16At l 14 ≤ 600), yesNo 16,
           decide (1 ≤ byteAt l 17), yesNo 18, yesNo 19, yesNo 20, decide (byteAt l 21 ≤ 31)]
          { s.recipe with general := some {
              target := u32At l 0, runLimit := u32At l 4, armTimeout := u16At l 8, autoGo := decide (byteAt l 10 = 1),
              budget := u16At l 11, retryLimit := byteAt l 13, cooldown := u16At l 14,
              policy := if byteAt l 16 = 1 then .retire else .keep, threshold := byteAt l 17,
              dynamic := decide (byteAt l 18 = 1), underrun := if byteAt l 19 = 1 then .repeatLast else .park,
              mode := if byteAt l 20 = 1 then .loop else .stream, lowWater := byteAt l 21 } } false))
      ∧ (sel = 1 → num = r.val →
        let hard := min (u16At l 10) (d.railMaxMa r)
        exec (.loadRecipe q) s = .next (judge
          [yesNo 0, decide (1 ≤ byteAt l 1 ∧ byteAt l 1 ≤ 4), decide (u16At l 2 ≤ 16000),
           decide (10 ≤ u16At l 4 ∧ u16At l 4 ≤ 1000), decide (1 ≤ u16At l 6 ∧ u16At l 6 ≤ 1000),
           decide (1 ≤ u16At l 8 ∧ u16At l 8 ≤ 4000), decide (1 ≤ u16At l 10 ∧ u16At l 10 ≤ 4000)]
          { s.recipe with rails := s.recipe.rails.set r (some {
              used := decide (byteAt l 0 = 1), order := byteAt l 1, setpoint := min (u16At l 2) (d.railMaxMv r),
              window := u16At l 4, settle := u16At l 6, soft := min (u16At l 8) hard, hard := hard }) }
          (decide (d.railMaxMv r < u16At l 2 ∨ d.railMaxMa r < u16At l 10 ∨ hard < u16At l 8))))
      ∧ (sel = 2 → num = z.val → exec (.loadRecipe q) s = .next (judge
          [decide (-640 ≤ s16At l 0 ∧ s16At l 0 ≤ 4000), decide (8 ≤ u16At l 2 ∧ u16At l 2 ≤ 800),
           decide (16 ≤ u16At l 4 ∧ u16At l 4 ≤ 800 ∧ u16At l 2 < u16At l 4)]
          { s.recipe with zones := s.recipe.zones.set z (some {
              setpoint := min (s16At l 0) (d.absLimit z - 16), window := u16At l 2, margin := u16At l 4,
              kp := byteAt l 6, ki := byteAt l 7 }) }
          (decide (d.absLimit z - 16 < s16At l 0))))
      ∧ (sel = 3 → num = 0 → exec (.loadRecipe q) s = .next (judge
          [decide (∀ k : Fin 48, byteAt l k.val ≤ 1)]
          { s.recipe with sockets := some (Bank.ofFn fun k => decide (byteAt l k.val = 1) && (d.wire k).isSome) }
          (decide (∃ k : Fin 48, byteAt l k.val = 1 ∧ d.wire k = none))))
      ∧ (sel = 4 → num = 0 → exec (.loadRecipe q) s = .next (judge
          [decide (50 ≤ u16At l 0), decide (1 ≤ u16At l 2 ∧ u16At l 2 < u16At l 0)]
          { s.recipe with timing := some { period := u16At l 0, offset := u16At l 2 } } false))
      ∧ (sel = 5 → num = c.val →
        let m := byteAt l 0
        let clocked := m = 1 ∨ m = 2
        let least := min (u16At l 5) (u16At l 3 - u16At l 5)
        let cut := m = 2 ∧ least ≤ 2 * byteAt l 7
        exec (.loadRecipe q) s = .next (judge
          [decide (m ≤ 3 ∧ (m = 2 → c.val % 2 = 0)), decide (byteAt l 1 ≤ 2), decide (m = 3 → byteAt l 2 ≤ 1),
           decide (clocked → 2 ≤ u16At l 3), decide (clocked → 1 ≤ u16At l 5 ∧ u16At l 5 < u16At l 3),
           decide (m = 2 → 1 ≤ byteAt l 7)]
          { s.recipe with channels := s.recipe.channels.set c (some {
              mode := if m = 0 then .vector else if m = 1 then .clock else if m = 2 then .pair else .fixed
              park := if byteAt l 1 = 0 then .low else if byteAt l 1 = 1 then .high else .released
              fixedHigh := decide (m = 3 ∧ byteAt l 2 = 1)
              period := if clocked then u16At l 3 else 0
              high := if clocked then u16At l 5 else 0
              dead := if cut then (least - 1) / 2 else if m = 2 then byteAt l 7 else 0 }) }
          (decide cut))))

/-- [R31, R36, R41, R173] For every section, every recipe and board: when loading a payload of the section's length
succeeds with no value clamped, the fields that READ_RECIPE carries of that section are that payload; for a CHANNEL
they are the payload with the fields its mode does not use at 0: all but mode and park level for VECTOR, the fixed
level and the dead time for CLOCK, the fixed level for PAIR, the clock fields and the dead time for FIXED. -/
def Obligations.SectionsReadBackAsLoaded : Prop :=
  ∀ (p stored : Recipe) (d : Option Identity) (ref : SectionRef) (l : List Byte),
    p.load d ref l = .ok (stored, false) →
    match ref with
    | .general => l.length = 22 → stored.fields ref = some l
    | .rail _ => l.length = 12 → stored.fields ref = some l
    | .zone _ => l.length = 8 → stored.fields ref = some l
    | .sockets => l.length = 48 → stored.fields ref = some l
    | .timing => l.length = 4 → stored.fields ref = some l
    | .channel _ => l.length = 8 →
      (l.head? = some 0 → stored.fields ref = some (l.take 2 ++ [0, 0, 0, 0, 0, 0]))
      ∧ (l.head? = some 1 → stored.fields ref = some ((l.set 2 0).set 7 0))
      ∧ (l.head? = some 2 → stored.fields ref = some (l.set 2 0))
      ∧ (l.head? = some 3 → stored.fields ref = some (l.take 3 ++ [0, 0, 0, 0, 0]))

/-- [R10, R11, R37, R38, R60, R126, R148] A payload above 1 gets BAD_VALUE; DRAINING BUSY, another state but READY
WRONG_STATE; in READY an open chain INTERLOCK, an absent identity NO_IDENTITY, the first of the six cross-checks that
fails NO_RECIPE with its number; nothing changes then. START NEW that passes all sets the run up (recipe re-clamped,
ARMING, rails loaded and the first started, zones REGULATING, copies loaded; C0A), marks the previous run with the
board's serial, clears the accumulated seconds, and makes every populated socket OFF and every other VACANT with
credit, stamp, retries, trips, cause, mismatches, fails and failure marks cleared; the failure log and its counts
stay. -/
def Obligations.StartNewOpensAccounts : Prop :=
  ∀ (s : State) (q : Request) (d : Identity) (g : General), s.Takes .start q →
    let n := byteAt q.payload 0
    let no := fun (x : Result) (detail : Nat) =>
      exec (.start q) s = .next (s.heard.answering .start q x [BitVec.ofNat 8 detail])
    let used := fun r : Fin 4 => ∃ x, s.recipe.rails.get r = some x ∧ x.used = true
    let fits := fun k : Fin 48 => ∃ m, s.recipe.sockets = some m ∧ m.get k = true ∧ (d.wire k).isSome = true
    let c2 := (∃ r, used r) ∧ ∀ r r' x x', s.recipe.rails.get r = some x → s.recipe.rails.get r' = some x' →
      x.used = true → x'.used = true → r ≠ r' → x.order ≠ x'.order
    let c3 := ∀ k w, fits k → d.wire k = some w → used w.rail
    let c4 := ∀ z, (s.recipe.zones.get z).isSome = true
    let c5 := ∃ k, fits k
    let c6 := g.dynamic = true → s.recipe.timing.isSome = true ∧ ∀ c, (s.recipe.channels.get c).isSome = true
    (1 < n → no .badValue 0)
    ∧ (n ≤ 1 → s.slot.state = .draining → no .busy 0)
    ∧ (n ≤ 1 → s.slot.state ≠ .draining → s.slot.state ≠ .ready → no .wrongState 0)
    ∧ (n ≤ 1 → s.slot.state = .ready →
      (s.slot.chainOpen = true → no .interlock 0)
      ∧ (s.slot.chainOpen = false → s.ident.record = none → no .noIdentity 0)
      ∧ (s.slot.chainOpen = false → s.ident.record = some d →
        (s.recipe.general = none → no .noRecipe 1)
        ∧ (s.recipe.general = some g →
          (¬ c2 → no .noRecipe 2)
          ∧ (c2 → ¬ c3 → no .noRecipe 3)
          ∧ (c2 → c3 → ¬ c4 → no .noRecipe 4)
          ∧ (c2 → c3 → c4 → ¬ c5 → no .noRecipe 5)
          ∧ (c2 → c3 → c4 → c5 → ¬ c6 → no .noRecipe 6)
          ∧ (c2 → c3 → c4 → c5 → c6 → n = 0 →
            ∃ t, exec (.start q) s = .next (t.answering .start q .ok []) ∧ s.heard.Begun t g d
              ∧ (∀ k, (fits k → (t.sock.sockets.get k).state = .off)
                ∧ (¬ fits k → (t.sock.sockets.get k).state = .vacant)
                ∧ t.sock.sockets.get k = { s.sock.sockets.get k with
                    state := (t.sock.sockets.get k).state, cause := none, faultCounter := 0, retries := 0,
                    softTrips := 0, hardTrips := 0, blanking := none, cooldown := none, retryDue := false,
                    prior := none }
                ∧ t.credit.accounts.get k = { s.credit.accounts.get k with credited := 0, stamp := none }
                ∧ t.exer.compare.get k = { windowCount := 0, firstMismatch := none, mismatchTotal := 0,
                                           functionalFails := 0, logged := false }
                ∧ t.fail.marks.get k = { first := none, last := none })
              ∧ t.credit.prevRun = true ∧ t.credit.serial = some (BitVec.ofNat 32 (u32At d.image.cells 4))
              ∧ t.credit.accumulated = 0
              ∧ t.fail.log = s.fail.log ∧ t.fail.nextSeq = s.fail.nextSeq ∧ t.fail.dropped = s.fail.dropped
              ∧ t.notice = s.notice.countRaise 0))))

/-- [R10, R149] With the checks before passed: CONTINUE without a previous run, with another serial, or with another
populated set gets MISMATCH and changes nothing. Else the run is set up as for NEW, and previous-run mark, serial,
accumulated seconds, trip counts, causes, mismatches, fails, marks and log stay; retry counts are cut to the new
limit. Against the new target T: COMPLETED at or above T stays with credit T, below it becomes OFF without stamp; OFF
at or above T becomes COMPLETED with credit T, the accumulated seconds as stamp and one C2B each, below stays; RETIRED
at or above T has T - 1, below stays; VACANT stays. -/
def Obligations.StartContinueCarriesAccounts : Prop :=
  ∀ (s : State) (q : Request) (d : Identity) (g : General), s.Takes .start q → byteAt q.payload 0 = 1 →
    s.slot.state = .ready → s.slot.chainOpen = false → s.ident.record = some d → s.failingCheck = none →
    s.recipe.general = some g →
    let fits := fun k : Fin 48 => ∃ m, s.recipe.sockets = some m ∧ m.get k = true ∧ (d.wire k).isSome = true
    let same := s.credit.prevRun = true ∧ s.credit.serial = some (BitVec.ofNat 32 (u32At d.image.cells 4))
      ∧ ∀ k, fits k ↔ (s.sock.sockets.get k).state ≠ .vacant
    (¬ same → exec (.start q) s = .next (s.heard.answering .start q .mismatch [0]))
    ∧ (same → ∃ t, exec (.start q) s = .next (t.answering .start q .ok []) ∧ s.heard.Begun t g d
      ∧ t.credit.prevRun = s.credit.prevRun ∧ t.credit.serial = s.credit.serial
      ∧ t.credit.accumulated = s.credit.accumulated ∧ t.fail = s.fail
      ∧ (∀ k,
        let r := s.sock.sockets.get k
        let a := s.credit.accounts.get k
        let r' := t.sock.sockets.get k
        let a' := t.credit.accounts.get k
        r' = { r with
            state := r'.state, retries := min g.retryLimit r.retries, faultCounter := 0, blanking := none,
            cooldown := none, retryDue := false, prior := none }
        ∧ a'.notedOff = a.notedOff
        ∧ t.exer.compare.get k = { s.exer.compare.get k with
            windowCount := 0, firstMismatch := none, logged := false }
        ∧ (r.state = .completed → g.target ≤ a.credited →
          r'.state = .completed ∧ a'.credited = g.target ∧ a'.stamp = a.stamp)
        ∧ (r.state = .completed → a.credited < g.target →
          r'.state = .off ∧ a'.credited = a.credited ∧ a'.stamp = none)
        ∧ (r.state = .off → g.target ≤ a.credited →
          r'.state = .completed ∧ a'.credited = g.target ∧ a'.stamp = some s.credit.accumulated)
        ∧ (r.state = .off → a.credited < g.target → r'.state = .off ∧ a' = a)
        ∧ (r.state = .retired → g.target ≤ a.credited →
          r'.state = .retired ∧ a'.credited = g.target - 1 ∧ a'.stamp = a.stamp)
        ∧ (r.state = .retired → a.credited < g.target → r'.state = .retired ∧ a' = a)
        ∧ (r.state = .vacant → r'.state = .vacant ∧ a' = a))
      ∧ t.notice = (Nat.repeat (fun n : Notices => n.countRaise 2)
          ((List.finRange 48).filter fun k =>
            (s.sock.sockets.get k).state = .off ∧ g.target ≤ (s.credit.accounts.get k).credited).length
          s.notice).countRaise 0)

/-- [R39, R51, R97, R107] Elsewhere WRONG_STATE. SET_ZONE: a target above 5 gets BAD_VALUE 0, the first bad field its
number; else every zone addressed (the target, or all six) takes the values in recipe and run copy, the setpoint cut
to its own limit less 16, CLAMPED when any was. SET_RAIL: a target above 3 BAD_VALUE 0, an absent section NO_RECIPE 2,
above 16000 mV BAD_VALUE 3 (assumption log 15); else the setpoint, cut to the board's maximum, goes into the recipe,
and for a used rail into its record by its state; an unused rail's record stays (assumption log 14). SET_BUDGET:
outside 100 to 20000 BAD_VALUE 5, else B in recipe and budget state. Nothing else changes. -/
def Obligations.ZoneRailAndBudgetSettings : Prop :=
  ∀ (s : State) (q : Request) (d : Identity) (r : Fin 4) (x : RailSection) (g : General),
    let p := q.payload
    let live := s.slot.state = .arming ∨ s.slot.state = .running
    let no := fun (k : Kind) (v : Result) (detail : Nat) => s.heard.answering k q v [BitVec.ofNat 8 detail]
    (s.Takes .setZone q →
      (¬ live → exec (.setZone q) s = .next (no .setZone .wrongState 0))
      ∧ (live → (∃ t, lastTarget q.quals = some t ∧ 5 < t.toNat) →
        exec (.setZone q) s = .next (no .setZone .badValue 0))
      ∧ (live → s.ident.record = some d → (∀ t, lastTarget q.quals = some t → t.toNat ≤ 5) →
        let tests := [decide (-640 ≤ s16At p 0 ∧ s16At p 0 ≤ 4000), decide (8 ≤ u16At p 2 ∧ u16At p 2 ≤ 800),
          decide (16 ≤ u16At p 4 ∧ u16At p 4 ≤ 800 ∧ u16At p 2 < u16At p 4)]
        let hit := fun z : Fin 6 => (lastTarget q.quals).all fun t => t.toNat == z.val
        let cut := fun z : Fin 6 => min (s16At p 0) (d.absLimit z - 16)
        (∀ i, tests.findIdx? (fun b => !b) = some i →
          exec (.setZone q) s = .next (no .setZone .badValue (i + 1)))
        ∧ (tests.findIdx? (fun b => !b) = none → ∃ t,
          exec (.setZone q) s = .next (t.answering .setZone q
            (if ∃ z, hit z = true ∧ cut z ≠ s16At p 0 then .clamped else .ok) [])
          ∧ t = (s.heard.setRecipe { s.recipe with zones := t.recipe.zones }).setTherm
              { s.therm with zones := t.therm.zones }
          ∧ ∀ z,
            t.recipe.zones.get z = (if hit z = true then some {
              setpoint := cut z, window := u16At p 2, margin := u16At p 4, kp := byteAt p 6, ki := byteAt p 7 }
              else s.recipe.zones.get z)
            ∧ t.therm.zones.get z = (if hit z = true then { s.therm.zones.get z with
              setpoint := cut z, window := u16At p 2, margin := u16At p 4, kp := byteAt p 6, ki := byteAt p 7 }
              else s.therm.zones.get z))))
    ∧ (s.Takes .setRail q →
      (¬ live → exec (.setRail q) s = .next (no .setRail .wrongState 0))
      ∧ (live → (∃ t, lastTarget q.quals = some t ∧ 3 < t.toNat) →
        exec (.setRail q) s = .next (no .setRail .badValue 0))
      ∧ (live → (∃ t, lastTarget q.quals = some t ∧ t.toNat = r.val) →
        (s.recipe.rails.get r = none → exec (.setRail q) s = .next (no .setRail .noRecipe 2))
        ∧ (s.recipe.rails.get r = some x → 16000 < u16At p 0 →
          exec (.setRail q) s = .next (no .setRail .badValue 3))
        ∧ (s.recipe.rails.get r = some x → u16At p 0 ≤ 16000 → s.ident.record = some d →
          let y := s.rail.rails.get r
          let mv := min (u16At p 0) (d.railMaxMv r)
          let written := s.heard.setRecipe { s.recipe with
            rails := s.recipe.rails.set r (some { x with setpoint := mv }) }
          let rec' : RailRec := match y.state with
            | .off | .faulted => { y with setpoint := mv }
            | .ramping => { y with setpoint := mv, reference := mv, settleTimer := some y.settle }
            | .regulated => { y with setpoint := mv, reference := mv, settleTimer := some y.settle, outRun := 0 }
          exec (.setRail q) s = .next
            ((if y.used = true then written.setRail { s.rail with rails := s.rail.rails.set r rec' }
              else written).answering .setRail q (if d.railMaxMv r < u16At p 0 then .clamped else .ok) []))))
    ∧ (s.Takes .setBudget q →
      (¬ live → exec (.setBudget q) s = .next (no .setBudget .wrongState 0))
      ∧ (live → (u16At p 0 < 100 ∨ 20000 < u16At p 0) →
        exec (.setBudget q) s = .next (no .setBudget .badValue 5))
      ∧ (live → s.recipe.general = some g → 100 ≤ u16At p 0 → u16At p 0 ≤ 20000 →
        exec (.setBudget q) s = .next (((s.heard.setRecipe { s.recipe with
          general := some { g with budget := u16At p 0 } }).setTherm { s.therm with
            slotBudget := { s.therm.slotBudget with budget := u16At p 0 } }).answering .setBudget q .ok [])))

/-- [R40, R135, R35, R36, R121, R122, R123] In ARMING and RUNNING (elsewhere WRONG_STATE), the target in range (BAD_VALUE
0), the section present (NO_RECIPE 6) and the fields in range (BAD_VALUE, the first bad field's number; SET_PLAY's are
11 underrun, 12 mode, 13 mark, assumption log 15): the section is written into the recipe, the request's fields leave
both waiting lists, and while PLAYING its values wait in the boundary settings, or with AT_BOUNDARY in the staged
ones; else they are applied at once to the run copy, or for SET_PLAY to exerciser and store, and a STARVED exerciser
that a change to Loop gives a READY frame takes it. C7A is raised only by a SET_PLAY that keeps the mark and whose
change to Stream frees READY frames (R123, assumption log 30). A channel's clock restarts when what times it changes,
and the odd one above it when PAIR begins or ends (assumption log 36). Nothing else changes. -/
def Obligations.StimulusSettings : Prop :=
  ∀ (s : State) (q : Request) (k : Fin 16),
    let p := q.payload
    let live := s.slot.state = .arming ∨ s.slot.state = .running
    let no := fun (i : Kind) (v : Result) (detail : Nat) => s.heard.answering i q v [BitVec.ofNat 8 detail]
    let late := q.quals.contains .atBoundary = true
    let e := s.exer
    let done := fun (i : Kind) (u : State) => u.answering i q .ok []
    (s.Takes .setTiming q →
      let t : Timing := { period := u16At p 0, offset := u16At p 2 }
      let put := fun x : Exerciser => (s.heard.setRecipe { s.recipe with timing := some t }).setExer x
      (¬ live → exec (.setTiming q) s = .next (no .setTiming .wrongState 0))
      ∧ (live → s.recipe.timing = none → exec (.setTiming q) s = .next (no .setTiming .noRecipe 6))
      ∧ (live → s.recipe.timing.isSome = true →
        (u16At p 0 < 50 → exec (.setTiming q) s = .next (no .setTiming .badValue 1))
        ∧ (50 ≤ u16At p 0 → (u16At p 2 = 0 ∨ u16At p 0 ≤ u16At p 2) →
          exec (.setTiming q) s = .next (no .setTiming .badValue 2))
        ∧ (50 ≤ u16At p 0 → 1 ≤ u16At p 2 → u16At p 2 < u16At p 0 →
          (e.state = .playing → ¬ late → exec (.setTiming q) s = .next (done .setTiming (put { e with
            boundary := { e.boundary with timing := some t }, staged := { e.staged with timing := none } })))
          ∧ (e.state = .playing → late → exec (.setTiming q) s = .next (done .setTiming (put { e with
            boundary := { e.boundary with timing := none }, staged := { e.staged with timing := some t } })))
          ∧ (e.state ≠ .playing → exec (.setTiming q) s = .next (done .setTiming (put { e with
            timing := t, boundary := { e.boundary with timing := none },
            staged := { e.staged with timing := none } }))))))
    ∧ (s.Takes .setChannel q →
      (¬ live → exec (.setChannel q) s = .next (no .setChannel .wrongState 0))
      ∧ (live → (∃ t, lastTarget q.quals = some t ∧ 15 < t.toNat) →
        exec (.setChannel q) s = .next (no .setChannel .badValue 0))
      ∧ (live → (∃ t, lastTarget q.quals = some t ∧ t.toNat = k.val) →
        (s.recipe.channels.get k = none → exec (.setChannel q) s = .next (no .setChannel .noRecipe 6))
        ∧ (∀ i, (s.recipe.channels.get k).isSome = true → readChannel k p = .error i →
          exec (.setChannel q) s = .next (no .setChannel .badValue i))
        ∧ (∀ x, (s.recipe.channels.get k).isSome = true → readChannel k p = .ok x →
          let y := x.clampDead
          let old := e.channels.get k
          let result : Result := if x.mode = .pair ∧ min x.high (x.period - x.high) ≤ 2 * x.dead then .clamped else .ok
          let put := fun z : Exerciser =>
            ((s.heard.setRecipe { s.recipe with channels := s.recipe.channels.set k (some y) }).setExer z).answering
              .setChannel q result []
          let without := fun l : Settings => { l with channels := l.channels.set k none }
          let withIt := fun l : Settings => { l with channels := l.channels.set k (some y) }
          (e.state = .playing → ¬ late → exec (.setChannel q) s = .next (put { e with
            boundary := withIt e.boundary, staged := without e.staged }))
          ∧ (e.state = .playing → late → exec (.setChannel q) s = .next (put { e with
            boundary := without e.boundary, staged := withIt e.staged }))
          ∧ (e.state ≠ .playing → ∃ ages : Bank Nat 16,
            (∀ c, ages.get c = if (c = k ∧ (y.mode ≠ old.mode ∨ y.period ≠ old.period ∨ y.high ≠ old.high
                ∨ y.dead ≠ old.dead))
                ∨ (c.val = k.val + 1 ∧ k.val % 2 = 0 ∧ (y.mode = .pair ↔ old.mode ≠ .pair))
              then 0 else e.clockAge.get c)
            ∧ exec (.setChannel q) s = .next (put { e with
              channels := e.channels.set k y, clockAge := ages, boundary := without e.boundary,
              staged := without e.staged })))))
    ∧ (s.Takes .setPlay q →
      let x : PlaySettings :=
        { mode := if byteAt p 0 = 1 then .loop else .stream
          underrun := if byteAt p 1 = 1 then .repeatLast else .park, lowWater := byteAt p 2 }
      let written := s.heard.setRecipe { s.recipe with general := s.recipe.general.map fun g =>
        { g with underrun := x.underrun, mode := x.mode, lowWater := x.lowWater } }
      let put := (written.setExer { e with
          underrun := x.underrun, boundary := { e.boundary with play := none },
          staged := { e.staged with play := none } }).setStore (s.store.withPlay (some x))
      let fell := x.lowWater = s.store.lowWater ∧ x.mode = .stream ∧ x.lowWater < s.store.readyCount
        ∧ put.store.readyCount ≤ x.lowWater
      let applied := if fell then put.setNotice (s.notice.countRaise 7) else put
      (¬ live → exec (.setPlay q) s = .next (no .setPlay .wrongState 0))
      ∧ (live → 1 < byteAt p 1 → exec (.setPlay q) s = .next (no .setPlay .badValue 11))
      ∧ (live → byteAt p 1 ≤ 1 → 1 < byteAt p 0 → exec (.setPlay q) s = .next (no .setPlay .badValue 12))
      ∧ (live → byteAt p 1 ≤ 1 → byteAt p 0 ≤ 1 → 31 < byteAt p 2 →
        exec (.setPlay q) s = .next (no .setPlay .badValue 13))
      ∧ (live → byteAt p 1 ≤ 1 → byteAt p 0 ≤ 1 → byteAt p 2 ≤ 31 →
        (e.state = .playing → ¬ late → exec (.setPlay q) s = .next (done .setPlay (written.setExer { e with
          boundary := { e.boundary with play := some x }, staged := { e.staged with play := none } })))
        ∧ (e.state = .playing → late → exec (.setPlay q) s = .next (done .setPlay (written.setExer { e with
          boundary := { e.boundary with play := none }, staged := { e.staged with play := some x } })))
        ∧ (e.state ≠ .playing →
          (e.state ≠ .starved ∨ s.store.mode = .loop ∨ x.mode = .stream ∨ applied.store.firstReady = none →
            exec (.setPlay q) s = .next (done .setPlay applied))
          ∧ (e.state = .starved → s.store.mode = .stream → x.mode = .loop →
            applied.store.firstReady.isSome = true →
            exec (.setPlay q) s = .next (done .setPlay applied.takeFirstReady)))))

/-- [R111, R114, R115, R110, R123] FRAME_OPEN tests in order values (BAD_VALUE), an OPEN frame (BUSY), the id (DUPLICATE),
32 descriptors or too few free slots (NO_ROOM), and then appends an OPEN frame with 0 received at the write end, which
moves on modulo 8192. FRAME_CANCEL of the OPEN frame's id removes it and moves the write end back to its first slot
(and the read end with it when the list is then empty); another id gets BAD_VALUE. PURGE_FRAMES keeps the current
frame alone, read end at its first slot and write end after its last, or empties the list; it answers the number
removed and the free slots, and raises C7A when in Stream mode the READY count falls to the mark. Nothing else
changes. -/
def Obligations.FramesOpenCancelPurge : Prop :=
  ∀ (s : State) (q : Request) (f : FrameDesc),
    let p := q.payload
    let id := p.getD 0 0
    let count := u16At p 1
    let repeats := u16At p 3
    let no := fun (k : Kind) (v : Result) => s.heard.answering k q v [0]
    let sound := 1 ≤ count ∧ count ≤ 1024 ∧ 1 ≤ repeats ∧ byteAt p 5 ≤ 1
    let busy := ∃ g ∈ s.store.frames, ∃ n, g.status = .opened n
    let double := ∃ g ∈ s.store.frames, g.id = id
    let full := 32 ≤ s.store.frames.length ∨ 8192 - (s.store.frames.map FrameDesc.count).sum < count
    let purged := fun (st : Store) =>
      let u := s.heard.setStore st
      let fell := s.store.mode = .stream ∧ s.store.lowWater < s.store.readyCount ∧ st.readyCount ≤ s.store.lowWater
      (if fell then u.setNotice (s.notice.countRaise 7) else u).answering .purgeFrames q .ok
        (BitVec.ofNat 8 (s.store.frames.length - st.frames.length) ::
          chars2 (8192 - (st.frames.map FrameDesc.count).sum))
    (s.Takes .frameOpen q →
      (¬ sound → exec (.frameOpen q) s = .next (no .frameOpen .badValue))
      ∧ (sound → busy → exec (.frameOpen q) s = .next (no .frameOpen .busy))
      ∧ (sound → ¬ busy → double → exec (.frameOpen q) s = .next (no .frameOpen .duplicate))
      ∧ (sound → ¬ busy → ¬ double → full → exec (.frameOpen q) s = .next (no .frameOpen .noRoom))
      ∧ (sound → ¬ busy → ¬ double → ¬ full →
        exec (.frameOpen q) s = .next ((s.heard.setStore { s.store with
          frames := s.store.frames ++ [{ id := id, first := s.store.writeEnd, count := count, repeats := repeats,
                                         checked := decide (byteAt p 5 = 1), status := .opened 0 }]
          writeEnd := (s.store.writeEnd + count) % 8192 }).answering .frameOpen q .ok [])))
    ∧ (s.Takes .frameCancel q →
      (s.store.openFrame = some f → f.id = id →
        let rest := s.store.frames.filter fun g => g.id ≠ id
        exec (.frameCancel q) s = .next ((s.heard.setStore { s.store with
          frames := rest, writeEnd := f.first
          readEnd := if rest = [] then f.first else s.store.readEnd }).answering .frameCancel q .ok []))
      ∧ (s.store.openFrame = none ∨ (s.store.openFrame = some f ∧ f.id ≠ id) →
        exec (.frameCancel q) s = .next (no .frameCancel .badValue)))
    ∧ (s.Takes .purgeFrames q →
      (s.store.currentFrame = some f → exec (.purgeFrames q) s = .next (purged { s.store with
        frames := s.store.frames.filter fun g => g.id = f.id, readEnd := f.first,
        writeEnd := (f.first + f.count) % 8192 }))
      ∧ (s.store.currentFrame = none → exec (.purgeFrames q) s = .next (purged { s.store with
        frames := [], readEnd := s.store.writeEnd })))

/-- [R112, R113, R110, R173, R116, R123, R130, R132, R133] In a sound store, a FRAME_DATA that does not continue the OPEN
frame, or holds a bad expectation code, gets BAD_VALUE with the received count and changes nothing. Else vector i of
the request stands in slot (first + start + i) modulo 8192, every other slot is as before, and OK carries the received
count. Short of the last vector the frame's received count alone moves. With the last vector and no STARVED exerciser
the frame is READY and, in Stream mode, a TAIL that is not current is gone. A STARVED exerciser takes the first READY
frame, PLAYING at its vector 0, or with a hold in the set HELD there with one stall counted; in Stream mode no TAIL is
left, and C7A is raised when the READY count, one higher in between, falls back to the mark or below it. -/
def Obligations.FrameDataDelivers : Prop :=
  ∀ (s : State) (q : Request) (vectors : List StimVector) (f : FrameDesc) (n : Nat),
    s.StoreLaw → s.Takes .frameData q →
    let start := u16At q.payload 1
    let total := start + vectors.length
    let goes := s.store.openFrame = some f ∧ f.status = .opened n ∧ f.id = q.payload.getD 0 0 ∧ start = n
      ∧ total ≤ f.count
    (vectorsOf (q.payload.drop 3) = none →
      exec (.frameData q) s = .next (s.heard.answering .frameData q .badValue (chars2 s.store.received)))
    ∧ (s.store.openFrame = none →
      exec (.frameData q) s = .next (s.heard.answering .frameData q .badValue (chars2 0)))
    ∧ (s.store.openFrame = some f → f.status = .opened n → vectorsOf (q.payload.drop 3) = some vectors →
      f.id ≠ q.payload.getD 0 0 ∨ start ≠ n ∨ f.count < total →
      exec (.frameData q) s = .next (s.heard.answering .frameData q .badValue (chars2 n)))
    ∧ (goes → vectorsOf (q.payload.drop 3) = some vectors →
      ∃ u received, exec (.frameData q) s = .next (u.answering .frameData q .ok (chars2 received))
        ∧ OnlyPlayMoved s.heard u
        ∧ received = (if total = f.count then 0 else total)
        ∧ (∀ i (h : i < vectors.length), Memory.read u.store.memory ((f.first + start + i) % 8192) = vectors[i])
        ∧ (∀ slot, (∀ i < vectors.length, slot ≠ (f.first + start + i) % 8192) →
          Memory.read u.store.memory slot = Memory.read s.store.memory slot)
        ∧ (total ≠ f.count → u.store.find f.id = some { f with status := .opened total }
          ∧ u.exer = s.exer ∧ u.notice = s.notice)
        ∧ (total = f.count → s.exer.state ≠ .starved →
          u.store.find f.id = some { f with status := .ready } ∧ u.exer = s.exer ∧ u.notice = s.notice
          ∧ (s.store.mode = .stream → ∀ g ∈ u.store.frames, g.status = .tail → s.store.current = some g.id))
        ∧ (total = f.count → s.exer.state = .starved →
          let g := s.store.firstReady.getD { f with status := .ready }
          u.store.current = some g.id ∧ u.store.find g.id = some { g with status := .playing 0 }
            ∧ (s.store.mode = .stream → ∀ x ∈ u.store.frames, x.status ≠ .tail)
            ∧ u.exer.position = some 0
            ∧ (s.exer.holdBudget = false → s.exer.holdPause = false →
              u.exer.state = .playing ∧ u.exer.stalls = s.exer.stalls)
            ∧ (s.exer.holdBudget = true ∨ s.exer.holdPause = true →
              u.exer.state = .held ∧ u.exer.stalls = s.exer.stalls + 1)
            ∧ u.notice = (if s.store.mode = .stream ∧ s.store.lowWater < s.store.readyCount + 1
                ∧ s.store.readyCount ≤ s.store.lowWater
              then s.notice.countRaise 7 else s.notice)))

/-- [R131, R133, R132, R116, R123, R127, R130, R134] Outside RUNNING: WRONG_STATE. In a static run OK and no effect. STOP:
PLAYING sets the stop-requested mark; HELD and STARVED become STOPPED with one stall counted and the mark clear;
STOPPED no effect. START: PLAYING clears the mark; HELD and STARVED no effect; STOPPED with a current frame empties
the compare windows and stands at vector 0, PLAYING there with its vector started, or HELD with one stall counted when
the hold set is not empty; STOPPED without one takes the first READY frame, or starves. Taking the first READY frame,
in whatever state it is done (here, at the entry to RUNNING, by a STARVED exerciser): with none READY the exerciser is
STARVED without a position, one stall counted, its marks of hold and strobe clear, and C7B is raised; else, ids being
distinct, that frame is PLAYING with 0 passes done and current, in Stream mode every TAIL is freed and the read end is
the head's first slot, C7A is raised exactly when in Stream mode the READY count falls by this one from above the mark
to it, and the exerciser stands at vector 0: HELD with one stall counted when the hold set is not empty, else PLAYING
with its vector started and every clock restarted. Nothing else changes. -/
def Obligations.ExerciseStopAndStart : Prop :=
  ∀ (s : State) (q : Request) (f g : FrameDesc),
    let e := s.exer
    let stopped : Exerciser := { e with
      state := .stopped, stalls := e.stalls + 1, holdRequested := false, strobeDue := false, stopRequested := false }
    let fresh : Exerciser := { e with
      position := some 0
      compare := e.compare.map fun r => { r with windowCount := 0, firstMismatch := none } }
    let onStop := fun u : State => exec (.exerciseStop q) s = .next (u.answering .exerciseStop q .ok [])
    let onStart := fun u : State => exec (.exerciseStart q) s = .next (u.answering .exerciseStart q .ok [])
    (s.Takes .exerciseStop q →
      (s.slot.state ≠ .running →
        exec (.exerciseStop q) s = .next (s.heard.answering .exerciseStop q .wrongState [0]))
      ∧ (s.slot.state = .running → e.dynamic = false ∨ e.state = .stopped ∨ e.state = .idle → onStop s.heard)
      ∧ (s.slot.state = .running → e.dynamic = true →
        (e.state = .playing → onStop (s.heard.setExer { e with stopRequested := true }))
        ∧ (e.state = .held ∨ e.state = .starved → onStop (s.heard.setExer stopped))))
    ∧ (s.Takes .exerciseStart q →
      (s.slot.state ≠ .running →
        exec (.exerciseStart q) s = .next (s.heard.answering .exerciseStart q .wrongState [0]))
      ∧ (s.slot.state = .running →
        e.dynamic = false ∨ e.state = .held ∨ e.state = .starved ∨ e.state = .idle → onStart s.heard)
      ∧ (s.slot.state = .running → e.dynamic = true →
        (e.state = .playing → onStart (s.heard.setExer { e with stopRequested := false }))
        ∧ (e.state = .stopped → s.store.current = none →
          onStart s.heard.takeFirstReady)
        ∧ (e.state = .stopped → s.store.currentFrame = some f →
          (e.holdBudget = true ∨ e.holdPause = true → onStart (s.heard.setExer { fresh with
            state := .held, stalls := e.stalls + 1, holdRequested := false, strobeDue := false }))
          ∧ (e.holdBudget = false → e.holdPause = false → onStart (s.heard.setExer { fresh with
            state := .playing, clockAge := Bank.replicate 16 0, vecPeriod := e.timing.period,
            vecOffset := e.timing.offset, strobeDue := true,
            vector := Memory.read s.store.memory (f.first % 8192) })))))
    ∧ (s.store.firstReady = none → s.takeFirstReady =
      (s.setExer { e with
        state := .starved, position := none, stalls := e.stalls + 1, holdRequested := false,
        strobeDue := false }).setNotice (s.notice.countRaise 7))
    ∧ (s.store.firstReady = some g → (s.store.frames.map fun x => x.id).Nodup →
      let put := s.store.frames.map fun x => if x.id = g.id then { x with status := .playing 0 } else x
      let kept := if s.store.mode = .stream then put.filter fun x => decide (x.status ≠ .tail) else put
      let headFirst := ((kept.head?).map FrameDesc.first).getD s.store.writeEnd
      let taken := (s.setStore { s.store with
          frames := kept, current := some g.id
          readEnd := if s.store.mode = .stream then headFirst else s.store.readEnd }).setNotice
        (if s.store.mode = .stream ∧ s.store.lowWater < s.store.readyCount
            ∧ s.store.readyCount - 1 ≤ s.store.lowWater
          then s.notice.countRaise 7 else s.notice)
      (e.holdBudget = true ∨ e.holdPause = true → s.takeFirstReady = taken.setExer { e with
        state := .held, position := some 0, stalls := e.stalls + 1, holdRequested := false, strobeDue := false })
      ∧ (e.holdBudget = false → e.holdPause = false → s.takeFirstReady = taken.setExer { e with
        state := .playing, position := some 0, clockAge := Bank.replicate 16 0, vecPeriod := e.timing.period,
        vecOffset := e.timing.offset, strobeDue := true,
        vector := Memory.read s.store.memory (g.first % 8192) }))

/-- [R151] For every state and socket: VACANT for a VACANT socket; for a COMPLETED one PASS with no functional fail and
FAIL_FUNCTIONAL with some; for a RETIRED one FAIL_FUNCTIONAL, FAIL_ELECTRICAL or FAIL_OPERATOR by its cause;
INCOMPLETE in any other state. It is read from the account at the moment of reading and is no field of the state. -/
def Obligations.VerdictIsR151 : Prop :=
  ∀ (s : State) (k : Fin 48),
    let r := s.sock.sockets.get k
    let fails := (s.exer.compare.get k).functionalFails
    (r.state = .vacant → s.verdict k = .vacant)
    ∧ (r.state = .completed → fails = 0 → s.verdict k = .pass)
    ∧ (r.state = .completed → 0 < fails → s.verdict k = .failFunctional)
    ∧ (r.state = .retired → r.cause = some .functional → s.verdict k = .failFunctional)
    ∧ (r.state = .retired → r.cause = some .electrical → s.verdict k = .failElectrical)
    ∧ (r.state = .retired → r.cause = some .operator → s.verdict k = .failOperator)
    ∧ (r.state ≠ .vacant → r.state ≠ .completed → r.state ≠ .retired → s.verdict k = .incomplete)

/-- [R56, R80, R50, R110, R153, R146, R71] The machine right after reset meets the switch, heater, rail, store and log
laws, the store's bundle, the accounts' bundle and the retries' bundle. -/
def Obligations.LawsHoldAtReset : Prop :=
  State.reset.SwitchLaw ∧ State.reset.HeaterLaw ∧ State.reset.RailLaw ∧ State.reset.StoreLaw ∧ State.reset.LogLaw
    ∧ State.reset.AccountsSound ∧ State.reset.RetriesSound ∧ State.reset.StoreSound

/-- [R56] From every state in which each socket's switch is closed exactly when the socket is ACTIVE or WARNED, and in
which outside ARMING and RUNNING every socket is VACANT, OFF, RETIRED or COMPLETED, whatever command stands in front,
a step's next state is such a state. (The law of R56 follows from it.) -/
def Obligations.SwitchesStayLawful : Prop :=
  KeptByStep State.SwitchLaw

/-- [R80] From every state in which each zone that is not REGULATING has controller output, granted duty and applied duty
0, and in which outside ARMING and RUNNING every zone is IDLE, a step's next state is such a state, whatever command
stands in front. -/
def Obligations.HeatersStayLawful : Prop :=
  KeptByStep State.HeaterLaw

/-- [R50] From every state in which each regulator is enabled, its reference at the setpoint, exactly while its rail is
RAMPING or REGULATED (else disabled at 0), and in which RUNNING has every used rail REGULATED, a step's next state is
such a state, whatever command stands in front. -/
def Obligations.RailsStayLawful : Prop :=
  KeptByStep State.RailLaw

/-- [R110, R116, R118, R121, R122] From every state whose vector memory is in canonical form within its 8192 slots, whose
frames are at most 32, with distinct ids, fields in range, at most 8192 slots together and none OPEN but the last, and
whose ends lie in the circle, a step's next state is such a state, whatever command stands in front. The same holds
with the unbroken arc added: the first frame begins at the read end, each later one at the slot after the last slot of
the one before modulo 8192, and the write end is the slot after the last; and with what keeps it: a TAIL only at the
head and in Stream mode, a PLAYING frame only as the current one, a current frame stored, PLAYING or TAIL and in
Stream mode the head, none while the exerciser is IDLE or STARVED, and an exerciser that is not IDLE only in RUNNING. -/
def Obligations.StoreStaysLawful : Prop :=
  KeptByStep State.StoreLaw ∧ KeptByStep State.StoreSound

/-- [R152, R153] From every state whose log holds at most 64 entries, each naming a socket exactly for a socket kind and a
unit exactly for a rail or zone kind, with a dropped count of at most 65535, a step's next state is such a state,
whatever command stands in front. -/
def Obligations.LogStaysLawful : Prop :=
  KeptByStep State.LogLaw

/-- [R146, R147, R12, R127, R137] The bundle of the switch law, the slot timers' law, the play law (the exerciser leaves
IDLE only in a RUNNING dynamic run), the window law (only powered sockets carry mismatches) and the credit law (credit
at most the target, equal to it exactly for a COMPLETED non-VACANT socket; current-run seconds at most the run limit,
below it in a live run) is kept by every step, whatever command stands in front. -/
def Obligations.AccountsStaySound : Prop :=
  KeptByStep State.AccountsSound

/-- [R64, R71, R56] The switch law together with: fault counter and trip counts at most 255, and in ARMING and RUNNING a
retry count at most the retry limit of the run copy, below it for an ISOLATED socket. A step from a state with the
bundle gives one with it, whatever command stands in front. -/
def Obligations.RetriesStaySound : Prop :=
  KeptByStep State.RetriesSound
end

