-- ==== Sys2Proof/Laws/Bank.lean ====
section
/-! SUPPORT. Reading a bank after each way of building it. -/

namespace Sys2Proof

variable {α β : Type} {n : Nat}

@[simp] theorem Bank.get_set_self (b : Bank α n) (i : Fin n) (v : α) : (b.set i v).get i = v := by
  simp [Bank.get, Bank.set]

theorem Bank.get_set_ne (b : Bank α n) {i j : Fin n} (v : α) (h : i ≠ j) : (b.set i v).get j = b.get j := by
  have h' : i.val ≠ j.val := fun e => h (Fin.ext e)
  simp [Bank.get, Bank.set, h']

theorem Bank.get_set (b : Bank α n) (i j : Fin n) (v : α) :
    (b.set i v).get j = if i = j then v else b.get j := by
  by_cases h : i = j
  · subst h; simp
  · simp [Bank.get_set_ne b v h, h]

@[simp] theorem Bank.get_modify_self (b : Bank α n) (i : Fin n) (f : α → α) : (b.modify i f).get i = f (b.get i) := by
  simp [Bank.modify]

theorem Bank.get_modify_ne (b : Bank α n) {i j : Fin n} (f : α → α) (h : i ≠ j) :
    (b.modify i f).get j = b.get j :=
  Bank.get_set_ne b _ h

theorem Bank.get_modify (b : Bank α n) (i j : Fin n) (f : α → α) :
    (b.modify i f).get j = if i = j then f (b.get j) else b.get j := by
  by_cases h : i = j
  · subst h; simp
  · simp [Bank.get_modify_ne b f h, h]

@[simp] theorem Bank.get_ofFn (f : Fin n → α) (i : Fin n) : (Bank.ofFn f).get i = f i := by
  simp [Bank.get, Bank.ofFn]

@[simp] theorem Bank.get_replicate (v : α) (i : Fin n) : (Bank.replicate n v).get i = v := by
  simp [Bank.get, Bank.replicate]

@[simp] theorem Bank.get_map (f : α → β) (b : Bank α n) (i : Fin n) : (b.map f).get i = f (b.get i) := by
  simp [Bank.get, Bank.map]

/-- Two banks are equal when they hold the same things. -/
theorem Bank.ext_get {a b : Bank α n} (h : ∀ i, a.get i = b.get i) : a = b := by
  obtain ⟨l, hl⟩ := a
  obtain ⟨m, hm⟩ := b
  congr 1
  apply List.ext_getElem (hl.trans hm.symm)
  intro k h1 h2
  exact h ⟨k, hl ▸ h1⟩

/-- A thing is in a bank's list when it is at one of its places. -/
theorem Bank.mem_cells (b : Bank α n) (v : α) : v ∈ b.cells ↔ ∃ i, b.get i = v := by
  constructor
  · intro h
    obtain ⟨k, hk, rfl⟩ := List.mem_iff_getElem.mp h
    exact ⟨⟨k, b.size_eq ▸ hk⟩, rfl⟩
  · rintro ⟨i, rfl⟩
    exact List.getElem_mem _

theorem Bank.all_cells (b : Bank α n) (p : α → Bool) : b.cells.all p = true ↔ ∀ i, p (b.get i) = true := by
  rw [List.all_eq_true]
  constructor
  · intro h i
    exact h _ ((b.mem_cells _).mpr ⟨i, rfl⟩)
  · intro h v hv
    obtain ⟨i, rfl⟩ := (b.mem_cells v).mp hv
    exact h i

theorem Bank.any_cells (b : Bank α n) (p : α → Bool) : b.cells.any p = true ↔ ∃ i, p (b.get i) = true := by
  rw [List.any_eq_true]
  constructor
  · rintro ⟨v, hv, hp⟩
    obtain ⟨i, rfl⟩ := (b.mem_cells v).mp hv
    exact ⟨i, hp⟩
  · rintro ⟨i, hp⟩
    exact ⟨_, (b.mem_cells _).mpr ⟨i, rfl⟩, hp⟩

end Sys2Proof
end

