-- ==== Sys2Proof/Laws/State.lean ====
section
/-! SUPPORT. One lemma per block per update: what an update of one block leaves in each. -/

namespace Sys2Proof.Machine

/-! `setSlot` -/

@[simp] theorem State.setSlot_slot (s : State) (x : SlotRec) : (s.setSlot x).slot = x := rfl
@[simp] theorem State.setSlot_ident (s : State) (x : SlotRec) : (s.setSlot x).ident = s.ident := rfl
@[simp] theorem State.setSlot_recipe (s : State) (x : SlotRec) : (s.setSlot x).recipe = s.recipe := rfl
@[simp] theorem State.setSlot_rail (s : State) (x : SlotRec) : (s.setSlot x).rail = s.rail := rfl
@[simp] theorem State.setSlot_sock (s : State) (x : SlotRec) : (s.setSlot x).sock = s.sock := rfl
@[simp] theorem State.setSlot_therm (s : State) (x : SlotRec) : (s.setSlot x).therm = s.therm := rfl
@[simp] theorem State.setSlot_store (s : State) (x : SlotRec) : (s.setSlot x).store = s.store := rfl
@[simp] theorem State.setSlot_exer (s : State) (x : SlotRec) : (s.setSlot x).exer = s.exer := rfl
@[simp] theorem State.setSlot_credit (s : State) (x : SlotRec) : (s.setSlot x).credit = s.credit := rfl
@[simp] theorem State.setSlot_fail (s : State) (x : SlotRec) : (s.setSlot x).fail = s.fail := rfl
@[simp] theorem State.setSlot_notice (s : State) (x : SlotRec) : (s.setSlot x).notice = s.notice := rfl
@[simp] theorem State.setSlot_link (s : State) (x : SlotRec) : (s.setSlot x).link = s.link := rfl
@[simp] theorem State.setSlot_freeCount (s : State) (x : SlotRec) : (s.setSlot x).freeCount = s.freeCount := rfl
@[simp] theorem State.setSlot_pending (s : State) (x : SlotRec) : (s.setSlot x).pending = s.pending := rfl
@[simp] theorem State.setSlot_twice (s : State) (x y : SlotRec) : (s.setSlot x).setSlot y = s.setSlot y := rfl
@[simp] theorem State.setSlot_same (s : State) : s.setSlot s.slot = s := rfl

/-! `setIdent` -/

@[simp] theorem State.setIdent_slot (s : State) (x : IdentRec) : (s.setIdent x).slot = s.slot := rfl
@[simp] theorem State.setIdent_ident (s : State) (x : IdentRec) : (s.setIdent x).ident = x := rfl
@[simp] theorem State.setIdent_recipe (s : State) (x : IdentRec) : (s.setIdent x).recipe = s.recipe := rfl
@[simp] theorem State.setIdent_rail (s : State) (x : IdentRec) : (s.setIdent x).rail = s.rail := rfl
@[simp] theorem State.setIdent_sock (s : State) (x : IdentRec) : (s.setIdent x).sock = s.sock := rfl
@[simp] theorem State.setIdent_therm (s : State) (x : IdentRec) : (s.setIdent x).therm = s.therm := rfl
@[simp] theorem State.setIdent_store (s : State) (x : IdentRec) : (s.setIdent x).store = s.store := rfl
@[simp] theorem State.setIdent_exer (s : State) (x : IdentRec) : (s.setIdent x).exer = s.exer := rfl
@[simp] theorem State.setIdent_credit (s : State) (x : IdentRec) : (s.setIdent x).credit = s.credit := rfl
@[simp] theorem State.setIdent_fail (s : State) (x : IdentRec) : (s.setIdent x).fail = s.fail := rfl
@[simp] theorem State.setIdent_notice (s : State) (x : IdentRec) : (s.setIdent x).notice = s.notice := rfl
@[simp] theorem State.setIdent_link (s : State) (x : IdentRec) : (s.setIdent x).link = s.link := rfl
@[simp] theorem State.setIdent_freeCount (s : State) (x : IdentRec) : (s.setIdent x).freeCount = s.freeCount := rfl
@[simp] theorem State.setIdent_pending (s : State) (x : IdentRec) : (s.setIdent x).pending = s.pending := rfl
@[simp] theorem State.setIdent_twice (s : State) (x y : IdentRec) : (s.setIdent x).setIdent y = s.setIdent y := rfl
@[simp] theorem State.setIdent_same (s : State) : s.setIdent s.ident = s := rfl

/-! `setRecipe` -/

@[simp] theorem State.setRecipe_slot (s : State) (x : Recipe) : (s.setRecipe x).slot = s.slot := rfl
@[simp] theorem State.setRecipe_ident (s : State) (x : Recipe) : (s.setRecipe x).ident = s.ident := rfl
@[simp] theorem State.setRecipe_recipe (s : State) (x : Recipe) : (s.setRecipe x).recipe = x := rfl
@[simp] theorem State.setRecipe_rail (s : State) (x : Recipe) : (s.setRecipe x).rail = s.rail := rfl
@[simp] theorem State.setRecipe_sock (s : State) (x : Recipe) : (s.setRecipe x).sock = s.sock := rfl
@[simp] theorem State.setRecipe_therm (s : State) (x : Recipe) : (s.setRecipe x).therm = s.therm := rfl
@[simp] theorem State.setRecipe_store (s : State) (x : Recipe) : (s.setRecipe x).store = s.store := rfl
@[simp] theorem State.setRecipe_exer (s : State) (x : Recipe) : (s.setRecipe x).exer = s.exer := rfl
@[simp] theorem State.setRecipe_credit (s : State) (x : Recipe) : (s.setRecipe x).credit = s.credit := rfl
@[simp] theorem State.setRecipe_fail (s : State) (x : Recipe) : (s.setRecipe x).fail = s.fail := rfl
@[simp] theorem State.setRecipe_notice (s : State) (x : Recipe) : (s.setRecipe x).notice = s.notice := rfl
@[simp] theorem State.setRecipe_link (s : State) (x : Recipe) : (s.setRecipe x).link = s.link := rfl
@[simp] theorem State.setRecipe_freeCount (s : State) (x : Recipe) : (s.setRecipe x).freeCount = s.freeCount := rfl
@[simp] theorem State.setRecipe_pending (s : State) (x : Recipe) : (s.setRecipe x).pending = s.pending := rfl
@[simp] theorem State.setRecipe_twice (s : State) (x y : Recipe) : (s.setRecipe x).setRecipe y = s.setRecipe y := rfl
@[simp] theorem State.setRecipe_same (s : State) : s.setRecipe s.recipe = s := rfl

/-! `setRail` -/

@[simp] theorem State.setRail_slot (s : State) (x : RailCtl) : (s.setRail x).slot = s.slot := rfl
@[simp] theorem State.setRail_ident (s : State) (x : RailCtl) : (s.setRail x).ident = s.ident := rfl
@[simp] theorem State.setRail_recipe (s : State) (x : RailCtl) : (s.setRail x).recipe = s.recipe := rfl
@[simp] theorem State.setRail_rail (s : State) (x : RailCtl) : (s.setRail x).rail = x := rfl
@[simp] theorem State.setRail_sock (s : State) (x : RailCtl) : (s.setRail x).sock = s.sock := rfl
@[simp] theorem State.setRail_therm (s : State) (x : RailCtl) : (s.setRail x).therm = s.therm := rfl
@[simp] theorem State.setRail_store (s : State) (x : RailCtl) : (s.setRail x).store = s.store := rfl
@[simp] theorem State.setRail_exer (s : State) (x : RailCtl) : (s.setRail x).exer = s.exer := rfl
@[simp] theorem State.setRail_credit (s : State) (x : RailCtl) : (s.setRail x).credit = s.credit := rfl
@[simp] theorem State.setRail_fail (s : State) (x : RailCtl) : (s.setRail x).fail = s.fail := rfl
@[simp] theorem State.setRail_notice (s : State) (x : RailCtl) : (s.setRail x).notice = s.notice := rfl
@[simp] theorem State.setRail_link (s : State) (x : RailCtl) : (s.setRail x).link = s.link := rfl
@[simp] theorem State.setRail_freeCount (s : State) (x : RailCtl) : (s.setRail x).freeCount = s.freeCount := rfl
@[simp] theorem State.setRail_pending (s : State) (x : RailCtl) : (s.setRail x).pending = s.pending := rfl
@[simp] theorem State.setRail_twice (s : State) (x y : RailCtl) : (s.setRail x).setRail y = s.setRail y := rfl
@[simp] theorem State.setRail_same (s : State) : s.setRail s.rail = s := rfl

/-! `setSock` -/

@[simp] theorem State.setSock_slot (s : State) (x : Supervisor) : (s.setSock x).slot = s.slot := rfl
@[simp] theorem State.setSock_ident (s : State) (x : Supervisor) : (s.setSock x).ident = s.ident := rfl
@[simp] theorem State.setSock_recipe (s : State) (x : Supervisor) : (s.setSock x).recipe = s.recipe := rfl
@[simp] theorem State.setSock_rail (s : State) (x : Supervisor) : (s.setSock x).rail = s.rail := rfl
@[simp] theorem State.setSock_sock (s : State) (x : Supervisor) : (s.setSock x).sock = x := rfl
@[simp] theorem State.setSock_therm (s : State) (x : Supervisor) : (s.setSock x).therm = s.therm := rfl
@[simp] theorem State.setSock_store (s : State) (x : Supervisor) : (s.setSock x).store = s.store := rfl
@[simp] theorem State.setSock_exer (s : State) (x : Supervisor) : (s.setSock x).exer = s.exer := rfl
@[simp] theorem State.setSock_credit (s : State) (x : Supervisor) : (s.setSock x).credit = s.credit := rfl
@[simp] theorem State.setSock_fail (s : State) (x : Supervisor) : (s.setSock x).fail = s.fail := rfl
@[simp] theorem State.setSock_notice (s : State) (x : Supervisor) : (s.setSock x).notice = s.notice := rfl
@[simp] theorem State.setSock_link (s : State) (x : Supervisor) : (s.setSock x).link = s.link := rfl
@[simp] theorem State.setSock_freeCount (s : State) (x : Supervisor) : (s.setSock x).freeCount = s.freeCount := rfl
@[simp] theorem State.setSock_pending (s : State) (x : Supervisor) : (s.setSock x).pending = s.pending := rfl
@[simp] theorem State.setSock_twice (s : State) (x y : Supervisor) : (s.setSock x).setSock y = s.setSock y := rfl
@[simp] theorem State.setSock_same (s : State) : s.setSock s.sock = s := rfl

/-! `setTherm` -/

@[simp] theorem State.setTherm_slot (s : State) (x : Thermal) : (s.setTherm x).slot = s.slot := rfl
@[simp] theorem State.setTherm_ident (s : State) (x : Thermal) : (s.setTherm x).ident = s.ident := rfl
@[simp] theorem State.setTherm_recipe (s : State) (x : Thermal) : (s.setTherm x).recipe = s.recipe := rfl
@[simp] theorem State.setTherm_rail (s : State) (x : Thermal) : (s.setTherm x).rail = s.rail := rfl
@[simp] theorem State.setTherm_sock (s : State) (x : Thermal) : (s.setTherm x).sock = s.sock := rfl
@[simp] theorem State.setTherm_therm (s : State) (x : Thermal) : (s.setTherm x).therm = x := rfl
@[simp] theorem State.setTherm_store (s : State) (x : Thermal) : (s.setTherm x).store = s.store := rfl
@[simp] theorem State.setTherm_exer (s : State) (x : Thermal) : (s.setTherm x).exer = s.exer := rfl
@[simp] theorem State.setTherm_credit (s : State) (x : Thermal) : (s.setTherm x).credit = s.credit := rfl
@[simp] theorem State.setTherm_fail (s : State) (x : Thermal) : (s.setTherm x).fail = s.fail := rfl
@[simp] theorem State.setTherm_notice (s : State) (x : Thermal) : (s.setTherm x).notice = s.notice := rfl
@[simp] theorem State.setTherm_link (s : State) (x : Thermal) : (s.setTherm x).link = s.link := rfl
@[simp] theorem State.setTherm_freeCount (s : State) (x : Thermal) : (s.setTherm x).freeCount = s.freeCount := rfl
@[simp] theorem State.setTherm_pending (s : State) (x : Thermal) : (s.setTherm x).pending = s.pending := rfl
@[simp] theorem State.setTherm_twice (s : State) (x y : Thermal) : (s.setTherm x).setTherm y = s.setTherm y := rfl
@[simp] theorem State.setTherm_same (s : State) : s.setTherm s.therm = s := rfl

/-! `setStore` -/

@[simp] theorem State.setStore_slot (s : State) (x : Store) : (s.setStore x).slot = s.slot := rfl
@[simp] theorem State.setStore_ident (s : State) (x : Store) : (s.setStore x).ident = s.ident := rfl
@[simp] theorem State.setStore_recipe (s : State) (x : Store) : (s.setStore x).recipe = s.recipe := rfl
@[simp] theorem State.setStore_rail (s : State) (x : Store) : (s.setStore x).rail = s.rail := rfl
@[simp] theorem State.setStore_sock (s : State) (x : Store) : (s.setStore x).sock = s.sock := rfl
@[simp] theorem State.setStore_therm (s : State) (x : Store) : (s.setStore x).therm = s.therm := rfl
@[simp] theorem State.setStore_store (s : State) (x : Store) : (s.setStore x).store = x := rfl
@[simp] theorem State.setStore_exer (s : State) (x : Store) : (s.setStore x).exer = s.exer := rfl
@[simp] theorem State.setStore_credit (s : State) (x : Store) : (s.setStore x).credit = s.credit := rfl
@[simp] theorem State.setStore_fail (s : State) (x : Store) : (s.setStore x).fail = s.fail := rfl
@[simp] theorem State.setStore_notice (s : State) (x : Store) : (s.setStore x).notice = s.notice := rfl
@[simp] theorem State.setStore_link (s : State) (x : Store) : (s.setStore x).link = s.link := rfl
@[simp] theorem State.setStore_freeCount (s : State) (x : Store) : (s.setStore x).freeCount = s.freeCount := rfl
@[simp] theorem State.setStore_pending (s : State) (x : Store) : (s.setStore x).pending = s.pending := rfl
@[simp] theorem State.setStore_twice (s : State) (x y : Store) : (s.setStore x).setStore y = s.setStore y := rfl
@[simp] theorem State.setStore_same (s : State) : s.setStore s.store = s := rfl

/-! `setExer` -/

@[simp] theorem State.setExer_slot (s : State) (x : Exerciser) : (s.setExer x).slot = s.slot := rfl
@[simp] theorem State.setExer_ident (s : State) (x : Exerciser) : (s.setExer x).ident = s.ident := rfl
@[simp] theorem State.setExer_recipe (s : State) (x : Exerciser) : (s.setExer x).recipe = s.recipe := rfl
@[simp] theorem State.setExer_rail (s : State) (x : Exerciser) : (s.setExer x).rail = s.rail := rfl
@[simp] theorem State.setExer_sock (s : State) (x : Exerciser) : (s.setExer x).sock = s.sock := rfl
@[simp] theorem State.setExer_therm (s : State) (x : Exerciser) : (s.setExer x).therm = s.therm := rfl
@[simp] theorem State.setExer_store (s : State) (x : Exerciser) : (s.setExer x).store = s.store := rfl
@[simp] theorem State.setExer_exer (s : State) (x : Exerciser) : (s.setExer x).exer = x := rfl
@[simp] theorem State.setExer_credit (s : State) (x : Exerciser) : (s.setExer x).credit = s.credit := rfl
@[simp] theorem State.setExer_fail (s : State) (x : Exerciser) : (s.setExer x).fail = s.fail := rfl
@[simp] theorem State.setExer_notice (s : State) (x : Exerciser) : (s.setExer x).notice = s.notice := rfl
@[simp] theorem State.setExer_link (s : State) (x : Exerciser) : (s.setExer x).link = s.link := rfl
@[simp] theorem State.setExer_freeCount (s : State) (x : Exerciser) : (s.setExer x).freeCount = s.freeCount := rfl
@[simp] theorem State.setExer_pending (s : State) (x : Exerciser) : (s.setExer x).pending = s.pending := rfl
@[simp] theorem State.setExer_twice (s : State) (x y : Exerciser) : (s.setExer x).setExer y = s.setExer y := rfl
@[simp] theorem State.setExer_same (s : State) : s.setExer s.exer = s := rfl

/-! `setCredit` -/

@[simp] theorem State.setCredit_slot (s : State) (x : CreditUnit) : (s.setCredit x).slot = s.slot := rfl
@[simp] theorem State.setCredit_ident (s : State) (x : CreditUnit) : (s.setCredit x).ident = s.ident := rfl
@[simp] theorem State.setCredit_recipe (s : State) (x : CreditUnit) : (s.setCredit x).recipe = s.recipe := rfl
@[simp] theorem State.setCredit_rail (s : State) (x : CreditUnit) : (s.setCredit x).rail = s.rail := rfl
@[simp] theorem State.setCredit_sock (s : State) (x : CreditUnit) : (s.setCredit x).sock = s.sock := rfl
@[simp] theorem State.setCredit_therm (s : State) (x : CreditUnit) : (s.setCredit x).therm = s.therm := rfl
@[simp] theorem State.setCredit_store (s : State) (x : CreditUnit) : (s.setCredit x).store = s.store := rfl
@[simp] theorem State.setCredit_exer (s : State) (x : CreditUnit) : (s.setCredit x).exer = s.exer := rfl
@[simp] theorem State.setCredit_credit (s : State) (x : CreditUnit) : (s.setCredit x).credit = x := rfl
@[simp] theorem State.setCredit_fail (s : State) (x : CreditUnit) : (s.setCredit x).fail = s.fail := rfl
@[simp] theorem State.setCredit_notice (s : State) (x : CreditUnit) : (s.setCredit x).notice = s.notice := rfl
@[simp] theorem State.setCredit_link (s : State) (x : CreditUnit) : (s.setCredit x).link = s.link := rfl
@[simp] theorem State.setCredit_freeCount (s : State) (x : CreditUnit) : (s.setCredit x).freeCount = s.freeCount := rfl
@[simp] theorem State.setCredit_pending (s : State) (x : CreditUnit) : (s.setCredit x).pending = s.pending := rfl
@[simp] theorem State.setCredit_twice (s : State) (x y : CreditUnit) : (s.setCredit x).setCredit y = s.setCredit y := rfl
@[simp] theorem State.setCredit_same (s : State) : s.setCredit s.credit = s := rfl

/-! `setFail` -/

@[simp] theorem State.setFail_slot (s : State) (x : Recorder) : (s.setFail x).slot = s.slot := rfl
@[simp] theorem State.setFail_ident (s : State) (x : Recorder) : (s.setFail x).ident = s.ident := rfl
@[simp] theorem State.setFail_recipe (s : State) (x : Recorder) : (s.setFail x).recipe = s.recipe := rfl
@[simp] theorem State.setFail_rail (s : State) (x : Recorder) : (s.setFail x).rail = s.rail := rfl
@[simp] theorem State.setFail_sock (s : State) (x : Recorder) : (s.setFail x).sock = s.sock := rfl
@[simp] theorem State.setFail_therm (s : State) (x : Recorder) : (s.setFail x).therm = s.therm := rfl
@[simp] theorem State.setFail_store (s : State) (x : Recorder) : (s.setFail x).store = s.store := rfl
@[simp] theorem State.setFail_exer (s : State) (x : Recorder) : (s.setFail x).exer = s.exer := rfl
@[simp] theorem State.setFail_credit (s : State) (x : Recorder) : (s.setFail x).credit = s.credit := rfl
@[simp] theorem State.setFail_fail (s : State) (x : Recorder) : (s.setFail x).fail = x := rfl
@[simp] theorem State.setFail_notice (s : State) (x : Recorder) : (s.setFail x).notice = s.notice := rfl
@[simp] theorem State.setFail_link (s : State) (x : Recorder) : (s.setFail x).link = s.link := rfl
@[simp] theorem State.setFail_freeCount (s : State) (x : Recorder) : (s.setFail x).freeCount = s.freeCount := rfl
@[simp] theorem State.setFail_pending (s : State) (x : Recorder) : (s.setFail x).pending = s.pending := rfl
@[simp] theorem State.setFail_twice (s : State) (x y : Recorder) : (s.setFail x).setFail y = s.setFail y := rfl
@[simp] theorem State.setFail_same (s : State) : s.setFail s.fail = s := rfl

/-! `setNotice` -/

@[simp] theorem State.setNotice_slot (s : State) (x : Notices) : (s.setNotice x).slot = s.slot := rfl
@[simp] theorem State.setNotice_ident (s : State) (x : Notices) : (s.setNotice x).ident = s.ident := rfl
@[simp] theorem State.setNotice_recipe (s : State) (x : Notices) : (s.setNotice x).recipe = s.recipe := rfl
@[simp] theorem State.setNotice_rail (s : State) (x : Notices) : (s.setNotice x).rail = s.rail := rfl
@[simp] theorem State.setNotice_sock (s : State) (x : Notices) : (s.setNotice x).sock = s.sock := rfl
@[simp] theorem State.setNotice_therm (s : State) (x : Notices) : (s.setNotice x).therm = s.therm := rfl
@[simp] theorem State.setNotice_store (s : State) (x : Notices) : (s.setNotice x).store = s.store := rfl
@[simp] theorem State.setNotice_exer (s : State) (x : Notices) : (s.setNotice x).exer = s.exer := rfl
@[simp] theorem State.setNotice_credit (s : State) (x : Notices) : (s.setNotice x).credit = s.credit := rfl
@[simp] theorem State.setNotice_fail (s : State) (x : Notices) : (s.setNotice x).fail = s.fail := rfl
@[simp] theorem State.setNotice_notice (s : State) (x : Notices) : (s.setNotice x).notice = x := rfl
@[simp] theorem State.setNotice_link (s : State) (x : Notices) : (s.setNotice x).link = s.link := rfl
@[simp] theorem State.setNotice_freeCount (s : State) (x : Notices) : (s.setNotice x).freeCount = s.freeCount := rfl
@[simp] theorem State.setNotice_pending (s : State) (x : Notices) : (s.setNotice x).pending = s.pending := rfl
@[simp] theorem State.setNotice_twice (s : State) (x y : Notices) : (s.setNotice x).setNotice y = s.setNotice y := rfl
@[simp] theorem State.setNotice_same (s : State) : s.setNotice s.notice = s := rfl

/-! `setLink` -/

@[simp] theorem State.setLink_slot (s : State) (x : Link) : (s.setLink x).slot = s.slot := rfl
@[simp] theorem State.setLink_ident (s : State) (x : Link) : (s.setLink x).ident = s.ident := rfl
@[simp] theorem State.setLink_recipe (s : State) (x : Link) : (s.setLink x).recipe = s.recipe := rfl
@[simp] theorem State.setLink_rail (s : State) (x : Link) : (s.setLink x).rail = s.rail := rfl
@[simp] theorem State.setLink_sock (s : State) (x : Link) : (s.setLink x).sock = s.sock := rfl
@[simp] theorem State.setLink_therm (s : State) (x : Link) : (s.setLink x).therm = s.therm := rfl
@[simp] theorem State.setLink_store (s : State) (x : Link) : (s.setLink x).store = s.store := rfl
@[simp] theorem State.setLink_exer (s : State) (x : Link) : (s.setLink x).exer = s.exer := rfl
@[simp] theorem State.setLink_credit (s : State) (x : Link) : (s.setLink x).credit = s.credit := rfl
@[simp] theorem State.setLink_fail (s : State) (x : Link) : (s.setLink x).fail = s.fail := rfl
@[simp] theorem State.setLink_notice (s : State) (x : Link) : (s.setLink x).notice = s.notice := rfl
@[simp] theorem State.setLink_link (s : State) (x : Link) : (s.setLink x).link = x := rfl
@[simp] theorem State.setLink_freeCount (s : State) (x : Link) : (s.setLink x).freeCount = s.freeCount := rfl
@[simp] theorem State.setLink_pending (s : State) (x : Link) : (s.setLink x).pending = s.pending := rfl
@[simp] theorem State.setLink_twice (s : State) (x y : Link) : (s.setLink x).setLink y = s.setLink y := rfl
@[simp] theorem State.setLink_same (s : State) : s.setLink s.link = s := rfl

/-! `setFreeCount` -/

@[simp] theorem State.setFreeCount_slot (s : State) (x : Nat) : (s.setFreeCount x).slot = s.slot := rfl
@[simp] theorem State.setFreeCount_ident (s : State) (x : Nat) : (s.setFreeCount x).ident = s.ident := rfl
@[simp] theorem State.setFreeCount_recipe (s : State) (x : Nat) : (s.setFreeCount x).recipe = s.recipe := rfl
@[simp] theorem State.setFreeCount_rail (s : State) (x : Nat) : (s.setFreeCount x).rail = s.rail := rfl
@[simp] theorem State.setFreeCount_sock (s : State) (x : Nat) : (s.setFreeCount x).sock = s.sock := rfl
@[simp] theorem State.setFreeCount_therm (s : State) (x : Nat) : (s.setFreeCount x).therm = s.therm := rfl
@[simp] theorem State.setFreeCount_store (s : State) (x : Nat) : (s.setFreeCount x).store = s.store := rfl
@[simp] theorem State.setFreeCount_exer (s : State) (x : Nat) : (s.setFreeCount x).exer = s.exer := rfl
@[simp] theorem State.setFreeCount_credit (s : State) (x : Nat) : (s.setFreeCount x).credit = s.credit := rfl
@[simp] theorem State.setFreeCount_fail (s : State) (x : Nat) : (s.setFreeCount x).fail = s.fail := rfl
@[simp] theorem State.setFreeCount_notice (s : State) (x : Nat) : (s.setFreeCount x).notice = s.notice := rfl
@[simp] theorem State.setFreeCount_link (s : State) (x : Nat) : (s.setFreeCount x).link = s.link := rfl
@[simp] theorem State.setFreeCount_freeCount (s : State) (x : Nat) : (s.setFreeCount x).freeCount = x := rfl
@[simp] theorem State.setFreeCount_pending (s : State) (x : Nat) : (s.setFreeCount x).pending = s.pending := rfl
@[simp] theorem State.setFreeCount_twice (s : State) (x y : Nat) : (s.setFreeCount x).setFreeCount y = s.setFreeCount y := rfl
@[simp] theorem State.setFreeCount_same (s : State) : s.setFreeCount s.freeCount = s := rfl

/-! `setPending` -/

@[simp] theorem State.setPending_slot (s : State) (x : List Instr) : (s.setPending x).slot = s.slot := rfl
@[simp] theorem State.setPending_ident (s : State) (x : List Instr) : (s.setPending x).ident = s.ident := rfl
@[simp] theorem State.setPending_recipe (s : State) (x : List Instr) : (s.setPending x).recipe = s.recipe := rfl
@[simp] theorem State.setPending_rail (s : State) (x : List Instr) : (s.setPending x).rail = s.rail := rfl
@[simp] theorem State.setPending_sock (s : State) (x : List Instr) : (s.setPending x).sock = s.sock := rfl
@[simp] theorem State.setPending_therm (s : State) (x : List Instr) : (s.setPending x).therm = s.therm := rfl
@[simp] theorem State.setPending_store (s : State) (x : List Instr) : (s.setPending x).store = s.store := rfl
@[simp] theorem State.setPending_exer (s : State) (x : List Instr) : (s.setPending x).exer = s.exer := rfl
@[simp] theorem State.setPending_credit (s : State) (x : List Instr) : (s.setPending x).credit = s.credit := rfl
@[simp] theorem State.setPending_fail (s : State) (x : List Instr) : (s.setPending x).fail = s.fail := rfl
@[simp] theorem State.setPending_notice (s : State) (x : List Instr) : (s.setPending x).notice = s.notice := rfl
@[simp] theorem State.setPending_link (s : State) (x : List Instr) : (s.setPending x).link = s.link := rfl
@[simp] theorem State.setPending_freeCount (s : State) (x : List Instr) : (s.setPending x).freeCount = s.freeCount := rfl
@[simp] theorem State.setPending_pending (s : State) (x : List Instr) : (s.setPending x).pending = x := rfl
@[simp] theorem State.setPending_twice (s : State) (x y : List Instr) : (s.setPending x).setPending y = s.setPending y := rfl
@[simp] theorem State.setPending_same (s : State) : s.setPending s.pending = s := rfl

end Sys2Proof.Machine
end

