-- ==== Sys2Proof/Laws/Frames.lean ====
section
/-! SUPPORT. The frame of each shared operation: the blocks it leaves as they were. -/

namespace Sys2Proof.Machine

/-- What every turn of a fold leaves alone, the fold leaves alone. -/
theorem foldl_frame {α β γ : Type} (g : α → γ) (f : α → β → α) (h : ∀ a b, g (f a b) = g a) (l : List β) (a : α) :
    g (l.foldl f a) = g a := by
  induction l generalizing a with
  | nil => rfl
  | cons b rest ih => rw [List.foldl_cons, ih, h]

/-! `notify` -/

@[simp] theorem State.notify_slot (s : State) (c : Fin 12) (x : Source) : (s.notify c x).slot = s.slot := rfl
@[simp] theorem State.notify_ident (s : State) (c : Fin 12) (x : Source) : (s.notify c x).ident = s.ident := rfl
@[simp] theorem State.notify_recipe (s : State) (c : Fin 12) (x : Source) : (s.notify c x).recipe = s.recipe := rfl
@[simp] theorem State.notify_rail (s : State) (c : Fin 12) (x : Source) : (s.notify c x).rail = s.rail := rfl
@[simp] theorem State.notify_sock (s : State) (c : Fin 12) (x : Source) : (s.notify c x).sock = s.sock := rfl
@[simp] theorem State.notify_therm (s : State) (c : Fin 12) (x : Source) : (s.notify c x).therm = s.therm := rfl
@[simp] theorem State.notify_store (s : State) (c : Fin 12) (x : Source) : (s.notify c x).store = s.store := rfl
@[simp] theorem State.notify_exer (s : State) (c : Fin 12) (x : Source) : (s.notify c x).exer = s.exer := rfl
@[simp] theorem State.notify_credit (s : State) (c : Fin 12) (x : Source) : (s.notify c x).credit = s.credit := rfl
@[simp] theorem State.notify_fail (s : State) (c : Fin 12) (x : Source) : (s.notify c x).fail = s.fail := rfl
@[simp] theorem State.notify_link (s : State) (c : Fin 12) (x : Source) : (s.notify c x).link = s.link := rfl
@[simp] theorem State.notify_freeCount (s : State) (c : Fin 12) (x : Source) : (s.notify c x).freeCount = s.freeCount := rfl
@[simp] theorem State.notify_pending (s : State) (c : Fin 12) (x : Source) : (s.notify c x).pending = s.pending := rfl

/-! `notifySocket` -/

@[simp] theorem State.notifySocket_slot (s : State) (x : Source) (k : Fin 48) : (s.notifySocket x k).slot = s.slot := rfl
@[simp] theorem State.notifySocket_ident (s : State) (x : Source) (k : Fin 48) : (s.notifySocket x k).ident = s.ident := rfl
@[simp] theorem State.notifySocket_recipe (s : State) (x : Source) (k : Fin 48) : (s.notifySocket x k).recipe = s.recipe := rfl
@[simp] theorem State.notifySocket_rail (s : State) (x : Source) (k : Fin 48) : (s.notifySocket x k).rail = s.rail := rfl
@[simp] theorem State.notifySocket_sock (s : State) (x : Source) (k : Fin 48) : (s.notifySocket x k).sock = s.sock := rfl
@[simp] theorem State.notifySocket_therm (s : State) (x : Source) (k : Fin 48) : (s.notifySocket x k).therm = s.therm := rfl
@[simp] theorem State.notifySocket_store (s : State) (x : Source) (k : Fin 48) : (s.notifySocket x k).store = s.store := rfl
@[simp] theorem State.notifySocket_exer (s : State) (x : Source) (k : Fin 48) : (s.notifySocket x k).exer = s.exer := rfl
@[simp] theorem State.notifySocket_credit (s : State) (x : Source) (k : Fin 48) : (s.notifySocket x k).credit = s.credit := rfl
@[simp] theorem State.notifySocket_fail (s : State) (x : Source) (k : Fin 48) : (s.notifySocket x k).fail = s.fail := rfl
@[simp] theorem State.notifySocket_link (s : State) (x : Source) (k : Fin 48) : (s.notifySocket x k).link = s.link := rfl
@[simp] theorem State.notifySocket_freeCount (s : State) (x : Source) (k : Fin 48) : (s.notifySocket x k).freeCount = s.freeCount := rfl
@[simp] theorem State.notifySocket_pending (s : State) (x : Source) (k : Fin 48) : (s.notifySocket x k).pending = s.pending := rfl

/-! `notifyRail` -/

@[simp] theorem State.notifyRail_slot (s : State) (x : Source) (r : Fin 4) : (s.notifyRail x r).slot = s.slot := rfl
@[simp] theorem State.notifyRail_ident (s : State) (x : Source) (r : Fin 4) : (s.notifyRail x r).ident = s.ident := rfl
@[simp] theorem State.notifyRail_recipe (s : State) (x : Source) (r : Fin 4) : (s.notifyRail x r).recipe = s.recipe := rfl
@[simp] theorem State.notifyRail_rail (s : State) (x : Source) (r : Fin 4) : (s.notifyRail x r).rail = s.rail := rfl
@[simp] theorem State.notifyRail_sock (s : State) (x : Source) (r : Fin 4) : (s.notifyRail x r).sock = s.sock := rfl
@[simp] theorem State.notifyRail_therm (s : State) (x : Source) (r : Fin 4) : (s.notifyRail x r).therm = s.therm := rfl
@[simp] theorem State.notifyRail_store (s : State) (x : Source) (r : Fin 4) : (s.notifyRail x r).store = s.store := rfl
@[simp] theorem State.notifyRail_exer (s : State) (x : Source) (r : Fin 4) : (s.notifyRail x r).exer = s.exer := rfl
@[simp] theorem State.notifyRail_credit (s : State) (x : Source) (r : Fin 4) : (s.notifyRail x r).credit = s.credit := rfl
@[simp] theorem State.notifyRail_fail (s : State) (x : Source) (r : Fin 4) : (s.notifyRail x r).fail = s.fail := rfl
@[simp] theorem State.notifyRail_link (s : State) (x : Source) (r : Fin 4) : (s.notifyRail x r).link = s.link := rfl
@[simp] theorem State.notifyRail_freeCount (s : State) (x : Source) (r : Fin 4) : (s.notifyRail x r).freeCount = s.freeCount := rfl
@[simp] theorem State.notifyRail_pending (s : State) (x : Source) (r : Fin 4) : (s.notifyRail x r).pending = s.pending := rfl

/-! `notifyZone` -/

@[simp] theorem State.notifyZone_slot (s : State) (x : Source) (z : Fin 6) : (s.notifyZone x z).slot = s.slot := rfl
@[simp] theorem State.notifyZone_ident (s : State) (x : Source) (z : Fin 6) : (s.notifyZone x z).ident = s.ident := rfl
@[simp] theorem State.notifyZone_recipe (s : State) (x : Source) (z : Fin 6) : (s.notifyZone x z).recipe = s.recipe := rfl
@[simp] theorem State.notifyZone_rail (s : State) (x : Source) (z : Fin 6) : (s.notifyZone x z).rail = s.rail := rfl
@[simp] theorem State.notifyZone_sock (s : State) (x : Source) (z : Fin 6) : (s.notifyZone x z).sock = s.sock := rfl
@[simp] theorem State.notifyZone_therm (s : State) (x : Source) (z : Fin 6) : (s.notifyZone x z).therm = s.therm := rfl
@[simp] theorem State.notifyZone_store (s : State) (x : Source) (z : Fin 6) : (s.notifyZone x z).store = s.store := rfl
@[simp] theorem State.notifyZone_exer (s : State) (x : Source) (z : Fin 6) : (s.notifyZone x z).exer = s.exer := rfl
@[simp] theorem State.notifyZone_credit (s : State) (x : Source) (z : Fin 6) : (s.notifyZone x z).credit = s.credit := rfl
@[simp] theorem State.notifyZone_fail (s : State) (x : Source) (z : Fin 6) : (s.notifyZone x z).fail = s.fail := rfl
@[simp] theorem State.notifyZone_link (s : State) (x : Source) (z : Fin 6) : (s.notifyZone x z).link = s.link := rfl
@[simp] theorem State.notifyZone_freeCount (s : State) (x : Source) (z : Fin 6) : (s.notifyZone x z).freeCount = s.freeCount := rfl
@[simp] theorem State.notifyZone_pending (s : State) (x : Source) (z : Fin 6) : (s.notifyZone x z).pending = s.pending := rfl

/-! `logFailure` -/

@[simp] theorem State.logFailure_slot (s : State) (x : FailureKind) (k : Option (Fin 48)) (u : Option Nat) (d : Word16) : (s.logFailure x k u d).slot = s.slot := by
  unfold State.logFailure
  dsimp only
  repeat' split
  all_goals rfl
@[simp] theorem State.logFailure_ident (s : State) (x : FailureKind) (k : Option (Fin 48)) (u : Option Nat) (d : Word16) : (s.logFailure x k u d).ident = s.ident := by
  unfold State.logFailure
  dsimp only
  repeat' split
  all_goals rfl
@[simp] theorem State.logFailure_recipe (s : State) (x : FailureKind) (k : Option (Fin 48)) (u : Option Nat) (d : Word16) : (s.logFailure x k u d).recipe = s.recipe := by
  unfold State.logFailure
  dsimp only
  repeat' split
  all_goals rfl
@[simp] theorem State.logFailure_rail (s : State) (x : FailureKind) (k : Option (Fin 48)) (u : Option Nat) (d : Word16) : (s.logFailure x k u d).rail = s.rail := by
  unfold State.logFailure
  dsimp only
  repeat' split
  all_goals rfl
@[simp] theorem State.logFailure_sock (s : State) (x : FailureKind) (k : Option (Fin 48)) (u : Option Nat) (d : Word16) : (s.logFailure x k u d).sock = s.sock := by
  unfold State.logFailure
  dsimp only
  repeat' split
  all_goals rfl
@[simp] theorem State.logFailure_therm (s : State) (x : FailureKind) (k : Option (Fin 48)) (u : Option Nat) (d : Word16) : (s.logFailure x k u d).therm = s.therm := by
  unfold State.logFailure
  dsimp only
  repeat' split
  all_goals rfl
@[simp] theorem State.logFailure_store (s : State) (x : FailureKind) (k : Option (Fin 48)) (u : Option Nat) (d : Word16) : (s.logFailure x k u d).store = s.store := by
  unfold State.logFailure
  dsimp only
  repeat' split
  all_goals rfl
@[simp] theorem State.logFailure_exer (s : State) (x : FailureKind) (k : Option (Fin 48)) (u : Option Nat) (d : Word16) : (s.logFailure x k u d).exer = s.exer := by
  unfold State.logFailure
  dsimp only
  repeat' split
  all_goals rfl
@[simp] theorem State.logFailure_credit (s : State) (x : FailureKind) (k : Option (Fin 48)) (u : Option Nat) (d : Word16) : (s.logFailure x k u d).credit = s.credit := by
  unfold State.logFailure
  dsimp only
  repeat' split
  all_goals rfl
@[simp] theorem State.logFailure_link (s : State) (x : FailureKind) (k : Option (Fin 48)) (u : Option Nat) (d : Word16) : (s.logFailure x k u d).link = s.link := by
  unfold State.logFailure
  dsimp only
  repeat' split
  all_goals rfl
@[simp] theorem State.logFailure_freeCount (s : State) (x : FailureKind) (k : Option (Fin 48)) (u : Option Nat) (d : Word16) : (s.logFailure x k u d).freeCount = s.freeCount := by
  unfold State.logFailure
  dsimp only
  repeat' split
  all_goals rfl
@[simp] theorem State.logFailure_pending (s : State) (x : FailureKind) (k : Option (Fin 48)) (u : Option Nat) (d : Word16) : (s.logFailure x k u d).pending = s.pending := by
  unfold State.logFailure
  dsimp only
  repeat' split
  all_goals rfl

/-! `modSocket` -/

@[simp] theorem State.modSocket_slot (s : State) (k : Fin 48) (f : SocketRec → SocketRec) : (s.modSocket k f).slot = s.slot := rfl
@[simp] theorem State.modSocket_ident (s : State) (k : Fin 48) (f : SocketRec → SocketRec) : (s.modSocket k f).ident = s.ident := rfl
@[simp] theorem State.modSocket_recipe (s : State) (k : Fin 48) (f : SocketRec → SocketRec) : (s.modSocket k f).recipe = s.recipe := rfl
@[simp] theorem State.modSocket_rail (s : State) (k : Fin 48) (f : SocketRec → SocketRec) : (s.modSocket k f).rail = s.rail := rfl
@[simp] theorem State.modSocket_therm (s : State) (k : Fin 48) (f : SocketRec → SocketRec) : (s.modSocket k f).therm = s.therm := rfl
@[simp] theorem State.modSocket_store (s : State) (k : Fin 48) (f : SocketRec → SocketRec) : (s.modSocket k f).store = s.store := rfl
@[simp] theorem State.modSocket_exer (s : State) (k : Fin 48) (f : SocketRec → SocketRec) : (s.modSocket k f).exer = s.exer := rfl
@[simp] theorem State.modSocket_credit (s : State) (k : Fin 48) (f : SocketRec → SocketRec) : (s.modSocket k f).credit = s.credit := rfl
@[simp] theorem State.modSocket_fail (s : State) (k : Fin 48) (f : SocketRec → SocketRec) : (s.modSocket k f).fail = s.fail := rfl
@[simp] theorem State.modSocket_notice (s : State) (k : Fin 48) (f : SocketRec → SocketRec) : (s.modSocket k f).notice = s.notice := rfl
@[simp] theorem State.modSocket_link (s : State) (k : Fin 48) (f : SocketRec → SocketRec) : (s.modSocket k f).link = s.link := rfl
@[simp] theorem State.modSocket_freeCount (s : State) (k : Fin 48) (f : SocketRec → SocketRec) : (s.modSocket k f).freeCount = s.freeCount := rfl
@[simp] theorem State.modSocket_pending (s : State) (k : Fin 48) (f : SocketRec → SocketRec) : (s.modSocket k f).pending = s.pending := rfl

/-! `modRail` -/

@[simp] theorem State.modRail_slot (s : State) (r : Fin 4) (f : RailRec → RailRec) : (s.modRail r f).slot = s.slot := rfl
@[simp] theorem State.modRail_ident (s : State) (r : Fin 4) (f : RailRec → RailRec) : (s.modRail r f).ident = s.ident := rfl
@[simp] theorem State.modRail_recipe (s : State) (r : Fin 4) (f : RailRec → RailRec) : (s.modRail r f).recipe = s.recipe := rfl
@[simp] theorem State.modRail_sock (s : State) (r : Fin 4) (f : RailRec → RailRec) : (s.modRail r f).sock = s.sock := rfl
@[simp] theorem State.modRail_therm (s : State) (r : Fin 4) (f : RailRec → RailRec) : (s.modRail r f).therm = s.therm := rfl
@[simp] theorem State.modRail_store (s : State) (r : Fin 4) (f : RailRec → RailRec) : (s.modRail r f).store = s.store := rfl
@[simp] theorem State.modRail_exer (s : State) (r : Fin 4) (f : RailRec → RailRec) : (s.modRail r f).exer = s.exer := rfl
@[simp] theorem State.modRail_credit (s : State) (r : Fin 4) (f : RailRec → RailRec) : (s.modRail r f).credit = s.credit := rfl
@[simp] theorem State.modRail_fail (s : State) (r : Fin 4) (f : RailRec → RailRec) : (s.modRail r f).fail = s.fail := rfl
@[simp] theorem State.modRail_notice (s : State) (r : Fin 4) (f : RailRec → RailRec) : (s.modRail r f).notice = s.notice := rfl
@[simp] theorem State.modRail_link (s : State) (r : Fin 4) (f : RailRec → RailRec) : (s.modRail r f).link = s.link := rfl
@[simp] theorem State.modRail_freeCount (s : State) (r : Fin 4) (f : RailRec → RailRec) : (s.modRail r f).freeCount = s.freeCount := rfl
@[simp] theorem State.modRail_pending (s : State) (r : Fin 4) (f : RailRec → RailRec) : (s.modRail r f).pending = s.pending := rfl

/-! `modZone` -/

@[simp] theorem State.modZone_slot (s : State) (z : Fin 6) (f : ZoneRec → ZoneRec) : (s.modZone z f).slot = s.slot := rfl
@[simp] theorem State.modZone_ident (s : State) (z : Fin 6) (f : ZoneRec → ZoneRec) : (s.modZone z f).ident = s.ident := rfl
@[simp] theorem State.modZone_recipe (s : State) (z : Fin 6) (f : ZoneRec → ZoneRec) : (s.modZone z f).recipe = s.recipe := rfl
@[simp] theorem State.modZone_rail (s : State) (z : Fin 6) (f : ZoneRec → ZoneRec) : (s.modZone z f).rail = s.rail := rfl
@[simp] theorem State.modZone_sock (s : State) (z : Fin 6) (f : ZoneRec → ZoneRec) : (s.modZone z f).sock = s.sock := rfl
@[simp] theorem State.modZone_store (s : State) (z : Fin 6) (f : ZoneRec → ZoneRec) : (s.modZone z f).store = s.store := rfl
@[simp] theorem State.modZone_exer (s : State) (z : Fin 6) (f : ZoneRec → ZoneRec) : (s.modZone z f).exer = s.exer := rfl
@[simp] theorem State.modZone_credit (s : State) (z : Fin 6) (f : ZoneRec → ZoneRec) : (s.modZone z f).credit = s.credit := rfl
@[simp] theorem State.modZone_fail (s : State) (z : Fin 6) (f : ZoneRec → ZoneRec) : (s.modZone z f).fail = s.fail := rfl
@[simp] theorem State.modZone_notice (s : State) (z : Fin 6) (f : ZoneRec → ZoneRec) : (s.modZone z f).notice = s.notice := rfl
@[simp] theorem State.modZone_link (s : State) (z : Fin 6) (f : ZoneRec → ZoneRec) : (s.modZone z f).link = s.link := rfl
@[simp] theorem State.modZone_freeCount (s : State) (z : Fin 6) (f : ZoneRec → ZoneRec) : (s.modZone z f).freeCount = s.freeCount := rfl
@[simp] theorem State.modZone_pending (s : State) (z : Fin 6) (f : ZoneRec → ZoneRec) : (s.modZone z f).pending = s.pending := rfl

/-! `modCompare` -/

@[simp] theorem State.modCompare_slot (s : State) (k : Fin 48) (f : CompareRec → CompareRec) : (s.modCompare k f).slot = s.slot := rfl
@[simp] theorem State.modCompare_ident (s : State) (k : Fin 48) (f : CompareRec → CompareRec) : (s.modCompare k f).ident = s.ident := rfl
@[simp] theorem State.modCompare_recipe (s : State) (k : Fin 48) (f : CompareRec → CompareRec) : (s.modCompare k f).recipe = s.recipe := rfl
@[simp] theorem State.modCompare_rail (s : State) (k : Fin 48) (f : CompareRec → CompareRec) : (s.modCompare k f).rail = s.rail := rfl
@[simp] theorem State.modCompare_sock (s : State) (k : Fin 48) (f : CompareRec → CompareRec) : (s.modCompare k f).sock = s.sock := rfl
@[simp] theorem State.modCompare_therm (s : State) (k : Fin 48) (f : CompareRec → CompareRec) : (s.modCompare k f).therm = s.therm := rfl
@[simp] theorem State.modCompare_store (s : State) (k : Fin 48) (f : CompareRec → CompareRec) : (s.modCompare k f).store = s.store := rfl
@[simp] theorem State.modCompare_credit (s : State) (k : Fin 48) (f : CompareRec → CompareRec) : (s.modCompare k f).credit = s.credit := rfl
@[simp] theorem State.modCompare_fail (s : State) (k : Fin 48) (f : CompareRec → CompareRec) : (s.modCompare k f).fail = s.fail := rfl
@[simp] theorem State.modCompare_notice (s : State) (k : Fin 48) (f : CompareRec → CompareRec) : (s.modCompare k f).notice = s.notice := rfl
@[simp] theorem State.modCompare_link (s : State) (k : Fin 48) (f : CompareRec → CompareRec) : (s.modCompare k f).link = s.link := rfl
@[simp] theorem State.modCompare_freeCount (s : State) (k : Fin 48) (f : CompareRec → CompareRec) : (s.modCompare k f).freeCount = s.freeCount := rfl
@[simp] theorem State.modCompare_pending (s : State) (k : Fin 48) (f : CompareRec → CompareRec) : (s.modCompare k f).pending = s.pending := rfl

/-! `modAccount` -/

@[simp] theorem State.modAccount_slot (s : State) (k : Fin 48) (f : AccountRec → AccountRec) : (s.modAccount k f).slot = s.slot := rfl
@[simp] theorem State.modAccount_ident (s : State) (k : Fin 48) (f : AccountRec → AccountRec) : (s.modAccount k f).ident = s.ident := rfl
@[simp] theorem State.modAccount_recipe (s : State) (k : Fin 48) (f : AccountRec → AccountRec) : (s.modAccount k f).recipe = s.recipe := rfl
@[simp] theorem State.modAccount_rail (s : State) (k : Fin 48) (f : AccountRec → AccountRec) : (s.modAccount k f).rail = s.rail := rfl
@[simp] theorem State.modAccount_sock (s : State) (k : Fin 48) (f : AccountRec → AccountRec) : (s.modAccount k f).sock = s.sock := rfl
@[simp] theorem State.modAccount_therm (s : State) (k : Fin 48) (f : AccountRec → AccountRec) : (s.modAccount k f).therm = s.therm := rfl
@[simp] theorem State.modAccount_store (s : State) (k : Fin 48) (f : AccountRec → AccountRec) : (s.modAccount k f).store = s.store := rfl
@[simp] theorem State.modAccount_exer (s : State) (k : Fin 48) (f : AccountRec → AccountRec) : (s.modAccount k f).exer = s.exer := rfl
@[simp] theorem State.modAccount_fail (s : State) (k : Fin 48) (f : AccountRec → AccountRec) : (s.modAccount k f).fail = s.fail := rfl
@[simp] theorem State.modAccount_notice (s : State) (k : Fin 48) (f : AccountRec → AccountRec) : (s.modAccount k f).notice = s.notice := rfl
@[simp] theorem State.modAccount_link (s : State) (k : Fin 48) (f : AccountRec → AccountRec) : (s.modAccount k f).link = s.link := rfl
@[simp] theorem State.modAccount_freeCount (s : State) (k : Fin 48) (f : AccountRec → AccountRec) : (s.modAccount k f).freeCount = s.freeCount := rfl
@[simp] theorem State.modAccount_pending (s : State) (k : Fin 48) (f : AccountRec → AccountRec) : (s.modAccount k f).pending = s.pending := rfl

/-! `lowWater` -/

@[simp] theorem State.lowWater_slot (s : State) (n : Nat) : (s.lowWater n).slot = s.slot := by
  unfold State.lowWater
  split <;> rfl
@[simp] theorem State.lowWater_ident (s : State) (n : Nat) : (s.lowWater n).ident = s.ident := by
  unfold State.lowWater
  split <;> rfl
@[simp] theorem State.lowWater_recipe (s : State) (n : Nat) : (s.lowWater n).recipe = s.recipe := by
  unfold State.lowWater
  split <;> rfl
@[simp] theorem State.lowWater_rail (s : State) (n : Nat) : (s.lowWater n).rail = s.rail := by
  unfold State.lowWater
  split <;> rfl
@[simp] theorem State.lowWater_sock (s : State) (n : Nat) : (s.lowWater n).sock = s.sock := by
  unfold State.lowWater
  split <;> rfl
@[simp] theorem State.lowWater_therm (s : State) (n : Nat) : (s.lowWater n).therm = s.therm := by
  unfold State.lowWater
  split <;> rfl
@[simp] theorem State.lowWater_store (s : State) (n : Nat) : (s.lowWater n).store = s.store := by
  unfold State.lowWater
  split <;> rfl
@[simp] theorem State.lowWater_exer (s : State) (n : Nat) : (s.lowWater n).exer = s.exer := by
  unfold State.lowWater
  split <;> rfl
@[simp] theorem State.lowWater_credit (s : State) (n : Nat) : (s.lowWater n).credit = s.credit := by
  unfold State.lowWater
  split <;> rfl
@[simp] theorem State.lowWater_fail (s : State) (n : Nat) : (s.lowWater n).fail = s.fail := by
  unfold State.lowWater
  split <;> rfl
@[simp] theorem State.lowWater_link (s : State) (n : Nat) : (s.lowWater n).link = s.link := by
  unfold State.lowWater
  split <;> rfl
@[simp] theorem State.lowWater_freeCount (s : State) (n : Nat) : (s.lowWater n).freeCount = s.freeCount := by
  unfold State.lowWater
  split <;> rfl
@[simp] theorem State.lowWater_pending (s : State) (n : Nat) : (s.lowWater n).pending = s.pending := by
  unfold State.lowWater
  split <;> rfl

/-! `takeFrame` -/

@[simp] theorem State.takeFrame_slot (s : State) (id : Byte) : (s.takeFrame id).slot = s.slot := by
  simp [State.takeFrame]
@[simp] theorem State.takeFrame_ident (s : State) (id : Byte) : (s.takeFrame id).ident = s.ident := by
  simp [State.takeFrame]
@[simp] theorem State.takeFrame_recipe (s : State) (id : Byte) : (s.takeFrame id).recipe = s.recipe := by
  simp [State.takeFrame]
@[simp] theorem State.takeFrame_rail (s : State) (id : Byte) : (s.takeFrame id).rail = s.rail := by
  simp [State.takeFrame]
@[simp] theorem State.takeFrame_sock (s : State) (id : Byte) : (s.takeFrame id).sock = s.sock := by
  simp [State.takeFrame]
@[simp] theorem State.takeFrame_therm (s : State) (id : Byte) : (s.takeFrame id).therm = s.therm := by
  simp [State.takeFrame]
@[simp] theorem State.takeFrame_credit (s : State) (id : Byte) : (s.takeFrame id).credit = s.credit := by
  simp [State.takeFrame]
@[simp] theorem State.takeFrame_fail (s : State) (id : Byte) : (s.takeFrame id).fail = s.fail := by
  simp [State.takeFrame]
@[simp] theorem State.takeFrame_link (s : State) (id : Byte) : (s.takeFrame id).link = s.link := by
  simp [State.takeFrame]
@[simp] theorem State.takeFrame_freeCount (s : State) (id : Byte) : (s.takeFrame id).freeCount = s.freeCount := by
  simp [State.takeFrame]
@[simp] theorem State.takeFrame_pending (s : State) (id : Byte) : (s.takeFrame id).pending = s.pending := by
  simp [State.takeFrame]

/-! `startVector` -/

@[simp] theorem State.startVector_slot (s : State) : (s.startVector).slot = s.slot := by
  unfold State.startVector
  split <;> rfl
@[simp] theorem State.startVector_ident (s : State) : (s.startVector).ident = s.ident := by
  unfold State.startVector
  split <;> rfl
@[simp] theorem State.startVector_recipe (s : State) : (s.startVector).recipe = s.recipe := by
  unfold State.startVector
  split <;> rfl
@[simp] theorem State.startVector_rail (s : State) : (s.startVector).rail = s.rail := by
  unfold State.startVector
  split <;> rfl
@[simp] theorem State.startVector_sock (s : State) : (s.startVector).sock = s.sock := by
  unfold State.startVector
  split <;> rfl
@[simp] theorem State.startVector_therm (s : State) : (s.startVector).therm = s.therm := by
  unfold State.startVector
  split <;> rfl
@[simp] theorem State.startVector_store (s : State) : (s.startVector).store = s.store := by
  unfold State.startVector
  split <;> rfl
@[simp] theorem State.startVector_credit (s : State) : (s.startVector).credit = s.credit := by
  unfold State.startVector
  split <;> rfl
@[simp] theorem State.startVector_fail (s : State) : (s.startVector).fail = s.fail := by
  unfold State.startVector
  split <;> rfl
@[simp] theorem State.startVector_notice (s : State) : (s.startVector).notice = s.notice := by
  unfold State.startVector
  split <;> rfl
@[simp] theorem State.startVector_link (s : State) : (s.startVector).link = s.link := by
  unfold State.startVector
  split <;> rfl
@[simp] theorem State.startVector_freeCount (s : State) : (s.startVector).freeCount = s.freeCount := by
  unfold State.startVector
  split <;> rfl
@[simp] theorem State.startVector_pending (s : State) : (s.startVector).pending = s.pending := by
  unfold State.startVector
  split <;> rfl

/-! `enterPlaying` -/

@[simp] theorem State.enterPlaying_slot (s : State) : (s.enterPlaying).slot = s.slot := by
  simp [State.enterPlaying]
@[simp] theorem State.enterPlaying_ident (s : State) : (s.enterPlaying).ident = s.ident := by
  simp [State.enterPlaying]
@[simp] theorem State.enterPlaying_recipe (s : State) : (s.enterPlaying).recipe = s.recipe := by
  simp [State.enterPlaying]
@[simp] theorem State.enterPlaying_rail (s : State) : (s.enterPlaying).rail = s.rail := by
  simp [State.enterPlaying]
@[simp] theorem State.enterPlaying_sock (s : State) : (s.enterPlaying).sock = s.sock := by
  simp [State.enterPlaying]
@[simp] theorem State.enterPlaying_therm (s : State) : (s.enterPlaying).therm = s.therm := by
  simp [State.enterPlaying]
@[simp] theorem State.enterPlaying_store (s : State) : (s.enterPlaying).store = s.store := by
  simp [State.enterPlaying]
@[simp] theorem State.enterPlaying_credit (s : State) : (s.enterPlaying).credit = s.credit := by
  simp [State.enterPlaying]
@[simp] theorem State.enterPlaying_fail (s : State) : (s.enterPlaying).fail = s.fail := by
  simp [State.enterPlaying]
@[simp] theorem State.enterPlaying_notice (s : State) : (s.enterPlaying).notice = s.notice := by
  simp [State.enterPlaying]
@[simp] theorem State.enterPlaying_link (s : State) : (s.enterPlaying).link = s.link := by
  simp [State.enterPlaying]
@[simp] theorem State.enterPlaying_freeCount (s : State) : (s.enterPlaying).freeCount = s.freeCount := by
  simp [State.enterPlaying]
@[simp] theorem State.enterPlaying_pending (s : State) : (s.enterPlaying).pending = s.pending := by
  simp [State.enterPlaying]

/-! `enterStall` -/

@[simp] theorem State.enterStall_slot (s : State) (e : ExerState) : (s.enterStall e).slot = s.slot := rfl
@[simp] theorem State.enterStall_ident (s : State) (e : ExerState) : (s.enterStall e).ident = s.ident := rfl
@[simp] theorem State.enterStall_recipe (s : State) (e : ExerState) : (s.enterStall e).recipe = s.recipe := rfl
@[simp] theorem State.enterStall_rail (s : State) (e : ExerState) : (s.enterStall e).rail = s.rail := rfl
@[simp] theorem State.enterStall_sock (s : State) (e : ExerState) : (s.enterStall e).sock = s.sock := rfl
@[simp] theorem State.enterStall_therm (s : State) (e : ExerState) : (s.enterStall e).therm = s.therm := rfl
@[simp] theorem State.enterStall_store (s : State) (e : ExerState) : (s.enterStall e).store = s.store := rfl
@[simp] theorem State.enterStall_credit (s : State) (e : ExerState) : (s.enterStall e).credit = s.credit := rfl
@[simp] theorem State.enterStall_fail (s : State) (e : ExerState) : (s.enterStall e).fail = s.fail := rfl
@[simp] theorem State.enterStall_notice (s : State) (e : ExerState) : (s.enterStall e).notice = s.notice := rfl
@[simp] theorem State.enterStall_link (s : State) (e : ExerState) : (s.enterStall e).link = s.link := rfl
@[simp] theorem State.enterStall_freeCount (s : State) (e : ExerState) : (s.enterStall e).freeCount = s.freeCount := rfl
@[simp] theorem State.enterStall_pending (s : State) (e : ExerState) : (s.enterStall e).pending = s.pending := rfl

/-! `enterHeld` -/

@[simp] theorem State.enterHeld_slot (s : State) : (s.enterHeld).slot = s.slot := rfl
@[simp] theorem State.enterHeld_ident (s : State) : (s.enterHeld).ident = s.ident := rfl
@[simp] theorem State.enterHeld_recipe (s : State) : (s.enterHeld).recipe = s.recipe := rfl
@[simp] theorem State.enterHeld_rail (s : State) : (s.enterHeld).rail = s.rail := rfl
@[simp] theorem State.enterHeld_sock (s : State) : (s.enterHeld).sock = s.sock := rfl
@[simp] theorem State.enterHeld_therm (s : State) : (s.enterHeld).therm = s.therm := rfl
@[simp] theorem State.enterHeld_store (s : State) : (s.enterHeld).store = s.store := rfl
@[simp] theorem State.enterHeld_credit (s : State) : (s.enterHeld).credit = s.credit := rfl
@[simp] theorem State.enterHeld_fail (s : State) : (s.enterHeld).fail = s.fail := rfl
@[simp] theorem State.enterHeld_notice (s : State) : (s.enterHeld).notice = s.notice := rfl
@[simp] theorem State.enterHeld_link (s : State) : (s.enterHeld).link = s.link := rfl
@[simp] theorem State.enterHeld_freeCount (s : State) : (s.enterHeld).freeCount = s.freeCount := rfl
@[simp] theorem State.enterHeld_pending (s : State) : (s.enterHeld).pending = s.pending := rfl

/-! `enterStopped` -/

@[simp] theorem State.enterStopped_slot (s : State) : (s.enterStopped).slot = s.slot := rfl
@[simp] theorem State.enterStopped_ident (s : State) : (s.enterStopped).ident = s.ident := rfl
@[simp] theorem State.enterStopped_recipe (s : State) : (s.enterStopped).recipe = s.recipe := rfl
@[simp] theorem State.enterStopped_rail (s : State) : (s.enterStopped).rail = s.rail := rfl
@[simp] theorem State.enterStopped_sock (s : State) : (s.enterStopped).sock = s.sock := rfl
@[simp] theorem State.enterStopped_therm (s : State) : (s.enterStopped).therm = s.therm := rfl
@[simp] theorem State.enterStopped_store (s : State) : (s.enterStopped).store = s.store := rfl
@[simp] theorem State.enterStopped_credit (s : State) : (s.enterStopped).credit = s.credit := rfl
@[simp] theorem State.enterStopped_fail (s : State) : (s.enterStopped).fail = s.fail := rfl
@[simp] theorem State.enterStopped_notice (s : State) : (s.enterStopped).notice = s.notice := rfl
@[simp] theorem State.enterStopped_link (s : State) : (s.enterStopped).link = s.link := rfl
@[simp] theorem State.enterStopped_freeCount (s : State) : (s.enterStopped).freeCount = s.freeCount := rfl
@[simp] theorem State.enterStopped_pending (s : State) : (s.enterStopped).pending = s.pending := rfl

/-! `enterStarved` -/

@[simp] theorem State.enterStarved_slot (s : State) : (s.enterStarved).slot = s.slot := rfl
@[simp] theorem State.enterStarved_ident (s : State) : (s.enterStarved).ident = s.ident := rfl
@[simp] theorem State.enterStarved_recipe (s : State) : (s.enterStarved).recipe = s.recipe := rfl
@[simp] theorem State.enterStarved_rail (s : State) : (s.enterStarved).rail = s.rail := rfl
@[simp] theorem State.enterStarved_sock (s : State) : (s.enterStarved).sock = s.sock := rfl
@[simp] theorem State.enterStarved_therm (s : State) : (s.enterStarved).therm = s.therm := rfl
@[simp] theorem State.enterStarved_store (s : State) : (s.enterStarved).store = s.store := rfl
@[simp] theorem State.enterStarved_credit (s : State) : (s.enterStarved).credit = s.credit := rfl
@[simp] theorem State.enterStarved_fail (s : State) : (s.enterStarved).fail = s.fail := rfl
@[simp] theorem State.enterStarved_link (s : State) : (s.enterStarved).link = s.link := rfl
@[simp] theorem State.enterStarved_freeCount (s : State) : (s.enterStarved).freeCount = s.freeCount := rfl
@[simp] theorem State.enterStarved_pending (s : State) : (s.enterStarved).pending = s.pending := rfl

/-! `playOrHold` -/

@[simp] theorem State.playOrHold_slot (s : State) : (s.playOrHold).slot = s.slot := by
  unfold State.playOrHold
  split <;> simp
@[simp] theorem State.playOrHold_ident (s : State) : (s.playOrHold).ident = s.ident := by
  unfold State.playOrHold
  split <;> simp
@[simp] theorem State.playOrHold_recipe (s : State) : (s.playOrHold).recipe = s.recipe := by
  unfold State.playOrHold
  split <;> simp
@[simp] theorem State.playOrHold_rail (s : State) : (s.playOrHold).rail = s.rail := by
  unfold State.playOrHold
  split <;> simp
@[simp] theorem State.playOrHold_sock (s : State) : (s.playOrHold).sock = s.sock := by
  unfold State.playOrHold
  split <;> simp
@[simp] theorem State.playOrHold_therm (s : State) : (s.playOrHold).therm = s.therm := by
  unfold State.playOrHold
  split <;> simp
@[simp] theorem State.playOrHold_store (s : State) : (s.playOrHold).store = s.store := by
  unfold State.playOrHold
  split <;> simp
@[simp] theorem State.playOrHold_credit (s : State) : (s.playOrHold).credit = s.credit := by
  unfold State.playOrHold
  split <;> simp
@[simp] theorem State.playOrHold_fail (s : State) : (s.playOrHold).fail = s.fail := by
  unfold State.playOrHold
  split <;> simp
@[simp] theorem State.playOrHold_notice (s : State) : (s.playOrHold).notice = s.notice := by
  unfold State.playOrHold
  split <;> simp
@[simp] theorem State.playOrHold_link (s : State) : (s.playOrHold).link = s.link := by
  unfold State.playOrHold
  split <;> simp
@[simp] theorem State.playOrHold_freeCount (s : State) : (s.playOrHold).freeCount = s.freeCount := by
  unfold State.playOrHold
  split <;> simp
@[simp] theorem State.playOrHold_pending (s : State) : (s.playOrHold).pending = s.pending := by
  unfold State.playOrHold
  split <;> simp

/-! `takeFirstReady` -/

@[simp] theorem State.takeFirstReady_slot (s : State) : (s.takeFirstReady).slot = s.slot := by
  unfold State.takeFirstReady
  split <;> simp
@[simp] theorem State.takeFirstReady_ident (s : State) : (s.takeFirstReady).ident = s.ident := by
  unfold State.takeFirstReady
  split <;> simp
@[simp] theorem State.takeFirstReady_recipe (s : State) : (s.takeFirstReady).recipe = s.recipe := by
  unfold State.takeFirstReady
  split <;> simp
@[simp] theorem State.takeFirstReady_rail (s : State) : (s.takeFirstReady).rail = s.rail := by
  unfold State.takeFirstReady
  split <;> simp
@[simp] theorem State.takeFirstReady_sock (s : State) : (s.takeFirstReady).sock = s.sock := by
  unfold State.takeFirstReady
  split <;> simp
@[simp] theorem State.takeFirstReady_therm (s : State) : (s.takeFirstReady).therm = s.therm := by
  unfold State.takeFirstReady
  split <;> simp
@[simp] theorem State.takeFirstReady_credit (s : State) : (s.takeFirstReady).credit = s.credit := by
  unfold State.takeFirstReady
  split <;> simp
@[simp] theorem State.takeFirstReady_fail (s : State) : (s.takeFirstReady).fail = s.fail := by
  unfold State.takeFirstReady
  split <;> simp
@[simp] theorem State.takeFirstReady_link (s : State) : (s.takeFirstReady).link = s.link := by
  unfold State.takeFirstReady
  split <;> simp
@[simp] theorem State.takeFirstReady_freeCount (s : State) : (s.takeFirstReady).freeCount = s.freeCount := by
  unfold State.takeFirstReady
  split <;> simp
@[simp] theorem State.takeFirstReady_pending (s : State) : (s.takeFirstReady).pending = s.pending := by
  unfold State.takeFirstReady
  split <;> simp

/-! `setHolds` -/

@[simp] theorem State.setHolds_slot (s : State) (b p : Bool) : (s.setHolds b p).slot = s.slot := by
  unfold State.setHolds
  dsimp only
  split <;> simp
@[simp] theorem State.setHolds_ident (s : State) (b p : Bool) : (s.setHolds b p).ident = s.ident := by
  unfold State.setHolds
  dsimp only
  split <;> simp
@[simp] theorem State.setHolds_recipe (s : State) (b p : Bool) : (s.setHolds b p).recipe = s.recipe := by
  unfold State.setHolds
  dsimp only
  split <;> simp
@[simp] theorem State.setHolds_rail (s : State) (b p : Bool) : (s.setHolds b p).rail = s.rail := by
  unfold State.setHolds
  dsimp only
  split <;> simp
@[simp] theorem State.setHolds_sock (s : State) (b p : Bool) : (s.setHolds b p).sock = s.sock := by
  unfold State.setHolds
  dsimp only
  split <;> simp
@[simp] theorem State.setHolds_therm (s : State) (b p : Bool) : (s.setHolds b p).therm = s.therm := by
  unfold State.setHolds
  dsimp only
  split <;> simp
@[simp] theorem State.setHolds_store (s : State) (b p : Bool) : (s.setHolds b p).store = s.store := by
  unfold State.setHolds
  dsimp only
  split <;> simp
@[simp] theorem State.setHolds_credit (s : State) (b p : Bool) : (s.setHolds b p).credit = s.credit := by
  unfold State.setHolds
  dsimp only
  split <;> simp
@[simp] theorem State.setHolds_fail (s : State) (b p : Bool) : (s.setHolds b p).fail = s.fail := by
  unfold State.setHolds
  dsimp only
  split <;> simp
@[simp] theorem State.setHolds_notice (s : State) (b p : Bool) : (s.setHolds b p).notice = s.notice := by
  unfold State.setHolds
  dsimp only
  split <;> simp
@[simp] theorem State.setHolds_link (s : State) (b p : Bool) : (s.setHolds b p).link = s.link := by
  unfold State.setHolds
  dsimp only
  split <;> simp
@[simp] theorem State.setHolds_freeCount (s : State) (b p : Bool) : (s.setHolds b p).freeCount = s.freeCount := by
  unfold State.setHolds
  dsimp only
  split <;> simp
@[simp] theorem State.setHolds_pending (s : State) (b p : Bool) : (s.setHolds b p).pending = s.pending := by
  unfold State.setHolds
  dsimp only
  split <;> simp

/-! `applyPlay` -/

@[simp] theorem State.applyPlay_slot (s : State) (p : PlaySettings) : (s.applyPlay p).slot = s.slot := by
  unfold State.applyPlay
  dsimp only
  split <;> split <;> simp
@[simp] theorem State.applyPlay_ident (s : State) (p : PlaySettings) : (s.applyPlay p).ident = s.ident := by
  unfold State.applyPlay
  dsimp only
  split <;> split <;> simp
@[simp] theorem State.applyPlay_recipe (s : State) (p : PlaySettings) : (s.applyPlay p).recipe = s.recipe := by
  unfold State.applyPlay
  dsimp only
  split <;> split <;> simp
@[simp] theorem State.applyPlay_rail (s : State) (p : PlaySettings) : (s.applyPlay p).rail = s.rail := by
  unfold State.applyPlay
  dsimp only
  split <;> split <;> simp
@[simp] theorem State.applyPlay_sock (s : State) (p : PlaySettings) : (s.applyPlay p).sock = s.sock := by
  unfold State.applyPlay
  dsimp only
  split <;> split <;> simp
@[simp] theorem State.applyPlay_therm (s : State) (p : PlaySettings) : (s.applyPlay p).therm = s.therm := by
  unfold State.applyPlay
  dsimp only
  split <;> split <;> simp
@[simp] theorem State.applyPlay_credit (s : State) (p : PlaySettings) : (s.applyPlay p).credit = s.credit := by
  unfold State.applyPlay
  dsimp only
  split <;> split <;> simp
@[simp] theorem State.applyPlay_fail (s : State) (p : PlaySettings) : (s.applyPlay p).fail = s.fail := by
  unfold State.applyPlay
  dsimp only
  split <;> split <;> simp
@[simp] theorem State.applyPlay_link (s : State) (p : PlaySettings) : (s.applyPlay p).link = s.link := by
  unfold State.applyPlay
  dsimp only
  split <;> split <;> simp
@[simp] theorem State.applyPlay_freeCount (s : State) (p : PlaySettings) : (s.applyPlay p).freeCount = s.freeCount := by
  unfold State.applyPlay
  dsimp only
  split <;> split <;> simp
@[simp] theorem State.applyPlay_pending (s : State) (p : PlaySettings) : (s.applyPlay p).pending = s.pending := by
  unfold State.applyPlay
  dsimp only
  split <;> split <;> simp

/-! `applySettings` -/

@[simp] theorem State.applySettings_slot (s : State) (x : Settings) : (s.applySettings x).slot = s.slot := by
  unfold State.applySettings
  dsimp only
  split <;> simp
@[simp] theorem State.applySettings_ident (s : State) (x : Settings) : (s.applySettings x).ident = s.ident := by
  unfold State.applySettings
  dsimp only
  split <;> simp
@[simp] theorem State.applySettings_recipe (s : State) (x : Settings) : (s.applySettings x).recipe = s.recipe := by
  unfold State.applySettings
  dsimp only
  split <;> simp
@[simp] theorem State.applySettings_rail (s : State) (x : Settings) : (s.applySettings x).rail = s.rail := by
  unfold State.applySettings
  dsimp only
  split <;> simp
@[simp] theorem State.applySettings_sock (s : State) (x : Settings) : (s.applySettings x).sock = s.sock := by
  unfold State.applySettings
  dsimp only
  split <;> simp
@[simp] theorem State.applySettings_therm (s : State) (x : Settings) : (s.applySettings x).therm = s.therm := by
  unfold State.applySettings
  dsimp only
  split <;> simp
@[simp] theorem State.applySettings_credit (s : State) (x : Settings) : (s.applySettings x).credit = s.credit := by
  unfold State.applySettings
  dsimp only
  split <;> simp
@[simp] theorem State.applySettings_fail (s : State) (x : Settings) : (s.applySettings x).fail = s.fail := by
  unfold State.applySettings
  dsimp only
  split <;> simp
@[simp] theorem State.applySettings_link (s : State) (x : Settings) : (s.applySettings x).link = s.link := by
  unfold State.applySettings
  dsimp only
  split <;> simp
@[simp] theorem State.applySettings_freeCount (s : State) (x : Settings) : (s.applySettings x).freeCount = s.freeCount := by
  unfold State.applySettings
  dsimp only
  split <;> simp
@[simp] theorem State.applySettings_pending (s : State) (x : Settings) : (s.applySettings x).pending = s.pending := by
  unfold State.applySettings
  dsimp only
  split <;> simp

/-! `applyBoundary` -/

@[simp] theorem State.applyBoundary_slot (s : State) : (s.applyBoundary).slot = s.slot := by
  simp [State.applyBoundary]
@[simp] theorem State.applyBoundary_ident (s : State) : (s.applyBoundary).ident = s.ident := by
  simp [State.applyBoundary]
@[simp] theorem State.applyBoundary_recipe (s : State) : (s.applyBoundary).recipe = s.recipe := by
  simp [State.applyBoundary]
@[simp] theorem State.applyBoundary_rail (s : State) : (s.applyBoundary).rail = s.rail := by
  simp [State.applyBoundary]
@[simp] theorem State.applyBoundary_sock (s : State) : (s.applyBoundary).sock = s.sock := by
  simp [State.applyBoundary]
@[simp] theorem State.applyBoundary_therm (s : State) : (s.applyBoundary).therm = s.therm := by
  simp [State.applyBoundary]
@[simp] theorem State.applyBoundary_credit (s : State) : (s.applyBoundary).credit = s.credit := by
  simp [State.applyBoundary]
@[simp] theorem State.applyBoundary_fail (s : State) : (s.applyBoundary).fail = s.fail := by
  simp [State.applyBoundary]
@[simp] theorem State.applyBoundary_link (s : State) : (s.applyBoundary).link = s.link := by
  simp [State.applyBoundary]
@[simp] theorem State.applyBoundary_freeCount (s : State) : (s.applyBoundary).freeCount = s.freeCount := by
  simp [State.applyBoundary]
@[simp] theorem State.applyBoundary_pending (s : State) : (s.applyBoundary).pending = s.pending := by
  simp [State.applyBoundary]

/-! `applyStaged` -/

@[simp] theorem State.applyStaged_slot (s : State) : (s.applyStaged).slot = s.slot := by
  simp [State.applyStaged]
@[simp] theorem State.applyStaged_ident (s : State) : (s.applyStaged).ident = s.ident := by
  simp [State.applyStaged]
@[simp] theorem State.applyStaged_recipe (s : State) : (s.applyStaged).recipe = s.recipe := by
  simp [State.applyStaged]
@[simp] theorem State.applyStaged_rail (s : State) : (s.applyStaged).rail = s.rail := by
  simp [State.applyStaged]
@[simp] theorem State.applyStaged_sock (s : State) : (s.applyStaged).sock = s.sock := by
  simp [State.applyStaged]
@[simp] theorem State.applyStaged_therm (s : State) : (s.applyStaged).therm = s.therm := by
  simp [State.applyStaged]
@[simp] theorem State.applyStaged_credit (s : State) : (s.applyStaged).credit = s.credit := by
  simp [State.applyStaged]
@[simp] theorem State.applyStaged_fail (s : State) : (s.applyStaged).fail = s.fail := by
  simp [State.applyStaged]
@[simp] theorem State.applyStaged_link (s : State) : (s.applyStaged).link = s.link := by
  simp [State.applyStaged]
@[simp] theorem State.applyStaged_freeCount (s : State) : (s.applyStaged).freeCount = s.freeCount := by
  simp [State.applyStaged]
@[simp] theorem State.applyStaged_pending (s : State) : (s.applyStaged).pending = s.pending := by
  simp [State.applyStaged]

/-! `takeSettings` -/

@[simp] theorem State.takeSettings_slot (s : State) (x : Settings) (b : Bool) : (s.takeSettings x b).slot = s.slot := by
  unfold State.takeSettings
  repeat' split
  all_goals simp
@[simp] theorem State.takeSettings_ident (s : State) (x : Settings) (b : Bool) : (s.takeSettings x b).ident = s.ident := by
  unfold State.takeSettings
  repeat' split
  all_goals simp
@[simp] theorem State.takeSettings_recipe (s : State) (x : Settings) (b : Bool) : (s.takeSettings x b).recipe = s.recipe := by
  unfold State.takeSettings
  repeat' split
  all_goals simp
@[simp] theorem State.takeSettings_rail (s : State) (x : Settings) (b : Bool) : (s.takeSettings x b).rail = s.rail := by
  unfold State.takeSettings
  repeat' split
  all_goals simp
@[simp] theorem State.takeSettings_sock (s : State) (x : Settings) (b : Bool) : (s.takeSettings x b).sock = s.sock := by
  unfold State.takeSettings
  repeat' split
  all_goals simp
@[simp] theorem State.takeSettings_therm (s : State) (x : Settings) (b : Bool) : (s.takeSettings x b).therm = s.therm := by
  unfold State.takeSettings
  repeat' split
  all_goals simp
@[simp] theorem State.takeSettings_credit (s : State) (x : Settings) (b : Bool) : (s.takeSettings x b).credit = s.credit := by
  unfold State.takeSettings
  repeat' split
  all_goals simp
@[simp] theorem State.takeSettings_fail (s : State) (x : Settings) (b : Bool) : (s.takeSettings x b).fail = s.fail := by
  unfold State.takeSettings
  repeat' split
  all_goals simp
@[simp] theorem State.takeSettings_link (s : State) (x : Settings) (b : Bool) : (s.takeSettings x b).link = s.link := by
  unfold State.takeSettings
  repeat' split
  all_goals simp
@[simp] theorem State.takeSettings_freeCount (s : State) (x : Settings) (b : Bool) : (s.takeSettings x b).freeCount = s.freeCount := by
  unfold State.takeSettings
  repeat' split
  all_goals simp
@[simp] theorem State.takeSettings_pending (s : State) (x : Settings) (b : Bool) : (s.takeSettings x b).pending = s.pending := by
  unfold State.takeSettings
  repeat' split
  all_goals simp

/-! `idleExerciser` -/

@[simp] theorem State.idleExerciser_slot (s : State) : (s.idleExerciser).slot = s.slot := by
  simp [State.idleExerciser]
@[simp] theorem State.idleExerciser_ident (s : State) : (s.idleExerciser).ident = s.ident := by
  simp [State.idleExerciser]
@[simp] theorem State.idleExerciser_recipe (s : State) : (s.idleExerciser).recipe = s.recipe := by
  simp [State.idleExerciser]
@[simp] theorem State.idleExerciser_rail (s : State) : (s.idleExerciser).rail = s.rail := by
  simp [State.idleExerciser]
@[simp] theorem State.idleExerciser_sock (s : State) : (s.idleExerciser).sock = s.sock := by
  simp [State.idleExerciser]
@[simp] theorem State.idleExerciser_therm (s : State) : (s.idleExerciser).therm = s.therm := by
  simp [State.idleExerciser]
@[simp] theorem State.idleExerciser_credit (s : State) : (s.idleExerciser).credit = s.credit := by
  simp [State.idleExerciser]
@[simp] theorem State.idleExerciser_fail (s : State) : (s.idleExerciser).fail = s.fail := by
  simp [State.idleExerciser]
@[simp] theorem State.idleExerciser_link (s : State) : (s.idleExerciser).link = s.link := by
  simp [State.idleExerciser]
@[simp] theorem State.idleExerciser_freeCount (s : State) : (s.idleExerciser).freeCount = s.freeCount := by
  simp [State.idleExerciser]
@[simp] theorem State.idleExerciser_pending (s : State) : (s.idleExerciser).pending = s.pending := by
  simp [State.idleExerciser]

/-! `moveTo` -/

@[simp] theorem State.moveTo_ident (s : State) (x : SlotState) : (s.moveTo x).ident = s.ident := rfl
@[simp] theorem State.moveTo_recipe (s : State) (x : SlotState) : (s.moveTo x).recipe = s.recipe := rfl
@[simp] theorem State.moveTo_rail (s : State) (x : SlotState) : (s.moveTo x).rail = s.rail := rfl
@[simp] theorem State.moveTo_sock (s : State) (x : SlotState) : (s.moveTo x).sock = s.sock := rfl
@[simp] theorem State.moveTo_therm (s : State) (x : SlotState) : (s.moveTo x).therm = s.therm := rfl
@[simp] theorem State.moveTo_store (s : State) (x : SlotState) : (s.moveTo x).store = s.store := rfl
@[simp] theorem State.moveTo_exer (s : State) (x : SlotState) : (s.moveTo x).exer = s.exer := rfl
@[simp] theorem State.moveTo_credit (s : State) (x : SlotState) : (s.moveTo x).credit = s.credit := rfl
@[simp] theorem State.moveTo_fail (s : State) (x : SlotState) : (s.moveTo x).fail = s.fail := rfl
@[simp] theorem State.moveTo_link (s : State) (x : SlotState) : (s.moveTo x).link = s.link := rfl
@[simp] theorem State.moveTo_freeCount (s : State) (x : SlotState) : (s.moveTo x).freeCount = s.freeCount := rfl
@[simp] theorem State.moveTo_pending (s : State) (x : SlotState) : (s.moveTo x).pending = s.pending := rfl

/-! `quiesce` -/

@[simp] theorem State.quiesce_ident (s : State) : (s.quiesce).ident = s.ident := by
  simp [State.quiesce]
@[simp] theorem State.quiesce_recipe (s : State) : (s.quiesce).recipe = s.recipe := by
  simp [State.quiesce]
@[simp] theorem State.quiesce_rail (s : State) : (s.quiesce).rail = s.rail := by
  simp [State.quiesce]
@[simp] theorem State.quiesce_fail (s : State) : (s.quiesce).fail = s.fail := by
  simp [State.quiesce]
@[simp] theorem State.quiesce_link (s : State) : (s.quiesce).link = s.link := by
  simp [State.quiesce]
@[simp] theorem State.quiesce_freeCount (s : State) : (s.quiesce).freeCount = s.freeCount := by
  simp [State.quiesce]
@[simp] theorem State.quiesce_pending (s : State) : (s.quiesce).pending = s.pending := by
  simp [State.quiesce]

/-! `enterDraining` -/

@[simp] theorem State.enterDraining_ident (s : State) (c : EndCause) : (s.enterDraining c).ident = s.ident := by
  simp [State.enterDraining]
@[simp] theorem State.enterDraining_recipe (s : State) (c : EndCause) : (s.enterDraining c).recipe = s.recipe := by
  simp [State.enterDraining]
@[simp] theorem State.enterDraining_fail (s : State) (c : EndCause) : (s.enterDraining c).fail = s.fail := by
  simp [State.enterDraining]
@[simp] theorem State.enterDraining_link (s : State) (c : EndCause) : (s.enterDraining c).link = s.link := by
  simp [State.enterDraining]
@[simp] theorem State.enterDraining_freeCount (s : State) (c : EndCause) : (s.enterDraining c).freeCount = s.freeCount := by
  simp [State.enterDraining]
@[simp] theorem State.enterDraining_pending (s : State) (c : EndCause) : (s.enterDraining c).pending = s.pending := by
  simp [State.enterDraining]

/-! `enterSafe` -/

@[simp] theorem State.enterSafe_ident (s : State) (c : EndCause) (f : FailureKind) (k : Fin 12) (x : Source) : (s.enterSafe c f k x).ident = s.ident := by
  simp [State.enterSafe]
@[simp] theorem State.enterSafe_recipe (s : State) (c : EndCause) (f : FailureKind) (k : Fin 12) (x : Source) : (s.enterSafe c f k x).recipe = s.recipe := by
  simp [State.enterSafe]
@[simp] theorem State.enterSafe_link (s : State) (c : EndCause) (f : FailureKind) (k : Fin 12) (x : Source) : (s.enterSafe c f k x).link = s.link := by
  simp [State.enterSafe]
@[simp] theorem State.enterSafe_freeCount (s : State) (c : EndCause) (f : FailureKind) (k : Fin 12) (x : Source) : (s.enterSafe c f k x).freeCount = s.freeCount := by
  simp [State.enterSafe]
@[simp] theorem State.enterSafe_pending (s : State) (c : EndCause) (f : FailureKind) (k : Fin 12) (x : Source) : (s.enterSafe c f k x).pending = s.pending := by
  simp [State.enterSafe]

/-! `checkRunEnd` -/

@[simp] theorem State.checkRunEnd_ident (s : State) : (s.checkRunEnd).ident = s.ident := by
  unfold State.checkRunEnd
  split <;> simp
@[simp] theorem State.checkRunEnd_recipe (s : State) : (s.checkRunEnd).recipe = s.recipe := by
  unfold State.checkRunEnd
  split <;> simp
@[simp] theorem State.checkRunEnd_fail (s : State) : (s.checkRunEnd).fail = s.fail := by
  unfold State.checkRunEnd
  split <;> simp
@[simp] theorem State.checkRunEnd_link (s : State) : (s.checkRunEnd).link = s.link := by
  unfold State.checkRunEnd
  split <;> simp
@[simp] theorem State.checkRunEnd_freeCount (s : State) : (s.checkRunEnd).freeCount = s.freeCount := by
  unfold State.checkRunEnd
  split <;> simp
@[simp] theorem State.checkRunEnd_pending (s : State) : (s.checkRunEnd).pending = s.pending := by
  unfold State.checkRunEnd
  split <;> simp

/-! `depart` -/

@[simp] theorem State.depart_slot (s : State) (k : Fin 48) : (s.depart k).slot = s.slot := by
  unfold State.depart
  split <;> rfl
@[simp] theorem State.depart_ident (s : State) (k : Fin 48) : (s.depart k).ident = s.ident := by
  unfold State.depart
  split <;> rfl
@[simp] theorem State.depart_recipe (s : State) (k : Fin 48) : (s.depart k).recipe = s.recipe := by
  unfold State.depart
  split <;> rfl
@[simp] theorem State.depart_rail (s : State) (k : Fin 48) : (s.depart k).rail = s.rail := by
  unfold State.depart
  split <;> rfl
@[simp] theorem State.depart_therm (s : State) (k : Fin 48) : (s.depart k).therm = s.therm := by
  unfold State.depart
  split <;> rfl
@[simp] theorem State.depart_store (s : State) (k : Fin 48) : (s.depart k).store = s.store := by
  unfold State.depart
  split <;> rfl
@[simp] theorem State.depart_credit (s : State) (k : Fin 48) : (s.depart k).credit = s.credit := by
  unfold State.depart
  split <;> rfl
@[simp] theorem State.depart_fail (s : State) (k : Fin 48) : (s.depart k).fail = s.fail := by
  unfold State.depart
  split <;> rfl
@[simp] theorem State.depart_notice (s : State) (k : Fin 48) : (s.depart k).notice = s.notice := by
  unfold State.depart
  split <;> rfl
@[simp] theorem State.depart_link (s : State) (k : Fin 48) : (s.depart k).link = s.link := by
  unfold State.depart
  split <;> rfl
@[simp] theorem State.depart_freeCount (s : State) (k : Fin 48) : (s.depart k).freeCount = s.freeCount := by
  unfold State.depart
  split <;> rfl
@[simp] theorem State.depart_pending (s : State) (k : Fin 48) : (s.depart k).pending = s.pending := by
  unfold State.depart
  split <;> rfl

/-! `retire` -/

@[simp] theorem State.retire_ident (s : State) (k : Fin 48) (c : RetireCause) : (s.retire k c).ident = s.ident := by
  simp [State.retire]
@[simp] theorem State.retire_recipe (s : State) (k : Fin 48) (c : RetireCause) : (s.retire k c).recipe = s.recipe := by
  simp [State.retire]
@[simp] theorem State.retire_link (s : State) (k : Fin 48) (c : RetireCause) : (s.retire k c).link = s.link := by
  simp [State.retire]
@[simp] theorem State.retire_freeCount (s : State) (k : Fin 48) (c : RetireCause) : (s.retire k c).freeCount = s.freeCount := by
  simp [State.retire]
@[simp] theorem State.retire_pending (s : State) (k : Fin 48) (c : RetireCause) : (s.retire k c).pending = s.pending := by
  simp [State.retire]

/-! `isolate` -/

@[simp] theorem State.isolate_ident (s : State) (k : Fin 48) : (s.isolate k).ident = s.ident := by
  unfold State.isolate
  split <;> simp
@[simp] theorem State.isolate_recipe (s : State) (k : Fin 48) : (s.isolate k).recipe = s.recipe := by
  unfold State.isolate
  split <;> simp
@[simp] theorem State.isolate_link (s : State) (k : Fin 48) : (s.isolate k).link = s.link := by
  unfold State.isolate
  split <;> simp
@[simp] theorem State.isolate_freeCount (s : State) (k : Fin 48) : (s.isolate k).freeCount = s.freeCount := by
  unfold State.isolate
  split <;> simp
@[simp] theorem State.isolate_pending (s : State) (k : Fin 48) : (s.isolate k).pending = s.pending := by
  unfold State.isolate
  split <;> simp

/-! `complete` -/

@[simp] theorem State.complete_ident (s : State) (k : Fin 48) : (s.complete k).ident = s.ident := by
  simp [State.complete]
@[simp] theorem State.complete_recipe (s : State) (k : Fin 48) : (s.complete k).recipe = s.recipe := by
  simp [State.complete]
@[simp] theorem State.complete_fail (s : State) (k : Fin 48) : (s.complete k).fail = s.fail := by
  simp [State.complete]
@[simp] theorem State.complete_link (s : State) (k : Fin 48) : (s.complete k).link = s.link := by
  simp [State.complete]
@[simp] theorem State.complete_freeCount (s : State) (k : Fin 48) : (s.complete k).freeCount = s.freeCount := by
  simp [State.complete]
@[simp] theorem State.complete_pending (s : State) (k : Fin 48) : (s.complete k).pending = s.pending := by
  simp [State.complete]

/-! `railFault` -/

@[simp] theorem State.railFault_ident (s : State) (r : Fin 4) (mv : Nat) : (s.railFault r mv).ident = s.ident := by
  unfold State.railFault
  dsimp only
  split <;> simp
@[simp] theorem State.railFault_recipe (s : State) (r : Fin 4) (mv : Nat) : (s.railFault r mv).recipe = s.recipe := by
  unfold State.railFault
  dsimp only
  split <;> simp
@[simp] theorem State.railFault_link (s : State) (r : Fin 4) (mv : Nat) : (s.railFault r mv).link = s.link := by
  unfold State.railFault
  dsimp only
  split <;> simp
@[simp] theorem State.railFault_freeCount (s : State) (r : Fin 4) (mv : Nat) : (s.railFault r mv).freeCount = s.freeCount := by
  unfold State.railFault
  dsimp only
  split <;> simp
@[simp] theorem State.railFault_pending (s : State) (r : Fin 4) (mv : Nat) : (s.railFault r mv).pending = s.pending := by
  unfold State.railFault
  dsimp only
  split <;> simp

/-! `holdOff` -/

@[simp] theorem State.holdOff_slot (s : State) (z : Fin 6) : (s.holdOff z).slot = s.slot := by
  unfold State.holdOff
  exact foldl_frame State.slot _ (fun t k => by dsimp only; split <;> simp) _ _
@[simp] theorem State.holdOff_ident (s : State) (z : Fin 6) : (s.holdOff z).ident = s.ident := by
  unfold State.holdOff
  exact foldl_frame State.ident _ (fun t k => by dsimp only; split <;> simp) _ _
@[simp] theorem State.holdOff_recipe (s : State) (z : Fin 6) : (s.holdOff z).recipe = s.recipe := by
  unfold State.holdOff
  exact foldl_frame State.recipe _ (fun t k => by dsimp only; split <;> simp) _ _
@[simp] theorem State.holdOff_rail (s : State) (z : Fin 6) : (s.holdOff z).rail = s.rail := by
  unfold State.holdOff
  exact foldl_frame State.rail _ (fun t k => by dsimp only; split <;> simp) _ _
@[simp] theorem State.holdOff_therm (s : State) (z : Fin 6) : (s.holdOff z).therm = s.therm := by
  unfold State.holdOff
  exact foldl_frame State.therm _ (fun t k => by dsimp only; split <;> simp) _ _
@[simp] theorem State.holdOff_store (s : State) (z : Fin 6) : (s.holdOff z).store = s.store := by
  unfold State.holdOff
  exact foldl_frame State.store _ (fun t k => by dsimp only; split <;> simp) _ _
@[simp] theorem State.holdOff_credit (s : State) (z : Fin 6) : (s.holdOff z).credit = s.credit := by
  unfold State.holdOff
  exact foldl_frame State.credit _ (fun t k => by dsimp only; split <;> simp) _ _
@[simp] theorem State.holdOff_fail (s : State) (z : Fin 6) : (s.holdOff z).fail = s.fail := by
  unfold State.holdOff
  exact foldl_frame State.fail _ (fun t k => by dsimp only; split <;> simp) _ _
@[simp] theorem State.holdOff_notice (s : State) (z : Fin 6) : (s.holdOff z).notice = s.notice := by
  unfold State.holdOff
  exact foldl_frame State.notice _ (fun t k => by dsimp only; split <;> simp) _ _
@[simp] theorem State.holdOff_link (s : State) (z : Fin 6) : (s.holdOff z).link = s.link := by
  unfold State.holdOff
  exact foldl_frame State.link _ (fun t k => by dsimp only; split <;> simp) _ _
@[simp] theorem State.holdOff_freeCount (s : State) (z : Fin 6) : (s.holdOff z).freeCount = s.freeCount := by
  unfold State.holdOff
  exact foldl_frame State.freeCount _ (fun t k => by dsimp only; split <;> simp) _ _
@[simp] theorem State.holdOff_pending (s : State) (z : Fin 6) : (s.holdOff z).pending = s.pending := by
  unfold State.holdOff
  exact foldl_frame State.pending _ (fun t k => by dsimp only; split <;> simp) _ _

/-! `releaseZone` -/

@[simp] theorem State.releaseZone_slot (s : State) (z : Fin 6) : (s.releaseZone z).slot = s.slot := by
  unfold State.releaseZone
  split <;> rfl
@[simp] theorem State.releaseZone_ident (s : State) (z : Fin 6) : (s.releaseZone z).ident = s.ident := by
  unfold State.releaseZone
  split <;> rfl
@[simp] theorem State.releaseZone_recipe (s : State) (z : Fin 6) : (s.releaseZone z).recipe = s.recipe := by
  unfold State.releaseZone
  split <;> rfl
@[simp] theorem State.releaseZone_rail (s : State) (z : Fin 6) : (s.releaseZone z).rail = s.rail := by
  unfold State.releaseZone
  split <;> rfl
@[simp] theorem State.releaseZone_therm (s : State) (z : Fin 6) : (s.releaseZone z).therm = s.therm := by
  unfold State.releaseZone
  split <;> rfl
@[simp] theorem State.releaseZone_store (s : State) (z : Fin 6) : (s.releaseZone z).store = s.store := by
  unfold State.releaseZone
  split <;> rfl
@[simp] theorem State.releaseZone_exer (s : State) (z : Fin 6) : (s.releaseZone z).exer = s.exer := by
  unfold State.releaseZone
  split <;> rfl
@[simp] theorem State.releaseZone_credit (s : State) (z : Fin 6) : (s.releaseZone z).credit = s.credit := by
  unfold State.releaseZone
  split <;> rfl
@[simp] theorem State.releaseZone_fail (s : State) (z : Fin 6) : (s.releaseZone z).fail = s.fail := by
  unfold State.releaseZone
  split <;> rfl
@[simp] theorem State.releaseZone_notice (s : State) (z : Fin 6) : (s.releaseZone z).notice = s.notice := by
  unfold State.releaseZone
  split <;> rfl
@[simp] theorem State.releaseZone_link (s : State) (z : Fin 6) : (s.releaseZone z).link = s.link := by
  unfold State.releaseZone
  split <;> rfl
@[simp] theorem State.releaseZone_freeCount (s : State) (z : Fin 6) : (s.releaseZone z).freeCount = s.freeCount := by
  unfold State.releaseZone
  split <;> rfl
@[simp] theorem State.releaseZone_pending (s : State) (z : Fin 6) : (s.releaseZone z).pending = s.pending := by
  unfold State.releaseZone
  split <;> rfl

/-! `switchOn` -/

@[simp] theorem State.switchOn_slot (s : State) : (s.switchOn).slot = s.slot := rfl
@[simp] theorem State.switchOn_ident (s : State) : (s.switchOn).ident = s.ident := rfl
@[simp] theorem State.switchOn_recipe (s : State) : (s.switchOn).recipe = s.recipe := rfl
@[simp] theorem State.switchOn_rail (s : State) : (s.switchOn).rail = s.rail := rfl
@[simp] theorem State.switchOn_therm (s : State) : (s.switchOn).therm = s.therm := rfl
@[simp] theorem State.switchOn_store (s : State) : (s.switchOn).store = s.store := rfl
@[simp] theorem State.switchOn_exer (s : State) : (s.switchOn).exer = s.exer := rfl
@[simp] theorem State.switchOn_credit (s : State) : (s.switchOn).credit = s.credit := rfl
@[simp] theorem State.switchOn_fail (s : State) : (s.switchOn).fail = s.fail := rfl
@[simp] theorem State.switchOn_notice (s : State) : (s.switchOn).notice = s.notice := rfl
@[simp] theorem State.switchOn_link (s : State) : (s.switchOn).link = s.link := rfl
@[simp] theorem State.switchOn_freeCount (s : State) : (s.switchOn).freeCount = s.freeCount := rfl
@[simp] theorem State.switchOn_pending (s : State) : (s.switchOn).pending = s.pending := rfl

/-! `note` -/

@[simp] theorem State.note_slot (s : State) : (s.note).slot = s.slot := rfl
@[simp] theorem State.note_ident (s : State) : (s.note).ident = s.ident := rfl
@[simp] theorem State.note_recipe (s : State) : (s.note).recipe = s.recipe := rfl
@[simp] theorem State.note_rail (s : State) : (s.note).rail = s.rail := rfl
@[simp] theorem State.note_sock (s : State) : (s.note).sock = s.sock := rfl
@[simp] theorem State.note_therm (s : State) : (s.note).therm = s.therm := rfl
@[simp] theorem State.note_store (s : State) : (s.note).store = s.store := rfl
@[simp] theorem State.note_exer (s : State) : (s.note).exer = s.exer := rfl
@[simp] theorem State.note_fail (s : State) : (s.note).fail = s.fail := rfl
@[simp] theorem State.note_notice (s : State) : (s.note).notice = s.notice := rfl
@[simp] theorem State.note_link (s : State) : (s.note).link = s.link := rfl
@[simp] theorem State.note_freeCount (s : State) : (s.note).freeCount = s.freeCount := rfl
@[simp] theorem State.note_pending (s : State) : (s.note).pending = s.pending := rfl

/-! `beginPlay` -/

@[simp] theorem State.beginPlay_slot (s : State) : (s.beginPlay).slot = s.slot := by
  unfold State.beginPlay
  split <;> simp
@[simp] theorem State.beginPlay_ident (s : State) : (s.beginPlay).ident = s.ident := by
  unfold State.beginPlay
  split <;> simp
@[simp] theorem State.beginPlay_recipe (s : State) : (s.beginPlay).recipe = s.recipe := by
  unfold State.beginPlay
  split <;> simp
@[simp] theorem State.beginPlay_rail (s : State) : (s.beginPlay).rail = s.rail := by
  unfold State.beginPlay
  split <;> simp
@[simp] theorem State.beginPlay_sock (s : State) : (s.beginPlay).sock = s.sock := by
  unfold State.beginPlay
  split <;> simp
@[simp] theorem State.beginPlay_therm (s : State) : (s.beginPlay).therm = s.therm := by
  unfold State.beginPlay
  split <;> simp
@[simp] theorem State.beginPlay_credit (s : State) : (s.beginPlay).credit = s.credit := by
  unfold State.beginPlay
  split <;> simp
@[simp] theorem State.beginPlay_fail (s : State) : (s.beginPlay).fail = s.fail := by
  unfold State.beginPlay
  split <;> simp
@[simp] theorem State.beginPlay_link (s : State) : (s.beginPlay).link = s.link := by
  unfold State.beginPlay
  split <;> simp
@[simp] theorem State.beginPlay_freeCount (s : State) : (s.beginPlay).freeCount = s.freeCount := by
  unfold State.beginPlay
  split <;> simp
@[simp] theorem State.beginPlay_pending (s : State) : (s.beginPlay).pending = s.pending := by
  unfold State.beginPlay
  split <;> simp

/-! `retryDue` -/

@[simp] theorem State.retryDue_slot (s : State) : (s.retryDue).slot = s.slot := rfl
@[simp] theorem State.retryDue_ident (s : State) : (s.retryDue).ident = s.ident := rfl
@[simp] theorem State.retryDue_recipe (s : State) : (s.retryDue).recipe = s.recipe := rfl
@[simp] theorem State.retryDue_rail (s : State) : (s.retryDue).rail = s.rail := rfl
@[simp] theorem State.retryDue_therm (s : State) : (s.retryDue).therm = s.therm := rfl
@[simp] theorem State.retryDue_store (s : State) : (s.retryDue).store = s.store := rfl
@[simp] theorem State.retryDue_exer (s : State) : (s.retryDue).exer = s.exer := rfl
@[simp] theorem State.retryDue_credit (s : State) : (s.retryDue).credit = s.credit := rfl
@[simp] theorem State.retryDue_fail (s : State) : (s.retryDue).fail = s.fail := rfl
@[simp] theorem State.retryDue_notice (s : State) : (s.retryDue).notice = s.notice := rfl
@[simp] theorem State.retryDue_link (s : State) : (s.retryDue).link = s.link := rfl
@[simp] theorem State.retryDue_freeCount (s : State) : (s.retryDue).freeCount = s.freeCount := rfl
@[simp] theorem State.retryDue_pending (s : State) : (s.retryDue).pending = s.pending := rfl

/-! `enterRunning` -/

@[simp] theorem State.enterRunning_ident (s : State) : (s.enterRunning).ident = s.ident := by
  simp [State.enterRunning]
@[simp] theorem State.enterRunning_recipe (s : State) : (s.enterRunning).recipe = s.recipe := by
  simp [State.enterRunning]
@[simp] theorem State.enterRunning_fail (s : State) : (s.enterRunning).fail = s.fail := by
  simp [State.enterRunning]
@[simp] theorem State.enterRunning_link (s : State) : (s.enterRunning).link = s.link := by
  simp [State.enterRunning]
@[simp] theorem State.enterRunning_freeCount (s : State) : (s.enterRunning).freeCount = s.freeCount := by
  simp [State.enterRunning]
@[simp] theorem State.enterRunning_pending (s : State) : (s.enterRunning).pending = s.pending := by
  simp [State.enterRunning]

/-! `armingTest` -/

@[simp] theorem State.armingTest_ident (s : State) : (s.armingTest).ident = s.ident := by
  unfold State.armingTest
  split <;> simp
@[simp] theorem State.armingTest_recipe (s : State) : (s.armingTest).recipe = s.recipe := by
  unfold State.armingTest
  split <;> simp
@[simp] theorem State.armingTest_fail (s : State) : (s.armingTest).fail = s.fail := by
  unfold State.armingTest
  split <;> simp
@[simp] theorem State.armingTest_link (s : State) : (s.armingTest).link = s.link := by
  unfold State.armingTest
  split <;> simp
@[simp] theorem State.armingTest_freeCount (s : State) : (s.armingTest).freeCount = s.freeCount := by
  unfold State.armingTest
  split <;> simp
@[simp] theorem State.armingTest_pending (s : State) : (s.armingTest).pending = s.pending := by
  unfold State.armingTest
  split <;> simp

/-! `discardIdentity` -/

@[simp] theorem State.discardIdentity_slot (s : State) : (s.discardIdentity).slot = s.slot := rfl
@[simp] theorem State.discardIdentity_recipe (s : State) : (s.discardIdentity).recipe = s.recipe := rfl
@[simp] theorem State.discardIdentity_rail (s : State) : (s.discardIdentity).rail = s.rail := rfl
@[simp] theorem State.discardIdentity_sock (s : State) : (s.discardIdentity).sock = s.sock := rfl
@[simp] theorem State.discardIdentity_store (s : State) : (s.discardIdentity).store = s.store := rfl
@[simp] theorem State.discardIdentity_exer (s : State) : (s.discardIdentity).exer = s.exer := rfl
@[simp] theorem State.discardIdentity_credit (s : State) : (s.discardIdentity).credit = s.credit := rfl
@[simp] theorem State.discardIdentity_fail (s : State) : (s.discardIdentity).fail = s.fail := rfl
@[simp] theorem State.discardIdentity_notice (s : State) : (s.discardIdentity).notice = s.notice := rfl
@[simp] theorem State.discardIdentity_link (s : State) : (s.discardIdentity).link = s.link := rfl
@[simp] theorem State.discardIdentity_freeCount (s : State) : (s.discardIdentity).freeCount = s.freeCount := rfl
@[simp] theorem State.discardIdentity_pending (s : State) : (s.discardIdentity).pending = s.pending := rfl

/-! `enterIdentifying` -/

@[simp] theorem State.enterIdentifying_recipe (s : State) : (s.enterIdentifying).recipe = s.recipe := rfl
@[simp] theorem State.enterIdentifying_rail (s : State) : (s.enterIdentifying).rail = s.rail := rfl
@[simp] theorem State.enterIdentifying_sock (s : State) : (s.enterIdentifying).sock = s.sock := rfl
@[simp] theorem State.enterIdentifying_store (s : State) : (s.enterIdentifying).store = s.store := rfl
@[simp] theorem State.enterIdentifying_exer (s : State) : (s.enterIdentifying).exer = s.exer := rfl
@[simp] theorem State.enterIdentifying_credit (s : State) : (s.enterIdentifying).credit = s.credit := rfl
@[simp] theorem State.enterIdentifying_fail (s : State) : (s.enterIdentifying).fail = s.fail := rfl
@[simp] theorem State.enterIdentifying_link (s : State) : (s.enterIdentifying).link = s.link := rfl
@[simp] theorem State.enterIdentifying_freeCount (s : State) : (s.enterIdentifying).freeCount = s.freeCount := rfl
@[simp] theorem State.enterIdentifying_pending (s : State) : (s.enterIdentifying).pending = s.pending := rfl

/-! `attemptFails` -/

@[simp] theorem State.attemptFails_recipe (s : State) : (s.attemptFails).recipe = s.recipe := by
  unfold State.attemptFails
  split <;> rfl
@[simp] theorem State.attemptFails_rail (s : State) : (s.attemptFails).rail = s.rail := by
  unfold State.attemptFails
  split <;> rfl
@[simp] theorem State.attemptFails_sock (s : State) : (s.attemptFails).sock = s.sock := by
  unfold State.attemptFails
  split <;> rfl
@[simp] theorem State.attemptFails_therm (s : State) : (s.attemptFails).therm = s.therm := by
  unfold State.attemptFails
  split <;> rfl
@[simp] theorem State.attemptFails_store (s : State) : (s.attemptFails).store = s.store := by
  unfold State.attemptFails
  split <;> rfl
@[simp] theorem State.attemptFails_exer (s : State) : (s.attemptFails).exer = s.exer := by
  unfold State.attemptFails
  split <;> rfl
@[simp] theorem State.attemptFails_credit (s : State) : (s.attemptFails).credit = s.credit := by
  unfold State.attemptFails
  split <;> rfl
@[simp] theorem State.attemptFails_fail (s : State) : (s.attemptFails).fail = s.fail := by
  unfold State.attemptFails
  split <;> rfl
@[simp] theorem State.attemptFails_link (s : State) : (s.attemptFails).link = s.link := by
  unfold State.attemptFails
  split <;> rfl
@[simp] theorem State.attemptFails_freeCount (s : State) : (s.attemptFails).freeCount = s.freeCount := by
  unfold State.attemptFails
  split <;> rfl
@[simp] theorem State.attemptFails_pending (s : State) : (s.attemptFails).pending = s.pending := by
  unfold State.attemptFails
  split <;> rfl

end Sys2Proof.Machine
end

