-- ==== Sys2Proof/Laws/Memory.lean ====
section
/-! SUPPORT. The vector memory: read after write, and the canonical form that every operation keeps. -/

namespace Sys2Proof.Machine

/-- A list in canonical form from a bound reads as unlisted below that bound. -/
theorem Memory.read_below {low : Nat} {m : List SlotCell} (h : Memory.wfFrom low m = true) {a : Nat} (ha : a < low) :
    Memory.read m a = StimVector.atReset := by
  induction m generalizing low with
  | nil => rfl
  | cons c rest ih =>
    obtain ⟨k, v⟩ := c
    simp only [Memory.wfFrom, Bool.and_eq_true, decide_eq_true_eq] at h
    have hk : k ≠ a := by omega
    simp only [Memory.read, hk, if_false]
    exact ih h.2 (by omega)

theorem Memory.wfFrom_mono {low low' : Nat} {m : List SlotCell} (h : Memory.wfFrom low m = true) (hl : low' ≤ low) :
    Memory.wfFrom low' m = true := by
  cases m with
  | nil => rfl
  | cons c rest =>
    obtain ⟨k, v⟩ := c
    simp only [Memory.wfFrom, Bool.and_eq_true, decide_eq_true_eq] at h ⊢
    exact ⟨⟨by omega, h.1.2⟩, h.2⟩

/-- A write keeps the canonical form. -/
theorem Memory.write_wfFrom {low : Nat} {m : List SlotCell} (h : Memory.wfFrom low m = true) {a : Nat}
    (ha : low ≤ a) (v : StimVector) : Memory.wfFrom low (Memory.write m a v) = true := by
  induction m generalizing low with
  | nil =>
    by_cases hv : v = StimVector.atReset <;> simp [Memory.write, Memory.wfFrom, hv, ha]
  | cons c rest ih =>
    obtain ⟨k, w⟩ := c
    have h' := h
    simp only [Memory.wfFrom, Bool.and_eq_true, decide_eq_true_eq] at h
    obtain ⟨⟨hk, hw⟩, hr⟩ := h
    unfold Memory.write
    split
    · split
      · exact h'
      · next hv =>
        simp only [Memory.wfFrom, Bool.and_eq_true, decide_eq_true_eq]
        exact ⟨⟨ha, hv⟩, ⟨by omega, hw⟩, hr⟩
    · split
      · split
        · exact Memory.wfFrom_mono hr (by omega)
        · next hak hv =>
          simp only [Memory.wfFrom, Bool.and_eq_true, decide_eq_true_eq]
          exact ⟨⟨ha, hv⟩, hak ▸ hr⟩
      · simp only [Memory.wfFrom, Bool.and_eq_true, decide_eq_true_eq]
        exact ⟨⟨hk, hw⟩, ih hr (by omega)⟩

theorem Memory.write_wf {m : List SlotCell} (h : Memory.wf m = true) (a : Nat) (v : StimVector) :
    Memory.wf (Memory.write m a v) = true :=
  Memory.write_wfFrom h (Nat.zero_le a) v

theorem Memory.writeFrom_wf {m : List SlotCell} (h : Memory.wf m = true) (slot : Nat) (vs : List StimVector) :
    Memory.wf (Memory.writeFrom m slot vs) = true := by
  induction vs generalizing m slot with
  | nil => exact h
  | cons v rest ih => exact ih (Memory.write_wf h _ _) _

/-- The slots a write lists are those already listed and the slot written. -/
theorem Memory.mem_write {m : List SlotCell} {a : Nat} {v : StimVector} {c : SlotCell} (h : c ∈ Memory.write m a v) :
    c ∈ m ∨ c.1 = a := by
  induction m with
  | nil =>
    by_cases hv : v = StimVector.atReset <;> simp [Memory.write, hv] at h
    right; rw [h]
  | cons d rest ih =>
    obtain ⟨k, w⟩ := d
    unfold Memory.write at h
    split at h
    · split at h
      · exact .inl h
      · rcases List.mem_cons.mp h with rfl | h
        · exact .inr rfl
        · exact .inl h
    · split at h
      · split at h
        · exact .inl (List.mem_cons_of_mem _ h)
        · rcases List.mem_cons.mp h with rfl | h
          · exact .inr rfl
          · exact .inl (List.mem_cons_of_mem _ h)
      · rcases List.mem_cons.mp h with rfl | h
        · exact .inl List.mem_cons_self
        · rcases ih h with h | h
          · exact .inl (List.mem_cons_of_mem _ h)
          · exact .inr h

theorem Memory.mem_writeFrom {m : List SlotCell} {slot : Nat} {vs : List StimVector} {c : SlotCell}
    (h : c ∈ Memory.writeFrom m slot vs) : c ∈ m ∨ c.1 < Config.vectorSlots := by
  induction vs generalizing m slot with
  | nil => exact .inl h
  | cons v rest ih =>
    rcases ih h with h | h
    · rcases Memory.mem_write h with h | h
      · exact .inl h
      · exact .inr (h ▸ Nat.mod_lt _ (by decide))
    · exact .inr h

/-- A read elsewhere than the slot written is as before. -/
theorem Memory.read_write_ne (m : List SlotCell) {a b : Nat} (v : StimVector) (hab : b ≠ a) :
    Memory.read (Memory.write m a v) b = Memory.read m b := by
  induction m with
  | nil => by_cases hv : v = StimVector.atReset <;> simp [Memory.write, Memory.read, hv, hab.symm]
  | cons d rest ih =>
    obtain ⟨k, w⟩ := d
    unfold Memory.write
    split
    · split
      · rfl
      · simp [Memory.read, hab.symm]
    · split
      · next hak =>
        have hk : k ≠ b := fun e => hab (by rw [← e, ← hak])
        split <;> simp [Memory.read, hk, hab.symm]
      · simp [Memory.read, ih]

theorem reset_memory_wf : Memory.wf State.reset.store.memory = true := rfl

end Sys2Proof.Machine
end

