-- ==== Sys2Proof/Laws/Ops.lean ====
section
/-! SUPPORT. What each shared operation does, said once. -/

namespace Sys2Proof.Machine

/-! ### The notice unit -/

/-- A raise in a class: nothing at level 0, else the count rises and the flag is set unless silenced. -/
theorem Notices.countRaise_get (n : Notices) (c d : Fin 12) :
    (n.countRaise c).classes.get d =
      if c = d ∧ (n.classes.get c).level ≠ 0 then
        { n.classes.get d with
          count := satInc 255 (n.classes.get d).count, pending := (n.classes.get d).pending || !n.silenced c }
      else n.classes.get d := by
  unfold Notices.countRaise
  dsimp only
  by_cases h0 : (n.classes.get c).level = 0
  · simp [h0]
  · by_cases hc : c = d
    · subst hc; simp [h0]
    · simp [h0, hc, Bank.get_set]

@[simp] theorem Notices.countRaise_capture (n : Notices) (c : Fin 12) : (n.countRaise c).capture = n.capture := by
  unfold Notices.countRaise; dsimp only; split <;> rfl

@[simp] theorem Notices.countRaise_threshold (n : Notices) (c : Fin 12) :
    (n.countRaise c).threshold = n.threshold := by
  unfold Notices.countRaise; dsimp only; split <;> rfl

@[simp] theorem State.notify_notice (s : State) (c : Fin 12) (x : Source) :
    (s.notify c x).notice = s.notice.countRaise c := rfl

/-! ### The failure recorder -/

/-- A failure handed over leaves the recorder as R153 takes it. -/
@[simp] theorem State.logFailure_fail (s : State) (x : FailureKind) (k : Option (Fin 48)) (u : Option Nat)
    (d : Word16) :
    (s.logFailure x k u d).fail =
      s.fail.take { seq := s.fail.nextSeq, kind := x, socket := k, unit := u, stamp := s.credit.accumulated,
                    detail := d } := by
  unfold State.logFailure
  dsimp only
  (repeat' split) <;> rfl

/-- The log never grows past its limit. -/
theorem Recorder.take_length (f : Recorder) (e : FailureEntry) (h : f.log.length ≤ Config.logLimit) :
    (f.take e).log.length ≤ Config.logLimit := by
  unfold Recorder.take
  by_cases hf : Config.logLimit ≤ f.log.length
  · simpa [hf] using h
  · simp [hf]; omega

/-! ### Slot state -/

@[simp] theorem State.moveTo_slot (s : State) (x : SlotState) : (s.moveTo x).slot = { s.slot with state := x } := rfl

@[simp] theorem State.moveTo_notice (s : State) (x : SlotState) : (s.moveTo x).notice = s.notice.countRaise 0 := rfl

/-! ### Records of a bank -/

@[simp] theorem State.modSocket_get (s : State) (k j : Fin 48) (f : SocketRec → SocketRec) :
    (s.modSocket k f).sock.sockets.get j = if k = j then f (s.sock.sockets.get j) else s.sock.sockets.get j := by
  simp [State.modSocket, Bank.get_modify]

@[simp] theorem State.modRail_get (s : State) (r j : Fin 4) (f : RailRec → RailRec) :
    (s.modRail r f).rail.rails.get j = if r = j then f (s.rail.rails.get j) else s.rail.rails.get j := by
  simp [State.modRail, Bank.get_modify]

@[simp] theorem State.modZone_get (s : State) (z j : Fin 6) (f : ZoneRec → ZoneRec) :
    (s.modZone z f).therm.zones.get j = if z = j then f (s.therm.zones.get j) else s.therm.zones.get j := by
  simp [State.modZone, Bank.get_modify]

@[simp] theorem State.modCompare_get (s : State) (k j : Fin 48) (f : CompareRec → CompareRec) :
    (s.modCompare k f).exer.compare.get j = if k = j then f (s.exer.compare.get j) else s.exer.compare.get j := by
  simp [State.modCompare, Bank.get_modify]

/-! ### The exerciser -/

/-- Play settings applied leave the exerciser's state alone unless it is STARVED. -/
theorem State.applyPlay_exerState (s : State) (p : PlaySettings) (h : s.exer.state ≠ .starved) :
    (s.applyPlay p).exer.state = s.exer.state := by
  unfold State.applyPlay
  dsimp only
  split <;> simp [h]

@[simp] theorem Exerciser.applyChannel_state (e : Exerciser) (c : Fin 16) (x : ChannelSection) :
    (e.applyChannel c x).state = e.state := rfl

@[simp] theorem Exerciser.applyTiming_state (e : Exerciser) (x : Option Timing) : (e.applyTiming x).state = e.state := by
  cases x <;> rfl

@[simp] theorem Exerciser.applyChannels_state (e : Exerciser) (x : Bank (Option ChannelSection) 16) :
    (e.applyChannels x).state = e.state :=
  foldl_frame Exerciser.state _ (fun e c => by split <;> rfl) _ _

theorem State.applySettings_exerState (s : State) (x : Settings) (h : s.exer.state ≠ .starved) :
    (s.applySettings x).exer.state = s.exer.state := by
  unfold State.applySettings
  dsimp only
  split
  · rw [State.applyPlay_exerState] <;> simp [h]
  · simp

/-- R128: after the entry to DRAINING or SAFE the exerciser is IDLE. -/
@[simp] theorem State.idleExerciser_exerState (s : State) : s.idleExerciser.exer.state = .idle := by
  unfold State.idleExerciser State.applyStaged State.applyBoundary
  dsimp only
  rw [State.applySettings_exerState] <;> simp only [State.setExer_exer]
  · rw [State.applySettings_exerState] <;> simp
  · rw [State.applySettings_exerState] <;> simp

/-! ### The arc of the store (R110) -/

@[simp] theorem framesArc_nil (start stop : Nat) : framesArc start [] stop = true ↔ start = stop := by
  simp [framesArc]

@[simp] theorem framesArc_cons (start stop : Nat) (f : FrameDesc) (rest : List FrameDesc) :
    framesArc start (f :: rest) stop = true
      ↔ f.first = start ∧ framesArc ((start + f.count) % Config.vectorSlots) rest stop = true := by
  simp [framesArc]

/-- Two arcs meet at the slot where the first ends and the second begins. -/
theorem framesArc_append (start stop : Nat) (l m : List FrameDesc) :
    framesArc start (l ++ m) stop = true ↔ ∃ mid, framesArc start l mid = true ∧ framesArc mid m stop = true := by
  induction l generalizing start with
  | nil => simp
  | cons f rest ih => simp [ih, and_assoc]

/-- A change of frames that moves neither first slot nor count leaves the arc. -/
theorem framesArc_map (g : FrameDesc → FrameDesc) (h : ∀ f, (g f).first = f.first ∧ (g f).count = f.count)
    (start stop : Nat) (l : List FrameDesc) : framesArc start (l.map g) stop = framesArc start l stop := by
  induction l generalizing start with
  | nil => rfl
  | cons f rest ih => simp [framesArc, h, ih]

/-! ### The end of a run -/

@[simp] theorem State.quiesce_slot (s : State) :
    s.quiesce.slot = { s.slot with paused := false, armTimer := none } := by
  simp [State.quiesce]

@[simp] theorem State.quiesce_sock (s : State) :
    s.quiesce.sock = { s.sock with sockets := s.sock.sockets.map SocketRec.endRun } := by
  simp [State.quiesce]

@[simp] theorem State.quiesce_therm (s : State) :
    s.quiesce.therm = { s.therm with zones := s.therm.zones.map ZoneRec.endRun,
                                     slotBudget := s.therm.slotBudget.endRun } := by
  simp [State.quiesce]

@[simp] theorem State.quiesce_credit (s : State) : s.quiesce.credit = s.credit.endRun := by
  simp [State.quiesce]

@[simp] theorem State.quiesce_exerState (s : State) : s.quiesce.exer.state = .idle := by
  simp [State.quiesce]

/-- R17: the slot record after the entry to DRAINING. -/
@[simp] theorem State.enterDraining_slot (s : State) (c : EndCause) :
    (s.enterDraining c).slot =
      { s.slot with state := .draining, endCause := c, paused := false, armTimer := none,
                    drainTimer := some Config.drainMs } := by
  simp [State.enterDraining]

@[simp] theorem State.enterDraining_sock (s : State) (c : EndCause) :
    (s.enterDraining c).sock = { s.sock with sockets := s.sock.sockets.map SocketRec.endRun } := by
  simp [State.enterDraining]

@[simp] theorem State.enterDraining_therm (s : State) (c : EndCause) :
    (s.enterDraining c).therm = { s.therm with zones := s.therm.zones.map ZoneRec.endRun,
                                               slotBudget := s.therm.slotBudget.endRun } := by
  simp [State.enterDraining]

@[simp] theorem State.enterDraining_credit (s : State) (c : EndCause) :
    (s.enterDraining c).credit = s.credit.endRun := by
  simp [State.enterDraining]

@[simp] theorem State.enterDraining_rail (s : State) (c : EndCause) : (s.enterDraining c).rail = s.rail.beginDrain := by
  simp [State.enterDraining]

@[simp] theorem State.enterDraining_exerState (s : State) (c : EndCause) :
    (s.enterDraining c).exer.state = .idle := by
  simp [State.enterDraining]

/-- R19: the slot record after the entry to SAFE. -/
@[simp] theorem State.enterSafe_slot (s : State) (c : EndCause) (f : FailureKind) (k : Fin 12) (x : Source) :
    (s.enterSafe c f k x).slot =
      { s.slot with state := .safe, endCause := c, paused := false, armTimer := none, drainTimer := none } := by
  simp [State.enterSafe]

@[simp] theorem State.enterSafe_sock (s : State) (c : EndCause) (f : FailureKind) (k : Fin 12) (x : Source) :
    (s.enterSafe c f k x).sock = { s.sock with sockets := s.sock.sockets.map SocketRec.endRun } := by
  simp [State.enterSafe]

@[simp] theorem State.enterSafe_therm (s : State) (c : EndCause) (f : FailureKind) (k : Fin 12) (x : Source) :
    (s.enterSafe c f k x).therm = { s.therm with zones := s.therm.zones.map ZoneRec.endRun,
                                                 slotBudget := s.therm.slotBudget.endRun } := by
  simp [State.enterSafe]

@[simp] theorem State.enterSafe_credit (s : State) (c : EndCause) (f : FailureKind) (k : Fin 12) (x : Source) :
    (s.enterSafe c f k x).credit = s.credit.endRun := by
  simp [State.enterSafe]

@[simp] theorem State.enterSafe_rail (s : State) (c : EndCause) (f : FailureKind) (k : Fin 12) (x : Source) :
    (s.enterSafe c f k x).rail = s.rail.allOff := by
  simp [State.enterSafe]

@[simp] theorem State.enterSafe_exerState (s : State) (c : EndCause) (f : FailureKind) (k : Fin 12) (x : Source) :
    (s.enterSafe c f k x).exer.state = .idle := by
  simp [State.enterSafe]

/-- A departure from ACTIVE or WARNED, seen on the records. -/
theorem State.depart_get (s : State) (k j : Fin 48) :
    (s.depart k).sock.sockets.get j =
      if k = j then (s.sock.sockets.get j).depart else s.sock.sockets.get j := by
  unfold State.depart
  split
  · simp
  · next h =>
    by_cases hk : k = j
    · subst hk; simp [SocketRec.depart, h]
    · simp [hk]

/-! ### Requests -/

@[simp] theorem State.heard_slot (s : State) : s.heard.slot = s.slot := rfl

theorem State.screen_heard (s : State) (k : Kind) (r : Request) : s.heard.screen k r = s.screen k r := rfl

/-- A request that is taken is executed by its kind's rule at once. -/
theorem State.request_takes {s : State} {k : Kind} {r : Request} (h : s.Takes k r) (rule : Call → State → Answer) :
    s.request k r rule = (rule (callOf r) s.heard).state.answering k r (rule (callOf r) s.heard).result
      (rule (callOf r) s.heard).data := by
  obtain ⟨h1, h2, h3⟩ := h
  have hs : s.heard.screen k r = none := h3
  simp [State.request, State.arrive, Link.sending, Link.busy, h1, h2, State.serve, State.answering,
    show s.setLink { s.link.restartSilence with receiver := .waitAddress } = s.heard from rfl, hs]

/-- What the end of a request's execution leaves in the blocks other than the link. -/
theorem State.conclude_eq (a : Answer) (c : Byte) (hit : FilterHit) (b : Bool) :
    ∃ l, State.conclude c hit b a = a.state.setLink l := by
  unfold State.conclude
  split <;> exact ⟨_, rfl⟩

end Sys2Proof.Machine
end

