-- ==== Sys2Proof/Laws/PerInstr.lean ====
section
/-! SUPPORT. The family Message: a command that is a request is the command of its kind and request. -/

namespace Sys2Proof.Laws.Message

open Sys2Proof.Machine

/-- A command that carries a request of a kind is that kind's command. -/
def Statement (i : Instr) : Prop := ∀ k r, i.message = some (k, r) → commandOf k r = i

theorem powerOn (straps : Straps) : Statement (.powerOn straps) := by
  intro k r h; cases h
theorem pinReset (straps : Straps) : Statement (.pinReset straps) := by
  intro k r h; cases h
theorem restartShutOff (straps : Straps) : Statement (.restartShutOff straps) := by
  intro k r h; cases h
theorem seatContactChange (contactA contactB : Bool) : Statement (.seatContactChange contactA contactB) := by
  intro k r h; cases h
theorem seatMakeTimerExpiry : Statement .seatMakeTimerExpiry := by
  intro k r h; cases h
theorem seatOpenTimerExpiry : Statement .seatOpenTimerExpiry := by
  intro k r h; cases h
theorem safetyChainOpen (level : ChainLevel) : Statement (.safetyChainOpen level) := by
  intro k r h; cases h
theorem identityAttemptEnd (read : BusRead) : Statement (.identityAttemptEnd read) := by
  intro k r h; cases h
theorem identityAttemptTimeout : Statement .identityAttemptTimeout := by
  intro k r h; cases h
theorem identityRetryWaitExpiry : Statement .identityRetryWaitExpiry := by
  intro k r h; cases h
theorem armTimerExpiry : Statement .armTimerExpiry := by
  intro k r h; cases h
theorem drainTimerExpiry : Statement .drainTimerExpiry := by
  intro k r h; cases h
theorem railDrainStep : Statement .railDrainStep := by
  intro k r h; cases h
theorem linkSilenceExpiry : Statement .linkSilenceExpiry := by
  intro k r h; cases h
theorem railSample (readings : Bank RailReading 4) : Statement (.railSample readings) := by
  intro k r h; cases h
theorem settleTimerExpiry (rail : Fin 4) : Statement (.settleTimerExpiry rail) := by
  intro k r h; cases h
theorem socketSample (socket : Fin 48) (ma : Nat) : Statement (.socketSample socket ma) := by
  intro k r h; cases h
theorem blankingExpiry (socket : Fin 48) : Statement (.blankingExpiry socket) := by
  intro k r h; cases h
theorem cooldownExpiry (socket : Fin 48) : Statement (.cooldownExpiry socket) := by
  intro k r h; cases h
theorem controlPassStart : Statement .controlPassStart := by
  intro k r h; cases h
theorem controlPassComplete (codes : Bank Nat 6) : Statement (.controlPassComplete codes) := by
  intro k r h; cases h
theorem heaterPwmFrameStart : Statement .heaterPwmFrameStart := by
  intro k r h; cases h
theorem creditIntervalExpiry : Statement .creditIntervalExpiry := by
  intro k r h; cases h
theorem vectorEnd : Statement .vectorEnd := by
  intro k r h; cases h
theorem vectorStrobe (lines : BitVec 48) : Statement (.vectorStrobe lines) := by
  intro k r h; cases h
theorem lineCharacter (char : LineChar) : Statement (.lineCharacter char) := by
  intro k r h; cases h
theorem lineCharacterTimeout : Statement .lineCharacterTimeout := by
  intro k r h; cases h
theorem replyStart : Statement .replyStart := by
  intro k r h; cases h
theorem replyComplete : Statement .replyComplete := by
  intro k r h; cases h
theorem ping (req : Request) : Statement (.ping req) := by
  rintro k r h; cases h; rfl
theorem status (req : Request) : Statement (.status req) := by
  rintro k r h; cases h; rfl
theorem release (req : Request) : Statement (.release req) := by
  rintro k r h; cases h; rfl
theorem restart (req : Request) : Statement (.restart req) := by
  rintro k r h; cases h; rfl
theorem setLink (req : Request) : Statement (.setLink req) := by
  rintro k r h; cases h; rfl
theorem setClass (req : Request) : Statement (.setClass req) := by
  rintro k r h; cases h; rfl
theorem ackClasses (req : Request) : Statement (.ackClasses req) := by
  rintro k r h; cases h; rfl
theorem readUnanswered (req : Request) : Statement (.readUnanswered req) := by
  rintro k r h; cases h; rfl
theorem linkStats (req : Request) : Statement (.linkStats req) := by
  rintro k r h; cases h; rfl
theorem readIdentity (req : Request) : Statement (.readIdentity req) := by
  rintro k r h; cases h; rfl
theorem reidentify (req : Request) : Statement (.reidentify req) := by
  rintro k r h; cases h; rfl
theorem loadRecipe (req : Request) : Statement (.loadRecipe req) := by
  rintro k r h; cases h; rfl
theorem readRecipe (req : Request) : Statement (.readRecipe req) := by
  rintro k r h; cases h; rfl
theorem start (req : Request) : Statement (.start req) := by
  rintro k r h; cases h; rfl
theorem go (req : Request) : Statement (.go req) := by
  rintro k r h; cases h; rfl
theorem stop (req : Request) : Statement (.stop req) := by
  rintro k r h; cases h; rfl
theorem pause (req : Request) : Statement (.pause req) := by
  rintro k r h; cases h; rfl
theorem resume (req : Request) : Statement (.resume req) := by
  rintro k r h; cases h; rfl
theorem clearSafe (req : Request) : Statement (.clearSafe req) := by
  rintro k r h; cases h; rfl
theorem retireSocket (req : Request) : Statement (.retireSocket req) := by
  rintro k r h; cases h; rfl
theorem setZone (req : Request) : Statement (.setZone req) := by
  rintro k r h; cases h; rfl
theorem setRail (req : Request) : Statement (.setRail req) := by
  rintro k r h; cases h; rfl
theorem setBudget (req : Request) : Statement (.setBudget req) := by
  rintro k r h; cases h; rfl
theorem readZones (req : Request) : Statement (.readZones req) := by
  rintro k r h; cases h; rfl
theorem readRails (req : Request) : Statement (.readRails req) := by
  rintro k r h; cases h; rfl
theorem setTiming (req : Request) : Statement (.setTiming req) := by
  rintro k r h; cases h; rfl
theorem setChannel (req : Request) : Statement (.setChannel req) := by
  rintro k r h; cases h; rfl
theorem frameOpen (req : Request) : Statement (.frameOpen req) := by
  rintro k r h; cases h; rfl
theorem frameData (req : Request) : Statement (.frameData req) := by
  rintro k r h; cases h; rfl
theorem frameCancel (req : Request) : Statement (.frameCancel req) := by
  rintro k r h; cases h; rfl
theorem purgeFrames (req : Request) : Statement (.purgeFrames req) := by
  rintro k r h; cases h; rfl
theorem setPlay (req : Request) : Statement (.setPlay req) := by
  rintro k r h; cases h; rfl
theorem exerciseStart (req : Request) : Statement (.exerciseStart req) := by
  rintro k r h; cases h; rfl
theorem exerciseStop (req : Request) : Statement (.exerciseStop req) := by
  rintro k r h; cases h; rfl
theorem readStore (req : Request) : Statement (.readStore req) := by
  rintro k r h; cases h; rfl
theorem readSockets (req : Request) : Statement (.readSockets req) := by
  rintro k r h; cases h; rfl
theorem fetchFailures (req : Request) : Statement (.fetchFailures req) := by
  rintro k r h; cases h; rfl
theorem armCapture (req : Request) : Statement (.armCapture req) := by
  rintro k r h; cases h; rfl
theorem readCapture (req : Request) : Statement (.readCapture req) := by
  rintro k r h; cases h; rfl
theorem unknownKind (hit : FilterHit) (body : List Byte) : Statement (.unknownKind hit body) := by
  intro k r h; cases h

end Sys2Proof.Laws.Message
end

