-- ==== Sys2Proof/Laws/Settings.lean ====
section
/-! SUPPORT. What applying settings can do (R135, R121, R122, R123), said once: `State.applySettings_applied`. -/

namespace Sys2Proof.Machine

/-! ### The channels -/

/-- What times a channel's clock differs between two exercisers. -/
def Exerciser.retimed (e e' : Exerciser) (c : Fin 16) : Prop :=
  let a := e.channels.get c
  let b := e'.channels.get c
  b.mode ≠ a.mode ∨ b.period ≠ a.period ∨ b.high ≠ a.high ∨ b.dead ≠ a.dead

/-- The even channel below goes into or out of PAIR between two exercisers. -/
def Exerciser.pairMoved (e e' : Exerciser) (c : Fin 16) : Prop :=
  ∃ b : Fin 16, b.val % 2 = 0 ∧ b.val + 1 = c.val
    ∧ ((e'.channels.get b).mode = .pair ↔ (e.channels.get b).mode ≠ .pair)

theorem ChannelSection.clockDiffers_iff (a b : ChannelSection) :
    a.clockDiffers b = true ↔ b.mode ≠ a.mode ∨ b.period ≠ a.period ∨ b.high ≠ a.high ∨ b.dead ≠ a.dead := by
  simp [ChannelSection.clockDiffers, or_assoc, @eq_comm _ b.mode, @eq_comm _ b.period, @eq_comm _ b.high,
    @eq_comm _ b.dead]

theorem pairUpper_eq_some (c o : Fin 16) : pairUpper c = some o ↔ c.val % 2 = 0 ∧ c.val + 1 = o.val := by
  unfold pairUpper
  split <;> simp_all [Fin.ext_iff]

@[simp] theorem Exerciser.applyChannel_channels (e : Exerciser) (c : Fin 16) (x : ChannelSection) :
    (e.applyChannel c x).channels = e.channels.set c x := rfl

/-- A clock's age after one channel's entry is replaced. -/
theorem Exerciser.applyChannel_clockAge (e : Exerciser) (c d : Fin 16) (x : ChannelSection) :
    (e.applyChannel c x).clockAge.get d =
      if (c = d ∧ (e.channels.get c).clockDiffers x = true)
        ∨ (pairUpper c = some d ∧ (x.mode = .pair ↔ (e.channels.get c).mode ≠ .pair))
      then 0 else e.clockAge.get d := by
  have flip : (((e.channels.get c).mode == ChannelMode.pair) != (x.mode == ChannelMode.pair)) = true
      ↔ (x.mode = .pair ↔ (e.channels.get c).mode ≠ .pair) := by
    by_cases h1 : (e.channels.get c).mode = .pair <;> by_cases h2 : x.mode = .pair <;> simp [h1, h2]
  unfold Exerciser.applyChannel
  dsimp only
  by_cases hf : (x.mode = .pair ↔ (e.channels.get c).mode ≠ .pair)
  · rw [if_pos (flip.mpr hf)]
    cases hp : pairUpper c with
    | none => by_cases hd : (e.channels.get c).clockDiffers x = true <;> simp [hd, Bank.get_set]
    | some o =>
      by_cases hd : (e.channels.get c).clockDiffers x = true <;> by_cases ho : o = d <;>
        simp [hd, ho, hf, Bank.get_set]
  · rw [if_neg (fun h => hf (flip.mp h))]
    by_cases hd : (e.channels.get c).clockDiffers x = true <;> simp [hd, hf, Bank.get_set]

/-- Nothing of the exerciser but channels and ages moves when a channel's entry is replaced. -/
theorem Exerciser.applyChannel_rest (e : Exerciser) (c : Fin 16) (x : ChannelSection) :
    e.applyChannel c x =
      { e with channels := (e.applyChannel c x).channels, clockAge := (e.applyChannel c x).clockAge } := rfl

/-- One more entry replaced, where the entries so far left that channel's alone: what differs now is what differed
before and what this entry brings. -/
theorem Exerciser.applyChannel_moved (e e1 : Exerciser) (a d : Fin 16) (x : ChannelSection)
    (ha : e1.channels.get a = e.channels.get a) :
    (e.retimed (e1.applyChannel a x) d ∨ e.pairMoved (e1.applyChannel a x) d)
      ↔ (e.retimed e1 d ∨ e.pairMoved e1 d)
        ∨ (a = d ∧ (e1.channels.get a).clockDiffers x = true)
        ∨ (pairUpper a = some d ∧ (x.mode = .pair ↔ (e1.channels.get a).mode ≠ .pair)) := by
  have h1 : e.retimed (e1.applyChannel a x) d
      ↔ e.retimed e1 d ∨ (a = d ∧ (e1.channels.get a).clockDiffers x = true) := by
    by_cases had : a = d
    · subst had
      simp [Exerciser.retimed, ha, ChannelSection.clockDiffers_iff]
    · simp [Exerciser.retimed, had, Bank.get_set_ne]
  have h2 : e.pairMoved (e1.applyChannel a x) d
      ↔ e.pairMoved e1 d ∨ (pairUpper a = some d ∧ (x.mode = .pair ↔ (e1.channels.get a).mode ≠ .pair)) := by
    rw [pairUpper_eq_some, ha]
    constructor
    · rintro ⟨b, hb, hd, hm⟩
      by_cases hab : a = b
      · subst hab
        exact .inr ⟨⟨hb, hd⟩, by simpa using hm⟩
      · exact .inl ⟨b, hb, hd, by simpa [Bank.get_set_ne _ _ hab] using hm⟩
    · rintro (⟨b, hb, hd, hm⟩ | ⟨⟨hb, hd⟩, hm⟩)
      · have hab : a ≠ b := by
          rintro rfl
          rw [ha] at hm
          by_cases h : (e.channels.get a).mode = .pair <;> simp [h] at hm
        exact ⟨b, hb, hd, by simpa [Bank.get_set_ne _ _ hab] using hm⟩
      · exact ⟨a, hb, hd, by simpa using hm⟩
  rw [h1, h2]
  tauto

/-- The entries of the channels in a list, each at most once, replaced in turn. -/
theorem Exerciser.applyChannels_fold (x : Bank (Option ChannelSection) 16) (e : Exerciser) (l : List (Fin 16))
    (hl : l.Nodup) :
    let e' := l.foldl (fun e c => match x.get c with
      | some new => e.applyChannel c new
      | none => e) e
    (∀ c, e'.channels.get c = if c ∈ l then (x.get c).getD (e.channels.get c) else e.channels.get c)
      ∧ (∀ c, (e.retimed e' c ∨ e.pairMoved e' c → e'.clockAge.get c = 0)
        ∧ (¬ (e.retimed e' c ∨ e.pairMoved e' c) → e'.clockAge.get c = e.clockAge.get c))
      ∧ e' = { e with channels := e'.channels, clockAge := e'.clockAge } := by
  induction l using List.reverseRecOn with
  | nil =>
    refine ⟨by simp, fun c => ⟨?_, fun _ => rfl⟩, rfl⟩
    rintro (h | ⟨b, _, _, h⟩)
    · simp [Exerciser.retimed] at h
    · by_cases hb : (e.channels.get b).mode = .pair <;> simp [hb] at h
  | append_singleton l a ih =>
    obtain ⟨hl', _, hdis⟩ := List.nodup_append.mp hl
    have hal : a ∉ l := fun h => hdis a h a (by simp) rfl
    have ih := ih hl'
    dsimp only at ih ⊢
    rw [List.foldl_append, List.foldl_cons, List.foldl_nil]
    generalize l.foldl (fun e c => match x.get c with
      | some new => e.applyChannel c new
      | none => e) e = e1 at ih ⊢
    obtain ⟨ih1, ih2, ih3⟩ := ih
    have ha : e1.channels.get a = e.channels.get a := by rw [ih1, if_neg hal]
    cases hx : x.get a with
    | none =>
      refine ⟨fun c => ?_, ih2, ih3⟩
      rw [ih1]
      by_cases hca : c = a
      · subst hca; simp [hal, hx]
      · simp [hca]
    | some new =>
      refine ⟨fun c => ?_, fun c => ?_, ?_⟩
      · by_cases hca : a = c
        · subst hca; simp [hx]
        · have : c ≠ a := fun h => hca h.symm
          simp [Bank.get_set_ne _ _ hca, ih1, this]
      · dsimp only
        rw [Exerciser.applyChannel_moved e e1 a c new ha, Exerciser.applyChannel_clockAge]
        constructor
        · rintro (h | h)
          · rw [(ih2 c).1 h, ite_self]
          · rw [if_pos h]
        · intro h
          rw [not_or] at h
          rw [if_neg h.2, (ih2 c).2 h.1]
      · dsimp only
        exact congrArg (fun y : Exerciser => { y with
          channels := (e1.applyChannel a new).channels, clockAge := (e1.applyChannel a new).clockAge }) ih3

/-- Every waiting entry applied. -/
theorem Exerciser.applyChannels_spec (e : Exerciser) (x : Bank (Option ChannelSection) 16) :
    (∀ c, (e.applyChannels x).channels.get c = (x.get c).getD (e.channels.get c))
      ∧ (∀ c, (e.retimed (e.applyChannels x) c ∨ e.pairMoved (e.applyChannels x) c →
          (e.applyChannels x).clockAge.get c = 0)
        ∧ (¬ (e.retimed (e.applyChannels x) c ∨ e.pairMoved (e.applyChannels x) c) →
          (e.applyChannels x).clockAge.get c = e.clockAge.get c))
      ∧ e.applyChannels x =
        { e with channels := (e.applyChannels x).channels, clockAge := (e.applyChannels x).clockAge } := by
  have h := Exerciser.applyChannels_fold x e (List.finRange 16) (List.nodup_finRange 16)
  simp only [List.mem_finRange, if_true] at h
  exact h

/-! ### The play mode -/

/-- R121, R122: what putting a play mode in force does to the store. -/
theorem Store.setMode_moded (st : Store) (m : PlayMode) : st.Moded (st.setMode m) m := by
  refine ⟨?_, ?_, ?_⟩
  · rintro rfl
    cases h : st.mode <;> simp [Store.setMode, h]
  · rintro h rfl
    simp only [Store.setMode, h, Store.toLoop]
    congr 1
    apply List.map_congr_left
    rintro ⟨id, first, count, repeats, checked, status⟩ _
    cases status <;> simp [FrameStatus.isTail]
    split <;> rfl
  · rintro h rfl
    simp only [Store.setMode, h, Store.toStream]
    refine ⟨fun hc => by rw [hc], ?_⟩
    intro before f after hc hf hb
    have hd : st.frames.dropWhile (fun g => g.id != f.id) = f :: after := by
      rw [hf, List.dropWhile_append_of_pos (by simpa using hb)]
      simp
    simp [hc, hd, Store.syncReadEnd]

@[simp] theorem Store.setMode_mode (st : Store) (m : PlayMode) : (st.setMode m).mode = m := by
  cases h : st.mode <;> cases m <;> simp [Store.setMode, h, Store.toLoop, Store.toStream]
  split <;> rfl

@[simp] theorem Store.setMode_lowWater (st : Store) (m : PlayMode) : (st.setMode m).lowWater = st.lowWater := by
  cases h : st.mode <;> cases m <;> simp [Store.setMode, h, Store.toLoop, Store.toStream]
  split <;> rfl

/-! ### Settings applied -/

/-- R135, R123: the SET_PLAY fields applied while the exerciser is not STARVED. -/
theorem State.applyPlay_eq (s : State) (p : PlaySettings) (h : s.exer.state ≠ .starved) :
    s.applyPlay p =
      let put := (s.setStore { s.store.setMode p.mode with lowWater := p.lowWater }).setExer
        { s.exer with underrun := p.underrun }
      if p.lowWater = s.store.lowWater ∧ p.mode = .stream ∧ p.lowWater < s.store.readyCount
          ∧ put.store.readyCount ≤ p.lowWater
        then put.setNotice (s.notice.countRaise 7) else put := by
  unfold State.applyPlay
  simp only [h, false_and, if_false]
  by_cases hm : p.lowWater = s.store.lowWater
  · simp only [hm, if_true, State.lowWater, State.setExer_store, State.setStore_store, Store.setMode_mode, true_and]
    rfl
  · simp only [hm, if_false, false_and]

/-- Everything that applying settings can do while the exerciser is not STARVED. -/
theorem State.applySettings_applied (s : State) (x : Settings) (h : s.exer.state ≠ .starved) :
    s.Applied (s.applySettings x) x := by
  have ht : s.exer.applyTiming x.timing = { s.exer with timing := x.timing.getD s.exer.timing } := by
    unfold Exerciser.applyTiming
    split <;> simp_all
  obtain ⟨hc, ha, he⟩ := Exerciser.applyChannels_spec (s.exer.applyTiming x.timing) x.channels
  unfold State.applySettings
  rw [ht] at hc ha he ⊢
  generalize ({ s.exer with timing := x.timing.getD s.exer.timing }.applyChannels x.channels) = e at hc ha he ⊢
  have hs : e.state = s.exer.state := by rw [he]
  have hp : ∀ p, x.play = some p → (s.setExer e).applyPlay p =
      let put := (s.setStore { s.store.setMode p.mode with lowWater := p.lowWater }).setExer
        { e with underrun := p.underrun }
      if p.lowWater = s.store.lowWater ∧ p.mode = .stream ∧ p.lowWater < s.store.readyCount
          ∧ put.store.readyCount ≤ p.lowWater
        then put.setNotice (s.notice.countRaise 7) else put := by
    intro p _
    rw [State.applyPlay_eq _ _ (by simpa [hs] using h)]
    rfl
  have ages : ∀ c, e.clockAge.get c =
      if (e.channels.get c).mode ≠ (s.exer.channels.get c).mode ∨ (e.channels.get c).period ≠ (s.exer.channels.get c).period
          ∨ (e.channels.get c).high ≠ (s.exer.channels.get c).high ∨ (e.channels.get c).dead ≠ (s.exer.channels.get c).dead
          ∨ (∃ b : Fin 16, b.val % 2 = 0 ∧ b.val + 1 = c.val
            ∧ ((e.channels.get b).mode = .pair ↔ (s.exer.channels.get b).mode ≠ .pair))
      then 0 else s.exer.clockAge.get c := by
    intro c
    simp only [Exerciser.retimed, Exerciser.pairMoved, or_assoc] at ha
    split
    · next hm => exact (ha c).1 hm
    · next hm => exact (ha c).2 hm
  cases hx : x.play with
  | none =>
    refine ⟨hc, ages, ?_, fun _ => ⟨rfl, rfl⟩, by simp [hx], by simp [OnlyPlayMoved]⟩
    rw [hx]
    exact he
  | some p =>
    rw [hx] at hp
    dsimp only
    rw [hp p rfl]
    dsimp only
    have hm : s.store.Moded { s.store.setMode p.mode with lowWater := s.store.lowWater } p.mode := by
      rw [← Store.setMode_lowWater s.store p.mode]
      exact Store.setMode_moded s.store p.mode
    split
    all_goals
      next hq =>
      refine ⟨hc, ages, ?_, by simp [hx], ?_, by simp [OnlyPlayMoved]⟩
      · rw [hx]
        exact congrArg (fun y : Exerciser => { y with underrun := p.underrun }) he
      · rintro q hq'
        obtain rfl : p = q := by simpa [hx] using hq'
        refine ⟨hm, rfl, ?_⟩
        first
          | exact (if_pos hq).symm
          | exact (if_neg hq).symm

end Sys2Proof.Machine
end

