-- ==== Sys2Proof/Tests/Slice0.lean ====
section
/-! SUPPORT. The model's own tests: the smoke test of WellFormed, single steps checked against the spec's worked
examples and tables, and for each statement with hypotheses the concrete states that meet them. -/

namespace Sys2Proof.Tests

-- One test at a time: a test per thread, each with its own stack, would pass the memory limit of the check.
set_option Elab.async false

open Sys2Proof.Machine

/-! ### Helpers -/

def bytes (l : List Nat) : List Byte := l.map (BitVec.ofNat 8)

/-- A request to the unit address. -/
def req (payload : List Nat) (quals : List Qualifier := []) : Request :=
  { hit := .unit, quals := quals, payload := bytes payload }

def two (n : Nat) : List Nat := [n / 256, n % 256]

def four (n : Nat) : List Nat := two (n / 65536) ++ two (n % 65536)

/-- The state after a command, or the state before where it stops. -/
def after (s : State) (c : Instr) : State :=
  match exec c s with
  | .next t => t
  | _ => s

/-- The result and the data of the reply in hand. -/
def replyOf (s : State) : Option (Result × List Byte) :=
  s.link.inHand.map fun x => (x.reply.result, x.reply.payload)

/-- The part right after reset, but in a given slot state. -/
def inSlot (st : SlotState) : State := State.reset.setSlot { SlotRec.atReset with state := st }

/-- Two sockets fitted (0 on rail 0 and zone 0, 12 on rail 0 and zone 2), rail 0 up to 12000 mV and 2500 mA, rails 1
to 3 up to 16000 mV and 4000 mA, heaters of 180.0 W, limits 2400, and the same sensor table for all zones. -/
def imageBody : List Nat :=
  [1, 2, 0, 7] ++ four 0xA41C07 ++ (two 12000 ++ two 2500) ++ (two 16000 ++ two 4000) ++ (two 16000 ++ two 4000)
    ++ (two 16000 ++ two 4000)
    ++ ((List.range 6).flatMap fun _ =>
      two 1800 ++ two 2400 ++ (List.range 17).flatMap fun i => two (192 * i))
    ++ (List.range 48).map fun k => if k = 0 then 0 else if k = 12 then 2 else 255

/-- The image with its check field, computed outside the model. -/
def image : List Byte := bytes (imageBody ++ [63, 242])

def board : Identity := { image := ⟨image, by decide +kernel⟩ }

/-- A state with the board's record in force. -/
def withBoard (s : State) : State := s.setIdent { s.ident with record := some board }

def withSocket (s : State) (k : Fin 48) (r : SocketRec) : State :=
  s.setSock { s.sock with sockets := s.sock.sockets.set k r }

def withRail (s : State) (r : Fin 4) (x : RailRec) : State :=
  s.setRail { s.rail with rails := s.rail.rails.set r x }

def withZone (s : State) (z : Fin 6) (x : ZoneRec) : State :=
  s.setTherm { s.therm with zones := s.therm.zones.set z x }

/-! ### WellFormed refuses what is ill formed -/

theorem test_wf_body_length :
    (Instr.setClass (req (List.replicate 248 0))).wf = false
      ∧ (Instr.setClass (req (List.replicate 247 0))).wf = true := by decide +kernel

theorem test_wf_image_length :
    (Instr.identityAttemptEnd (.bytes [])).wf = false ∧ (Instr.identityAttemptEnd .noAcknowledge).wf = true := by
  decide +kernel

theorem test_wf_sensor_code :
    (Instr.controlPassComplete (Bank.replicate 6 4096)).wf = false
      ∧ (Instr.controlPassComplete (Bank.replicate 6 4095)).wf = true := by decide +kernel

theorem test_wf_unknown_kind :
    (Instr.unknownKind .unit []).wf = false ∧ (Instr.unknownKind .unit [0x01]).wf = false
      ∧ (Instr.unknownKind .unit (List.replicate 249 0x7F)).wf = false
      ∧ (Instr.unknownKind .unit [0x7F]).wf = true := by decide +kernel

/-! ### Single steps and derived values, from the spec's examples -/

/-- The check value of this CRC's parameters (11.2: polynomial 0x1021, initial value 0xFFFF, no inversion) over the
characters of 123456789. -/
theorem test_crc16 : crc16 (bytes [0x31, 0x32, 0x33, 0x34, 0x35, 0x36, 0x37, 0x38, 0x39]) = 0x29B1 := by
  decide +kernel

/-- No row of the table has bits. -/
theorem test_table_word : decodeTableWord 8 1 = none := rfl

/-- 5.8: code 2650 reads 1987, code 2640 reads 1980. -/
theorem test_interpolate :
    (let table : Bank Int 17 := Bank.ofFn fun i => 192 * (i.val : Int)
     (interpolate table 2650, interpolate table 2640)) = (1987, 1980) := by decide +kernel

/-- Zone 2 of 5.8 before its pass. -/
def zone2 : ZoneRec :=
  { ZoneRec.atReset with
    state := .regulating, setpoint := 2000, window := 48, margin := 96, kp := 40, ki := 12, integrator := 25600,
    u := 410, breaches := 4 }

def passing : State :=
  after (withZone ((withBoard (inSlot .running)).setTherm
    { Thermal.atReset with slotBudget := { BudgetRec.atReset with budget := 12000 } }) 2 zone2) .controlPassStart

/-- 5.8: temperature 1987, in window, integrator 25756, output 410; alone in its budget it is granted all of it. -/
theorem test_pass_zone2 :
    (let z := (after passing (.controlPassComplete (Bank.replicate 6 2650))).therm.zones.get 2
     (z.temperature, z.inWindow, z.integrator, z.u, z.granted)) = (some 1987, true, 25756, 410, 410) := by
  decide +kernel

/-- 3.9: the samples of three rails give P_dut 1379. -/
theorem test_p_dut :
    (withRail (withRail (withRail State.reset 0
        { RailRec.atReset with state := .regulated, sampleV := 3296, sampleI := 18215 }) 2
        { RailRec.atReset with state := .regulated, sampleV := 1203, sampleI := 29870 }) 1
        { RailRec.atReset with state := .regulated, sampleV := 11960, sampleI := 3512 }).pDut = 1379 := by
  decide +kernel

/-- 3.9 at 20 ms: rail 0 RAMPING in a start sequence of rails 0, 2 and 1. -/
def ramping : State :=
  (withRail (inSlot .arming) 0
    { RailRec.atReset with
      state := .ramping, used := true, order := some 1, setpoint := 3300, window := 100, settle := 30,
      settleTimer := some 30, regulatorOn := true, reference := 3300 }).setRail
    { (withRail (inSlot .arming) 0
        { RailRec.atReset with
          state := .ramping, used := true, order := some 1, setpoint := 3300, window := 100, settle := 30,
          settleTimer := some 30, regulatorOn := true, reference := 3300 }).rail with startSeq := [0, 2, 1] }

/-- One reading on rail 0, none on the others. -/
def reading (mv : Nat) : Bank RailReading 4 :=
  Bank.ofFn fun r => if r = 0 then { mv := mv, ma := 0 } else { mv := 0, ma := 0 }

theorem test_rail_brings_up_next :
    (let t := after ramping (.railSample (reading 3250))
     ((t.rail.rails.get 0).state, (t.rail.rails.get 2).state, (t.rail.rails.get 1).state))
      = (.regulated, .ramping, .off) := by decide +kernel

/-- 3.9 at 10 ms: 2900 mV is out of the window. -/
theorem test_rail_keeps_ramping :
    ((after ramping (.railSample (reading 2900))).rail.rails.get 0).state = .ramping := by decide +kernel

/-- Socket 12 of 4.10 at a given state, counter and retry count; retry limit 1, cooldown 30 s. -/
def socket12 (st : SocketState) (counter retries : Nat) : State :=
  (withSocket (withBoard (inSlot .running)) 12
    { SocketRec.atReset with
      state := st, faultCounter := counter, retries := retries, switchClosed := true }).setSock
    { (withSocket State.reset 12
        { SocketRec.atReset with
          state := st, faultCounter := counter, retries := retries, switchClosed := true }).sock with
      softLimits := Bank.replicate 4 1500, hardLimits := Bank.replicate 4 2500, retryLimit := 1, cooldownTime := 30 }

/-- 4.10: the twelfth high sample warns, the sixteenth trips softly. -/
theorem test_socket_warns_and_trips :
    (let a := (after (socket12 .active 88 0) (.socketSample 12 1670)).sock.sockets.get 12
     let b := after (socket12 .warned 120 0) (.socketSample 12 1720)
     ((a.state, a.faultCounter), (b.sock.sockets.get 12).state, b.fail.log.map fun e => (e.kind, e.detail)))
      = ((.warned, 96), .isolated, [(.overcurrentSoft, 1720)]) := by decide +kernel

/-- 4.10: the hard trip at the retry limit retires the socket; its verdict is FAIL_ELECTRICAL. -/
theorem test_socket_hard_trip_retires :
    (let t := after (socket12 .active 63 1) (.socketSample 12 2610)
     ((t.sock.sockets.get 12).state, t.fail.log.map (fun e => (e.kind, e.detail)), t.verdict 12))
      = (.retired, [(.overcurrentHard, 2610), (.retired, 1)], .failElectrical) := by decide +kernel

/-- 8.6: the pair of channels 4 and 5, and the clock of channel 6, at the table's times. -/
def pairPlaying : Exerciser :=
  { Exerciser.atReset with
    state := .playing
    channels := (Bank.replicate 16 ChannelSection.atReset |>.set 4
        { mode := .pair, park := .low, fixedHigh := false, period := 100, high := 40, dead := 19 }).set 6
        { mode := .clock, park := .high, fixedHigh := false, period := 50, high := 25, dead := 0 } }

theorem test_pair_levels :
    [0, 39, 40, 58, 59, 80, 81, 100].map (fun t => (pairPlaying.channelLevel 4 t, pairPlaying.channelLevel 5 t))
      = [(.high, .low), (.high, .low), (.low, .low), (.low, .low), (.low, .high), (.low, .high), (.low, .low),
         (.high, .low)] := by decide +kernel

/-- 8.6: parked, channel 5 shows the complement of channel 4's LOW, and channel 6 HIGH. -/
theorem test_parked_levels :
    (let e := { pairPlaying with state := .idle }
     (e.channelLevel 4 0, e.channelLevel 5 0, e.channelLevel 6 0)) = (.low, .high, .high) := by decide +kernel

def ready : State := withBoard (inSlot .ready)

/-- 2.10: setpoint, hard and soft limit are clamped to the board's 12000 mV and 2500 mA. -/
theorem test_load_rail_clamps :
    (let t := after ready (.loadRecipe (req ([1, 0, 1, 3] ++ two 12500 ++ two 150 ++ two 40 ++ two 2800 ++ two 3000)))
     (replyOf t, (t.recipe.rails.get 0).map fun x => (x.setpoint, x.soft, x.hard)))
      = (some (.clamped, []), some (12000, 2500, 2500)) := by decide +kernel

/-- 2.10: a trip margin of 24 against a window of 32 fails field 3; the corrected one is clamped to 2384. -/
theorem test_load_zone :
    (let bad := after ready (.loadRecipe (req ([2, 3] ++ two 2400 ++ two 32 ++ two 24 ++ [40, 12])))
     let good := after ready (.loadRecipe (req ([2, 3] ++ two 2400 ++ two 32 ++ two 64 ++ [40, 12])))
     (replyOf bad, replyOf good, (good.recipe.zones.get 3).map ZoneSection.setpoint))
      = (some (.badValue, [3]), some (.clamped, []), some 2384) := by decide +kernel

/-- 10.5: C5 counted 3, seen 2, keeps 1 and stays pending. -/
theorem test_ack_classes :
    (let s := (inSlot .running).setNotice { Notices.atReset with
       classes := Notices.atReset.classes.set 5 { level := 3, pending := true, count := 3 } }
     replyOf (after s (.ackClasses (req [5, 2])))) = some (.ok, [1, 1]) := by decide +kernel

/-- 1.13: STOP turns off rail 1, the last of the orders 1, 3 and 2, at once; rail 2 follows. -/
def threeRails : State :=
  let up := fun o : Nat => { RailRec.atReset with state := .regulated, used := true, order := some o }
  withRail (withRail (withRail (inSlot .running) 0 (up 1)) 1 (up 3)) 2 (up 2)

theorem test_stop_drains :
    (let t := after threeRails (.stop (req []))
     let u := after (after t .replyStart) .railDrainStep
     (t.slot.state, t.slot.endCause, t.rail.rails.cells.map RailRec.state, u.rail.rails.cells.map RailRec.state))
      = (.draining, .stopped, [.regulated, .off, .regulated, .off], [.regulated, .off, .off, .off]) := by
  decide +kernel

/-- 7.7: frame 10 of 1024 vectors opened at slot 7800 runs on to slot 631. -/
def storeAt7800 : State := ready.setStore { Store.atReset with readEnd := 7800, writeEnd := 7800 }

theorem test_frame_wraps :
    (let t := after storeAt7800 (.frameOpen (req ([10] ++ two 1024 ++ two 4 ++ [1])))
     (replyOf t, t.store.writeEnd, t.store.freeSlots)) = (some (.ok, []), 632, 7168) := by decide +kernel

/-- A frame of this many vectors in a given status. -/
def frameOf (count : Nat) (status : FrameStatus) (checked : Bool := false) : FrameDesc :=
  { id := 41, first := 0, count := count, repeats := 5, checked := checked, status := status }

/-- A RUNNING dynamic run PLAYING `f` at vector `p`. -/
def playing (f : FrameDesc) (p : Nat) : State :=
  ((inSlot .running).setStore { Store.atReset with frames := [f], current := some f.id, writeEnd := f.count }).setExer
    { Exerciser.atReset with state := .playing, dynamic := true, position := some p, strobeDue := true, threshold := 2 }

/-- 8.8: with a hold in the set the exerciser is HELD at vector 6 and the stall counted. -/
theorem test_vector_end_holds :
    (let s := playing (frameOf 8 (.playing 1)) 5
     let t := after (s.setExer { s.exer with holdBudget := true, holdRequested := true, stalls := 17 }) .vectorEnd
     (t.exer.state, t.exer.position, t.exer.holdRequested, t.exer.stalls)) = (.held, some 6, false, 18) := by
  decide +kernel

/-- 8.7: an ACTIVE socket whose line is LOW where HIGH is expected. -/
def comparing : State :=
  let s := withSocket (playing (frameOf 6 (.playing 0) true) 1) 9 { SocketRec.atReset with state := .active }
  s.setExer { s.exer with vector := { drive := 0, expect := .high } }

theorem test_vector_strobe :
    (let r := (after comparing (.vectorStrobe 0)).exer.compare.get 9
     (r.windowCount, r.firstMismatch, r.mismatchTotal)) = (1, some 1, 1) := by decide +kernel

/-- 9.7, expiry 1, for a static run: socket 12 moves from 50000 to 50001. -/
def earning : State :=
  let s := socket12 .active 0 0
  let s := withZone s 2 { ZoneRec.atReset with state := .regulating, inWindow := true }
  let s := withRail s 0 { RailRec.atReset with state := .regulated, used := true, inWindow := true }
  s.setCredit { CreditUnit.atReset with
    timer := some 1, target := 86400, runLimit := 90000, accumulated := 120000
    accounts := CreditUnit.atReset.accounts.set 12 { credited := 50000, stamp := none, notedOff := 0 } }

theorem test_credit_second :
    (let t := after earning .creditIntervalExpiry
     ((t.credit.accounts.get 12).credited, t.credit.accumulated)) = (50001, 120001) := by decide +kernel

/-- 9.8: the four sockets' credit after START CONTINUE with a target of 50000 s. -/
theorem test_continue_accounts :
    (let a := fun c (st : Option Word32) (x : SocketState) =>
       let r := ({ credited := c, stamp := st, notedOff := 0 } : AccountRec).carryOn x 50000 120005
       (r.credited, r.stamp, x.continued (decide (50000 ≤ c)))
     [a 50003 none .off, a 49991 none .off, a 86400 (some 120003) .completed, a 40000 none .retired])
      = [(50000, some 120005, .completed), (49991, none, .off), (50000, some 120003, .completed),
         (40000, none, .retired)] := by decide +kernel

/-- 11.6: address 0x41 reaches a group filter of code 0x40 and mask 0x1F; 0x60 does not. -/
def grouped : State :=
  (inSlot .running).setLink { Link.atReset with
    straps := { slot := 4, rate := 0 }, groupEnable := true, groupCode := 0x40, groupMask := 0x1F }

theorem test_group_filter :
    [0x41, 0x5F, 0x60, 5, 255, 0].map (fun v => grouped.link.accepts (BitVec.ofNat 8 v))
      = [some .group, some .group, none, some .unit, some .broadcast, none] := by decide +kernel

/-- 11.6: the group SET_CLASS sets C7 to level 4 and leaves (0x06, GROUP, OK) in the list; no reply. -/
theorem test_group_set_class :
    (let t := after grouped (.setClass { hit := .group, quals := [], payload := [7, 4] })
     ((t.notice.classes.get 7).level, t.link.unanswered, replyOf t))
      = (4, [{ kind := 0x06, hit := .group, result := .ok }], none) := by decide +kernel

/-- A fold cut in two, so that the kernel evaluates the long check of an image piece by piece. -/
theorem foldl_cut {α β : Type} (f : β → α → β) (n : Nat) (l : List α) (x y z : β)
    (h1 : (l.take n).foldl f x = y) (h2 : (l.drop n).foldl f y = z) : l.foldl f x = z := by
  rw [← List.take_append_drop n l, List.foldl_append, h1, h2]

theorem image_check : crc16 (image.take 300) = 0x3FF2 := by
  unfold crc16
  refine foldl_cut _ 60 _ _ 0xEAEA _ (by decide +kernel) ?_
  refine foldl_cut _ 60 _ _ 0xA1D4 _ (by decide +kernel) ?_
  refine foldl_cut _ 60 _ _ 0x3CDD _ (by decide +kernel) ?_
  exact foldl_cut _ 60 _ _ 0xF3A4 _ (by decide +kernel) (by decide +kernel)

/-- R28: the image passes every check. -/
theorem test_image_ok : ImageOk image := by
  refine ⟨?_, by decide +kernel⟩
  rw [image_check]
  decide +kernel

/-- R10: without a GENERAL section START NEW is refused with NO_RECIPE and check 1. -/
theorem test_start_needs_general : replyOf (after ready (.start (req [0]))) = some (.noRecipe, [1]) := by
  decide +kernel

/-- R159: STATUS right after reset: HOLD, no end cause, nothing pending. -/
theorem test_status_at_reset :
    replyOf (after State.reset (.status (req []))) = some (.ok, [0, 0, 0, 0, 0, 0, 0, 0, 0]) := by decide +kernel

/-! ### For each statement with hypotheses, states and operands that meet them, clause by clause -/

/-- A reply in hand, being sent or not. -/
def holding (sending : Bool) : State :=
  State.reset.setLink { Link.atReset with
    inHand := some { reply := { kind := 0x81, result := .ok, payload := [] }, sending := sending } }

def waiting (s : State) : State :=
  s.setLink { s.link with waiting := some { hit := .unit, body := [0x01] } }

def restarting (s : State) : State := s.setLink { s.link with restartDue := true }

/-- In RECEIVING, with these characters after the address. -/
def receiving (soFar : List Byte) : State :=
  State.reset.setLink { Link.atReset with receiver := .receiving .unit soFar }

theorem witness_StepTakesTheFront :
    (State.reset.setPending [.replyStart]).pending = .replyStart :: [] ∧ State.reset.pending = [] := ⟨rfl, rfl⟩

theorem witness_FrameOnTheLineActsAsItsCommand :
    grouped.link.sending = false
      ∧ grouped.link.accepts 5 = some (req []).hit ∧ grouped.link.accepts 255 = some .broadcast
      ∧ grouped.link.accepts 0x5F = some .group
      ∧ bodyLengthOk (encodeBody .ping (req [])) = true
      ∧ bodyLengthOk (encodeBody .setClass (req (List.replicate 247 0))) = true := by decide +kernel

theorem witness_RequestTestsComeInOrder :
    State.reset.LinkReady
      ∧ 4 < (req [] (List.replicate 5 .quiet)).quals.length ∧ (req [] (List.replicate 4 .quiet)).quals.length ≤ 4
      ∧ (lastTarget (req [] [.target 0]).quals).isSome = true ∧ Kind.frameData.target = .no
      ∧ ((lastTarget (req [] [.target 0]).quals).isSome = true ∧ Kind.ping.target = .no)
      ∧ ((lastTarget (req []).quals).isSome = false ∧ Kind.setRail.target = .required)
      ∧ ((req [] [.atBoundary]).quals.contains .atBoundary = true ∧ Kind.ping ≠ .setTiming)
      ∧ (targetFits .setLink (lastTarget (req []).quals) = true ∧ Kind.setLink.lengthOk (bytes [1]) = false)
      ∧ (targetFits .stop (lastTarget (req []).quals) = true ∧ Kind.stop.lengthOk [] = true
        ∧ State.reset.slot.state = .hold) := by unfold State.LinkReady; decide +kernel

theorem witness_RefusalChangesNothing :
    (ruleOf .stop (callOf (req [])) State.reset).result.taken = false
      ∧ (ruleOf .setClass (callOf (req [13, 0])) State.reset).result.taken = false := by decide +kernel

theorem witness_BusyLinkMakesAFrameWait :
    (holding true).link.sending = true
      ∧ ((holding false).link.sending = false ∧ (holding false).link.inHand.isSome = true
        ∧ (holding false).link.waiting = none)
      ∧ ((restarting State.reset).link.sending = false ∧ (restarting State.reset).link.restartDue = true)
      ∧ (waiting (holding false)).link.waiting.isSome = true := by decide +kernel

/-- A reply being sent, one in hand, and none. -/
theorem witness_AnsweredOrRecorded :
    ((req []).hit = .unit ∧ (req []).quals.contains .quiet = false)
      ∧ (req [] [.quiet]).quals.contains .quiet = true
      ∧ (∀ b ∈ [true, false], (holding b).link.inHand
        = some { reply := { kind := 0x81, result := .ok, payload := [] }, sending := b })
      ∧ State.reset.link.inHand = none := by decide +kernel

/-- R170, R173, 11.2: the reply to PING as the unit address 1 sends it; the check characters computed by hand. -/
theorem test_reply_frame :
    (holding true).link.transmits.map (fun l => l.map fun c => (c.value, c.mark))
      = some [(0, true), (1, false), (2, false), (0x81, false), (0, false), (0xB4, false), (0xBD, false)] := by
  decide +kernel

theorem witness_UnknownKindIsRefused :
    State.reset.LinkReady ∧ (parseBody [0xF1]).short = true
      ∧ ((parseBody [0xF4, 0x01]).short = false ∧ (parseBody [0xF4, 0x01]).foreign = true)
      ∧ ((parseBody [0xF3, 0xF3, 0xF3, 0xF3, 0xF3, 0x01]).foreign = false
        ∧ 4 < (parseBody [0xF3, 0xF3, 0xF3, 0xF3, 0xF3, 0x01]).count)
      ∧ ((parseBody [0x34]).short = false ∧ (parseBody [0x34]).foreign = false ∧ (parseBody [0x34]).count ≤ 4
        ∧ (parseBody [0x34]).kindChar.bind Kind.ofCode = none)
      ∧ ((parseBody [0xF3, 0xF3, 0xF3, 0xF3, 0xF3, 0x29]).kindChar.getD 0 = 0x29
        ∧ (parseBody [0xF3, 0xF3, 0xF3, 0xF3, 0xF3, 0x29]).foreign = false
        ∧ 4 < (parseBody [0xF3, 0xF3, 0xF3, 0xF3, 0xF3, 0x29]).count) := by unfold State.LinkReady; decide +kernel

theorem witness_ReplyHoldsTheLineUntilItsEnd :
    ((holding false).link.inHand.isSome = true ∧ (holding false).link.receiver = .waitAddress)
      ∧ ((holding false).setLink { (holding false).link with receiver := .receiving .unit [] }).link.receiver
        = .receiving .unit []
      ∧ State.reset.link.inHand = none
      ∧ ((restarting (holding true)).link.restartDue = true ∧ (holding true).link.waiting = none)
      ∧ ((waiting (holding true)).link.restartDue = false
        ∧ (waiting (holding true)).link.waiting = some { hit := .unit, body := [0x01] })
      ∧ (holding false).link.sending = false := by decide +kernel

/-- A gap, a bad length, a missing stop bit; characters in mid-frame, the last a length of 248 and the first of the
check; and a last character that completes a frame with and without the right check. -/
theorem witness_ReceiverRules :
    let ends := fun soFar : List Byte => fun v : Byte =>
      let chars := soFar ++ [v]
      (decide (2 ≤ chars.length ∧ chars.length = (chars.getD 1 0).toNat + 4),
        decide (crc16 (chars.take (chars.length - 2)) = BitVec.ofNat 16 (u16At chars (chars.length - 2))))
    (holding true).link.sending = true
      ∧ (State.reset.link.sending = false ∧ State.reset.link.receiver = .waitAddress)
      ∧ State.reset.link.accepts 1 = some .unit ∧ State.reset.link.accepts 2 = none
      ∧ (∀ l ∈ [[], [(7 : Byte)], [7, 2], [7, 1, 1], [7, 1, 1, 0x6A]], (receiving l).link.receiver = .receiving .unit l)
      ∧ ([(7 : Byte)].length = 1 ∧ 248 < (249 : Byte).toNat)
      ∧ (∀ x ∈ [([], (7 : Byte)), ([7], 1), ([7], 248), ([7, 1], 1), ([7, 1, 1], 0x6A)], (ends x.1 x.2).1 = false)
      ∧ ends [7, 1, 1, 0x6A] 0x1C = (true, true) ∧ ends [7, 1, 1, 0x6A] 0 = (true, false)
      ∧ grouped.link.accepts 0x41 = some .group ∧ grouped.link.accepts 255 = some .broadcast := by decide +kernel

theorem witness_ResetsClearAndRestartKeeps :
    ((restarting State.reset).link.restartDue = true ∧ (restarting State.reset).link.inHand = none)
      ∧ State.reset.link.restartDue = false ∧ (restarting (holding true)).link.inHand.isSome = true := by
  decide +kernel

/-- A slot record in a given state with the seat debounce as given. -/
def seat (st : SlotState) (seated : Bool) (make opens : Timer) : State :=
  (inSlot st).setSlot { SlotRec.atReset with state := st, seated := seated, makeTimer := make, openTimer := opens }

theorem witness_SeatDebounce :
    State.reset.slot.state = .hold
      ∧ ((seat .empty false none none).slot.state ≠ .hold ∧ (seat .empty false none none).slot.seated = false)
      ∧ (seat .ready true none none).slot.seated = true
      ∧ ((seat .safe false (some 100) none).slot.makeTimer.isSome = true
        ∧ (seat .safe false (some 100) none).slot.state ≠ .empty)
      ∧ (seat .empty false (some 100) none).slot.makeTimer.isSome = true
      ∧ ∀ st ∈ [SlotState.arming, .running, .draining, .hold, .empty, .safe, .unidentified, .ready, .identifying],
        (seat st true none (some 10)).slot.openTimer.isSome = true ∧ (seat st true none (some 10)).slot.state = st := by
  decide +kernel

def attempting (n : Nat) : State :=
  (inSlot .identifying).setIdent { IdentRec.atReset with attempts := n, attemptTimer := some 40 }

/-- The attempts 1, 2 and 3; an image that passes R28 (`test_image_ok`) and one that does not. -/
theorem witness_IdentityAttempts :
    image.length = 302 ∧ (bytes []).length ≠ 302
      ∧ (List.replicate 302 (0 : Byte)).length = 302 ∧ ¬ (byteAt (List.replicate 302 0) 0 = 1)
      ∧ (∀ n ∈ [1, 2, 3], (attempting n).slot.state = .identifying ∧ (attempting n).ident.attemptTimer.isSome = true)
      ∧ ((attempting 1).setIdent { IdentRec.atReset with attempts := 1, waitTimer := some 10 }).ident.waitTimer.isSome
        = true
      ∧ (inSlot .ready).slot.state ≠ .identifying := by decide +kernel

/-- R27: the read on the local bus while an attempt is under way. -/
theorem test_local_bus_read :
    ((attempting 1).localBus, State.reset.localBus) = (some { device := 0x50, offset := 0, length := 302 }, none) := by
  decide +kernel

def watched (st : SlotState) (mode : SilenceMode) : State :=
  (inSlot st).setLink { Link.atReset with silenceLimit := 30, silenceMode := mode, silenceTimer := some 30 }

theorem witness_ChainSilenceAndSlotTimers :
    (∀ st ∈ [SlotState.arming, .running, .draining], (watched st .safe).slot.state = st
        ∧ (watched st .safe).link.silenceTimer.isSome = true ∧ (watched st .safe).link.silenceMode = .safe)
      ∧ (∀ st ∈ [SlotState.hold, .empty, .ready, .safe], (watched st .safe).slot.state ≠ .arming
        ∧ (watched st .safe).slot.state ≠ .running ∧ (watched st .safe).slot.state ≠ .draining)
      ∧ (watched .running .notify).link.silenceMode = .notify ∧ State.reset.link.silenceTimer = none
      ∧ ((inSlot .arming).setSlot { SlotRec.atReset with state := .arming, armTimer := some 10 }).slot.armTimer.isSome
        = true
      ∧ State.reset.slot.armTimer = none ∧ State.reset.slot.drainTimer = none
      ∧ ((inSlot .draining).setSlot
          { SlotRec.atReset with state := .draining, drainTimer := some 2000 }).slot.drainTimer.isSome = true := by
  decide +kernel

/-- A log of this many entries. -/
def logged (n : Nat) : State :=
  let entry : FailureEntry := { seq := 0, kind := .unseat, socket := none, unit := none, stamp := 0, detail := 0 }
  State.reset.setFail { Recorder.atReset with log := List.replicate n entry }

theorem witness_FailureTaken :
    (logged 47).fail.log.length = 47 ∧ (logged 63).fail.log.length < 64 ∧ 64 ≤ (logged 64).fail.log.length := by
  decide +kernel

/-- A drain list of rails 2 and 0 with only rail 0 still up. -/
def stepping (drive0 : Bool) : State :=
  let s := withRail (inSlot .draining) 0 { RailRec.atReset with state := if drive0 then .regulated else .off }
  s.setRail { s.rail with drainSeq := [2, 0], drainStepTimer := some 250 }

def settling (st : RailState) : State :=
  withRail (inSlot .running) 1 { RailRec.atReset with state := st, used := true, settleTimer := some 40 }

theorem witness_DrainStepAndSettle :
    ((stepping true).slot.state = .draining ∧ (stepping true).rail.drainStepTimer.isSome = true
        ∧ (∀ x ∈ [(2 : Fin 4)], ((stepping true).rail.rails.get x).state.driven = false)
        ∧ (stepping true).rail.drainSeq = [2] ++ 0 :: [] ∧ ((stepping true).rail.rails.get 0).state.driven = true)
      ∧ ((∀ x ∈ [(2 : Fin 4), 0], ((stepping false).rail.rails.get x).state.driven = false)
        ∧ (stepping false).rail.drainSeq = [2, 0])
      ∧ State.reset.rail.drainStepTimer = none ∧ (State.reset.rail.rails.get 1).settleTimer = none
      ∧ (((settling .ramping).rail.rails.get 1).settleTimer.isSome = true
        ∧ ((settling .ramping).rail.rails.get 1).state = .ramping)
      ∧ (((settling .regulated).rail.rails.get 1).settleTimer.isSome = true
        ∧ ((settling .regulated).rail.rails.get 1).state ≠ .ramping) := by decide +kernel

/-- Rail 0 alone live, setpoint 3300 mV, window 100 mV. -/
def oneRail (slot : SlotState) (st : RailState) (settle : Timer) (outRun : Nat) (seq : List (Fin 4)) : State :=
  let s := withRail (inSlot slot) 0 { RailRec.atReset with
    state := st, used := true, order := some 1, setpoint := 3300, window := 100, settleTimer := settle,
    outRun := outRun }
  s.setRail { s.rail with startSeq := seq }

/-- Rails 0 and 2 live at once; every state and start sequence, and a sample just inside and just outside the window. -/
theorem witness_RailSampleJudged :
    (∀ q, (State.reset.rail.rails.get q).state = .off)
      ∧ (let s := withRail (oneRail .running .regulated none 0 []) 2 { RailRec.atReset with state := .ramping, used := true }
        (s.rail.rails.get 0).state ≠ .off ∧ (s.rail.rails.get 2).state ≠ .off)
      ∧ ((oneRail .running .faulted none 0 []).rail.rails.get 0).state = .faulted
      ∧ (((oneRail .running .regulated (some 40) 0 []).rail.rails.get 0).settleTimer.isSome = true)
      ∧ (∀ n ∈ [0, 48, 49], ((oneRail .running .regulated none n []).rail.rails.get 0).state = .regulated
        ∧ ((oneRail .running .regulated none n []).rail.rails.get 0).settleTimer = none
        ∧ ((oneRail .running .regulated none n []).rail.rails.get 0).outRun = n)
      ∧ ((3400 : Int) - 3300).natAbs ≤ 100 ∧ ¬ ((3401 : Int) - 3300).natAbs ≤ 100
      ∧ ((oneRail .running .ramping (some 40) 0 []).rail.rails.get 0).state = .ramping
      ∧ (0 : Fin 4) ∉ ([] : List (Fin 4)) ∧ (0 : Fin 4) ∉ [(2 : Fin 4)]
      ∧ (oneRail .arming .ramping (some 40) 0 [0, 2]).rail.startSeq = [] ++ 0 :: 2 :: []
      ∧ (oneRail .arming .ramping (some 40) 0 [2, 0]).rail.startSeq = [2] ++ [0] := by decide +kernel

/-- Everything the arming test asks, with no populated socket or with one. -/
def armed (socket : SocketState) : State :=
  let s := withSocket (inSlot .arming) 3 { SocketRec.atReset with state := socket }
  ((s.setRail { s.rail with seqComplete := true }).setTherm
    { s.therm with zones := Bank.replicate 6 { ZoneRec.atReset with state := .regulating, inWindow := true } }).setSlot
      { s.slot with goGiven := true }

theorem witness_ArmingAndEntryToRunning :
    (∀ st ∈ [SocketState.vacant, .active], (armed st).slot.state = .arming
        ∧ (∀ r, ((armed st).rail.rails.get r).used = true → ((armed st).rail.rails.get r).state = .regulated)
        ∧ (armed st).rail.seqComplete = true
        ∧ (∀ z, ((armed st).therm.zones.get z).state = .regulating ∧ ((armed st).therm.zones.get z).inWindow = true)
        ∧ (armed st).slot.goGiven = true)
      ∧ (∀ k, ((armed .vacant).sock.sockets.get k).state = .vacant)
      ∧ ((armed .active).sock.sockets.get 3).state = .active ∧ State.reset.slot.state ≠ .arming := by
  decide +kernel

/-- Samples at the soft limit (1500) and one above, below and at the hard limit (2500), and counters at each edge. -/
theorem witness_SocketSampleJudged :
    (∀ st ∈ [SocketState.active, .warned], ((socket12 st 88 0).sock.sockets.get 12).state = st
        ∧ ((socket12 st 88 0).sock.sockets.get 12).blanking = none)
      ∧ ((socket12 .isolated 0 0).sock.sockets.get 12).state = .isolated
      ∧ (socket12 .active 88 0).wire 12 = some { rail := 0, zone := 2 }
      ∧ ((socket12 .active 88 0).sock.softLimits.get 0 < 1501 ∧ ¬ (socket12 .active 88 0).sock.softLimits.get 0 < 1500)
      ∧ ((socket12 .active 88 0).sock.hardLimits.get 0 ≤ 2500 ∧ 2499 < (socket12 .active 88 0).sock.hardLimits.get 0)
      ∧ (88 + 8 = 96 ∧ 87 + 8 < 96 ∧ 119 + 8 < 128 ∧ 120 + 8 = 128 ∧ (1 : Nat) - 1 = 0) := by decide +kernel

/-- Socket 12 ISOLATED with its cooldown running, its zone in a given state. -/
def cooling (slot : SlotState) (zone : ZoneState) : State :=
  withZone (withSocket (withBoard (inSlot slot)) 12
    { SocketRec.atReset with state := .isolated, cooldown := some 30 }) 2 { ZoneRec.atReset with state := zone }

theorem witness_IsolationRetirementAndRetry :
    ((socket12 .active 128 1).sock.sockets.get 12).retries = (socket12 .active 128 1).sock.retryLimit
      ∧ ((socket12 .active 128 0).sock.sockets.get 12).retries ≠ (socket12 .active 128 0).sock.retryLimit
      ∧ (State.Takes (inSlot .ready) .retireSocket (req [] [.target 12])
        ∧ (inSlot .ready).slot.state ≠ .arming ∧ (inSlot .ready).slot.state ≠ .running)
      ∧ (State.Takes (socket12 .active 0 0) .retireSocket (req [] [.target 12])
        ∧ lastTarget (req [] [.target 12]).quals = some 12 ∧ 47 < (48 : Byte).toNat
        ∧ State.Takes (socket12 .active 0 0) .retireSocket (req [] [.target 48]))
      ∧ (∀ st ∈ [SocketState.vacant, .retired, .completed, .off, .active, .warned, .heldOff, .isolated],
        ((socket12 st 0 0).sock.sockets.get 12).state = st)
      ∧ (State.reset.sock.sockets.get 12).cooldown = none
      ∧ (((cooling .running .regulating).sock.sockets.get 12).cooldown.isSome = true
        ∧ ((cooling .running .regulating).sock.sockets.get 12).state = .isolated
        ∧ (cooling .running .regulating).slot.state = .running
        ∧ (cooling .running .regulating).zoneRegulating 12 = true)
      ∧ (cooling .arming .regulating).slot.state ≠ .running
      ∧ (cooling .running .tripped).zoneRegulating 12 = false := by
  unfold State.Takes; decide +kernel

/-- Socket 12 of zone 2 in a given state with a prior state, the zone TRIPPED or REGULATING. -/
def held (slot : SlotState) (st : SocketState) (prior : Option PriorState) (zone : ZoneState) : State :=
  withZone (withSocket (withBoard (inSlot slot)) 12
    { SocketRec.atReset with state := st, prior := prior, retryDue := st == .isolated }) 2
    { ZoneRec.atReset with state := zone }

theorem witness_ZoneFaultsMoveSockets :
    ((held .running .active none .regulating).therm.zones.get 2).state = .regulating
      ∧ ((held .running .active none .tripped).therm.zones.get 2).state ≠ .regulating
      ∧ ((held .running .active none .regulating).inZone 12 2 = true
        ∧ (held .running .active none .regulating).inZone 0 2 = false)
      ∧ (held .ready .off none .idle).slot.state ≠ .arming
      ∧ (∀ p ∈ [PriorState.active, .warned], ((held .arming .heldOff (some p) .tripped).sock.sockets.get 12).state
          = .heldOff ∧ ((held .arming .heldOff (some p) .tripped).sock.sockets.get 12).prior = some p)
      ∧ (((held .running .isolated none .tripped).sock.sockets.get 12).state = .isolated
        ∧ ((held .running .isolated none .tripped).sock.sockets.get 12).retryDue = true)
      ∧ (((held .running .off none .tripped).sock.sockets.get 12).state = .off
        ∧ (held .running .off none .tripped).zoneAtFault 12 = true)
      ∧ (held .running .off none .regulating).zoneAtFault 12 = false := by decide +kernel

/-- A pass in flight whose capture has every zone in one state. -/
def capture (st : ZoneState) (budget : Nat) : PassCapture :=
  { zones := Bank.replicate 6 { state := st, setpoint := 2000, window := 48, margin := 96, kp := 40, ki := 12 }
    board := some (Bank.replicate 6
      { table := Bank.ofFn fun i => 192 * (i.val : Int), absLimit := 2400, rated := 1800 })
    budget := budget }

def inFlight (slot : SlotState) (was now : ZoneState) : State :=
  let s := withBoard (inSlot slot)
  s.setTherm { Thermal.atReset with
    pass := some (capture was 12000), zones := Bank.replicate 6 { ZoneRec.atReset with state := now } }

theorem witness_PassCaptureConversionAndPwm :
    (State.reset.ident.record = none ∧ (withBoard State.reset).ident.record = some board)
      ∧ State.reset.therm.pass = none
      ∧ ((inFlight .draining .regulating .idle).therm.pass = some (capture .regulating 12000)
        ∧ (inFlight .draining .regulating .idle).slot.state ≠ .arming
        ∧ ∀ z, ((inFlight .draining .regulating .idle).therm.zones.get z).state = .idle)
      ∧ (∀ z, ((capture .idle 12000).zones.get z).state = .idle)
      ∧ ((inFlight .arming .regulating .regulating).therm.pass = some (capture .regulating 12000)
        ∧ ((capture .regulating 12000).zones.get 5).state ≠ .idle
        ∧ ((inFlight .arming .regulating .regulating).therm.zones.get 5).state ≠ .idle)
      ∧ (15 < 16 ∧ ¬ 4079 < 4079 ∧ 4079 < 4080) := by decide +kernel

theorem witness_GrantSharesTheAllowance :
    ((inFlight .running .regulating .regulating).therm.pass = some (capture .regulating 12000)
        ∧ (capture .regulating 12000).board.isSome = true
        ∧ (inFlight .running .regulating .regulating).slot.state ≠ .arming)
      ∧ ((capture .regulating 12000).zones.get 0).state ≠ .idle
      ∧ ((inFlight .running .regulating .regulating).therm.zones.get 0).state ≠ .idle
      ∧ (inFlight .arming .regulating .regulating).slot.state = .arming := by decide +kernel

/-- Each zone state in ARMING and RUNNING, and codes and temperatures at both sides of each bound. -/
theorem witness_ComputingZoneIsJudgedAndControlled :
    (∀ slot ∈ [SlotState.arming, .running], ∀ st ∈ [ZoneState.regulating, .tripped, .sensorFailed],
        (inFlight slot .regulating st).therm.pass = some (capture .regulating 12000)
        ∧ ((capture .regulating 12000).zones.get 2).state ≠ .idle
        ∧ ((inFlight slot .regulating st).therm.zones.get 2).state = st
        ∧ ((inFlight slot .regulating st).therm.zones.get 2).state ≠ .idle
        ∧ (capture .regulating 12000).board.isSome = true
        ∧ (inFlight slot .regulating st).ident.record.isSome = true)
      ∧ (15 < 16 ∧ ¬ 16 < 16 ∧ 4079 < 4080 ∧ min 3 (2 + 1) = 3 ∧ min 3 (1 + 1) < 3)
      ∧ (∀ t ∈ [none, some (1980 : Int)],
        let s := inFlight .running .regulating .regulating
        let u := withZone s 2 { s.therm.zones.get 2 with temperature := t, invalidRun := 1 }
        (u.therm.zones.get 2).temperature = t ∧ (u.therm.zones.get 2).state = .regulating
          ∧ (u.therm.zones.get 2).invalidRun + 1 < 3 ∧ u.therm.pass.isSome = true)
      ∧ (let t := fun c => interpolate (Bank.ofFn fun i : Fin 17 => 192 * (i.val : Int)) c
        (2000 + 96 ≤ t 2795 ∧ ¬ 2000 + 96 ≤ t 2794) ∧ (t 2730 ≤ 2000 + 48 ∧ ¬ t 2732 ≤ 2000 + 48)) := by
  decide +kernel

theorem witness_InterpolationIsR85 :
    let table : Bank Int 17 := Bank.ofFn fun i => 192 * (i.val : Int)
    (16 ≤ 16 ∧ 4079 ≤ 4079) ∧ ∀ i, -640 ≤ table.get i ∧ table.get i ≤ 4000 := by decide +kernel

/-- Samples that draw a given power in 0.1 W, with the budget state given. -/
def drawing (dw overRun : Nat) (hold : Bool) : State :=
  let s := withRail (inSlot .running) 0 { RailRec.atReset with state := .regulated, sampleV := 10000, sampleI := dw * 10 }
  s.setTherm { s.therm with slotBudget := { BudgetRec.atReset with overRun := overRun, hold := hold } }

/-- One zone asking for all of its 180.0 W, from a budget of 3000 dW with 1199 or 1201 of them drawn. -/
def asking (dw : Nat) (scaled : Bool) : State :=
  let s := withZone (drawing dw 0 false) 2 { ZoneRec.atReset with u := 1000 }
  s.setTherm { s.therm with slotBudget := { s.therm.slotBudget with scaled := scaled } }

/-- The draws of 6.8: above 12000, between 11250 and 12000, and at 11250; a demand above the allowance and at it. -/
theorem witness_BudgetHoldAndHoldSet :
    (let q := fun s : State => ((List.finRange 6).map (fun z => ((s.therm.zones.get z).u * 1800 + 999) / 1000)).sum
     (3000 - (asking 1201 false).pDut < q (asking 1201 false)
        ∧ (asking 1201 false).therm.slotBudget.scaled = false ∧ (asking 1201 true).therm.slotBudget.scaled = true)
      ∧ q (asking 1200 false) ≤ 3000 - (asking 1200 false).pDut
      ∧ (capture .regulating 3000).budget = 3000)
      ∧ ((capture .regulating 12000).budget < (drawing 12001 2 false).pDut
        ∧ 2 ≤ (drawing 12001 2 false).therm.slotBudget.overRun
        ∧ (drawing 12001 2 false).therm.slotBudget.hold = false)
      ∧ (drawing 12001 1 false).therm.slotBudget.overRun < 2 ∧ (drawing 12001 3 true).therm.slotBudget.hold = true
      ∧ ((drawing 11250 0 true).pDut ≤ 12000 - 12000 / 16 ∧ (drawing 11250 0 true).therm.slotBudget.hold = true)
      ∧ ((drawing 12000 0 true).pDut ≤ 12000 ∧ ¬ (drawing 12000 0 true).pDut ≤ 12000 - 12000 / 16)
      ∧ ((playing (frameOf 8 (.playing 1)) 5).exer.state = .playing
        ∧ (playing (frameOf 8 (.playing 1)) 5).exer.holdSet = false)
      ∧ (let e := (playing (frameOf 8 (.playing 1)) 5).exer
        let s := (playing (frameOf 8 (.playing 1)) 5).setExer { e with state := .held, holdPause := true }
        s.exer.state = .held ∧ s.exer.holdSet = true ∧ s.store.currentFrame = some (frameOf 8 (.playing 1))
          ∧ s.exer.position = some 5) := by decide +kernel

theorem witness_CreditedSecond :
    State.reset.credit.timer = none ∧ earning.credit.timer.isSome = true
      ∧ earning.credit.accumulated ≠ BitVec.allOnes 32
      ∧ (earning.setCredit { earning.credit with accumulated := BitVec.allOnes 32 }).credit.accumulated
        = BitVec.allOnes 32
      ∧ earning.creditable 12 = true ∧ earning.creditable 0 = false := by decide +kernel

/-- A second that completes the last socket, one that reaches the run limit, and one that does neither. -/
theorem witness_CompletionAndRunLimit :
    (earning.slot.state = .running ∧ earning.credit.timer.isSome = true ∧ earning.slot.paused = false)
      ∧ (let s := earning.setCredit { earning.credit with target := 50001 }
        (s.creditable 12 = true ∧ (s.credit.accounts.get 12).credited + 1 = s.credit.target)
        ∧ ∀ k, k = 12 ∨ (s.sock.sockets.get k).state = .vacant)
      ∧ (let s := earning.setCredit { earning.credit with currentRun := 89999 }
        (s.credit.accounts.get 12).credited + 1 ≠ s.credit.target ∧ s.credit.currentRun + 1 = s.credit.runLimit)
      ∧ earning.credit.currentRun + 1 ≠ earning.credit.runLimit := by decide +kernel

theorem witness_VectorStrobeCompares :
    State.reset.exer.state ≠ .playing
      ∧ (comparing.exer.state = .playing ∧ comparing.exer.strobeDue = true
        ∧ comparing.store.currentFrame = some (frameOf 6 (.playing 0) true) ∧ comparing.exer.position = some 1
        ∧ comparing.exer.vector.expect = .high)
      ∧ (playing (frameOf 8 (.playing 1)) 5).store.currentFrame = some (frameOf 8 (.playing 1))
      ∧ (frameOf 8 (.playing 1)).checked = false := by decide +kernel

/-- In PLAYING and parked: a PAIR with the channel above it, a CLOCK, a VECTOR channel and a FIXED one. -/
theorem witness_StimulusLevels :
    (pairPlaying.state = .playing ∧ ({ pairPlaying with state := .idle } : Exerciser).state ≠ .playing)
      ∧ ((pairPlaying.channels.get 4).mode = .pair ∧ (pairPlaying.channels.get 6).mode = .clock
        ∧ (pairPlaying.channels.get 0).mode = .vector
        ∧ ((pairPlaying.applyChannel 0 { ChannelSection.atReset with mode := .fixed }).channels.get 0).mode = .fixed)
      ∧ 1 ≤ (pairPlaying.channels.get 4).period ∧ 1 ≤ (pairPlaying.channels.get 6).period
      ∧ (∃ b : Fin 16, b.val % 2 = 0 ∧ b.val + 1 = (5 : Fin 16).val ∧ (pairPlaying.channels.get b).mode = .pair)
      ∧ ¬ (∃ b : Fin 16, b.val % 2 = 0 ∧ b.val + 1 = (6 : Fin 16).val ∧ (pairPlaying.channels.get b).mode = .pair) := by
  decide +kernel

/-- Settings of each kind that wait. -/
def queued : Settings :=
  { Settings.empty with
    timing := some { period := 60, offset := 20 }
    channels := Settings.empty.channels.set 3 (some ChannelSection.atReset)
    play := some { mode := .loop, underrun := .repeatLast, lowWater := 2 } }

/-- The second vector before the last, with and without settings waiting; with a stop, a hold and neither. -/
theorem witness_VectorEndWithinAFrame :
    State.reset.exer.state ≠ .playing
      ∧ (∀ x ∈ [Settings.empty, queued], ∀ stop ∈ [true, false], ∀ hold ∈ [true, false],
        let s := playing (frameOf 8 (.playing 1)) 6
        let s := s.setExer { s.exer with boundary := x, stopRequested := stop, holdPause := hold }
        s.exer.state = .playing ∧ s.exer.boundary = x ∧ s.exer.stopRequested = stop ∧ s.exer.holdPause = hold
          ∧ s.exer.holdBudget = false ∧ s.store.currentFrame = some (frameOf 8 (.playing 1))
          ∧ s.exer.position = some 6 ∧ 6 + 1 ≠ (frameOf 8 (.playing 1)).count) := by decide +kernel

/-- Two frames stored, the first current; the other READY or a TAIL; in a mode and under a policy. -/
def stored (status other : FrameStatus) (mode : PlayMode) (policy : UnderrunPolicy) : State :=
  let s := playing (frameOf 8 status) 7
  let g : FrameDesc := { id := 42, first := 8, count := 4, repeats := 1, checked := false, status := other }
  (s.setStore { s.store with frames := [frameOf 8 status, g], writeEnd := 12, mode := mode }).setExer
    { s.exer with underrun := policy }

def judging (policy : FunctionalPolicy) (windowCount : Nat) : State :=
  let s := withSocket (playing (frameOf 6 (.playing 0) true) 5) 3 { SocketRec.atReset with state := .active }
  s.setExer { s.exer with
    policy := policy
    compare := s.exer.compare.set 3 { CompareRec.atReset with windowCount := windowCount } }

/-- A pass that is not the last, the last with and without a READY frame under each policy, a TAIL's, Loop mode, and
a checked frame's. -/
def passEnds : List State :=
  [stored (.playing 0) .ready .stream .park, stored (.playing 4) .ready .stream .park,
    stored .tail .ready .stream .repeatLast, stored (.playing 4) .tail .stream .park,
    stored (.playing 4) .tail .stream .repeatLast, stored (.playing 4) .ready .loop .park, judging .keep 2]

/-- Each of them plain, with settings waiting in both lists, and with a stop or a hold. -/
theorem witness_PassEndMovesTheStream :
    (∀ s ∈ passEnds, s.StoreLaw)
      ∧ (∀ s ∈ passEnds, ∀ x ∈ [Settings.empty, queued], ∀ stop ∈ [true, false], ∀ hold ∈ [true, false],
        let u := s.setExer { s.exer with boundary := x, staged := x, stopRequested := stop, holdBudget := hold }
        u.store = s.store ∧ u.exer.state = .playing ∧ u.exer.boundary = x ∧ u.exer.staged = x
          ∧ u.exer.stopRequested = stop ∧ u.exer.holdBudget = hold
          ∧ ∃ f ∈ u.store.frames, u.store.currentFrame = some f ∧ u.exer.position = some (f.count - 1))
      ∧ (stored (.playing 4) .ready .stream .park).store.firstReady.isSome = true
      ∧ (stored (.playing 4) .tail .stream .park).store.firstReady = none := by
  refine ⟨?_, by decide +kernel⟩
  unfold State.StoreLaw FrameDesc.inRange
  decide +kernel

/-- A window count below and at the threshold of 2, under each policy; the mark is clear. -/
theorem witness_CheckedPassIsJudged :
    ∀ s ∈ [judging .keep 1, judging .keep 2, judging .retire 2],
      s.WindowLaw ∧ s.slot.state = .running ∧ s.exer.state = .playing ∧ s.exer.boundary = Settings.empty
        ∧ s.exer.staged = Settings.empty ∧ s.store.currentFrame = some (frameOf 6 (.playing 0) true)
        ∧ (frameOf 6 (.playing 0) true).checked = true ∧ s.exer.position = some 5
        ∧ 5 + 1 = (frameOf 6 (.playing 0) true).count ∧ (s.exer.compare.get 3).logged = false := by
  unfold State.WindowLaw
  decide +kernel

theorem witness_ReportsReadTheRecords :
    State.reset.Takes .ping (req []) ∧ State.reset.Takes .status (req []) ∧ (inSlot .empty).Takes .readZones (req [])
      ∧ (inSlot .empty).Takes .readRails (req []) := by unfold State.Takes; decide +kernel

/-- Each request in and just out of its range. -/
theorem witness_PagedReads :
    (∀ p ∈ [two 301 ++ [1], two 302 ++ [1], two 0 ++ [240], two 0 ++ [241], two 300 ++ [3]],
        ready.Takes .readIdentity (req p))
      ∧ (inSlot .empty).ident.record = none
      ∧ (∀ p ∈ [[0, 0], [1, 3], [1, 4], [5, 15], [6, 0]], ready.Takes .readRecipe (req p))
      ∧ (sectionOf 1 3).isSome = true ∧ sectionOf 1 4 = none
      ∧ (∀ p ∈ [[31], [32]], ready.Takes .readStore (req p))
      ∧ (∀ t ∈ [40, 41, 48], ready.Takes .readSockets (req [8] [.target t]))
      ∧ (∀ p ∈ [[0, 0], [1, 7], [2, 0], [1, 8]], ready.Takes .readCapture (req p)) := by
  unfold State.Takes; decide +kernel

theorem witness_ReadsThatHandOver :
    (∀ n ∈ [0, 1, 8, 9], ready.Takes .fetchFailures (req [n]))
      ∧ ready.Takes .readUnanswered (req []) ∧ (∀ n ∈ [0, 1, 2], ready.Takes .linkStats (req [n]))
      ∧ ready.Takes .fetchFailures (req [1] [.quiet]) := by unfold State.Takes; decide +kernel

theorem witness_LinkAndClassSettings :
    (State.reset.Takes .release (req []) ∧ State.reset.slot.state = .hold)
      ∧ (ready.Takes .release (req []) ∧ ready.slot.state ≠ .hold)
      ∧ State.reset.Takes .restart (req [])
      ∧ (∀ p ∈ [[0, 0, 0, 0, 0], [255, 1, 1, 0x40, 0x1F], [0, 2, 0, 0, 0], [0, 0, 2, 0, 0]],
        State.reset.Takes .setLink (req p))
      ∧ (∀ p ∈ [[11, 0], [11, 7], [12, 0], [12, 1], [12, 7], [13, 1], [0, 8]], ready.Takes .setClass (req p))
      ∧ (ready.Takes .ackClasses (req [11, 3, 0, 1])
        ∧ (req [11, 3, 0, 1]).payload = [((11 : Byte), (3 : Byte)), (0, 1)].flatMap (fun p => [p.1, p.2])
        ∧ [((11 : Byte), (3 : Byte)), (0, 1)].map (fun p => (p.1.toNat, p.2.toNat))
          = [((11 : Fin 12), 3), (0, 1)].map (fun p => (p.1.val, p.2)))
      ∧ ready.Takes .ackClasses (req [12, 0]) := by unfold State.Takes; decide +kernel

/-- Channel 0 bound to C1, source B, with this many to go. -/
def bound (remaining : Nat) : Notices :=
  { Notices.atReset with
    classes := Notices.atReset.classes.set 1 { level := 3, pending := false, count := 0 }
    capture := Notices.atReset.capture.set 0
      { binding := some { cls := 1, source := .b, remaining := remaining }, buffer := [] } }

theorem witness_CaptureBindsAndTakes :
    (∀ p ∈ [[0, 1, 1, 1], [1, 5, 0, 8], [2, 1, 0, 1], [0, 2, 0, 1], [0, 1, 2, 1], [0, 1, 0, 0], [0, 1, 0, 9]],
        (ready.setNotice (bound 1)).Takes .armCapture (req p))
      ∧ ((bound 1).capture.get 0).binding = some { cls := 1, source := .b, remaining := 1 }
      ∧ ((bound 2).capture.get 0).binding = some { cls := 1, source := .b, remaining := 2 }
      ∧ ((bound 1).capture.get 1).binding = none
      ∧ (Notices.atReset.classes.get 1).level = 0 ∧ ((bound 1).classes.get 1).level ≠ 0 := by
  unfold State.Takes; decide +kernel

def pausedRun : State :=
  (inSlot .running).setSlot { SlotRec.atReset with state := .running, paused := true }

def chainOpenSafe : State := (inSlot .safe).setSlot { SlotRec.atReset with state := .safe, chainOpen := true }

def seatedSafe : State := (inSlot .safe).setSlot { SlotRec.atReset with state := .safe, seated := true }

theorem witness_RunControlRequests :
    (∀ st ∈ [SlotState.arming, .running, .draining, .ready, .safe, .unidentified], (inSlot st).slot.state = st
        ∧ (inSlot st).Takes .stop (req []) ∧ (inSlot st).Takes .go (req []) ∧ (inSlot st).Takes .pause (req [])
        ∧ (inSlot st).Takes .resume (req []) ∧ (inSlot st).Takes .reidentify (req [])
        ∧ (inSlot st).Takes .clearSafe (req []))
      ∧ ((inSlot .running).slot.paused = false ∧ pausedRun.slot.paused = true ∧ pausedRun.Takes .resume (req []))
      ∧ (chainOpenSafe.slot.chainOpen = true ∧ chainOpenSafe.Takes .clearSafe (req []))
      ∧ ((inSlot .safe).slot.chainOpen = false ∧ (inSlot .safe).slot.seated = false)
      ∧ (seatedSafe.slot.seated = true ∧ seatedSafe.ident.record = none)
      ∧ (withBoard seatedSafe).ident.record.isSome = true := by unfold State.Takes; decide +kernel

/-- Each section, and selectors and numbers just out of range. -/
theorem witness_LoadRecipeChecksClampsStores :
    (∀ p ∈ [[0, 0] ++ List.replicate 22 0, [0, 1] ++ List.replicate 22 0, [1, 3] ++ List.replicate 12 0,
          [1, 4] ++ List.replicate 12 0, [2, 5] ++ List.replicate 8 0, [2, 6] ++ List.replicate 8 0,
          [3, 0] ++ List.replicate 48 0, [4, 0] ++ List.replicate 4 0, [5, 15] ++ List.replicate 8 0,
          [5, 16] ++ List.replicate 8 0, [6, 0]],
        ready.Takes .loadRecipe (req p))
      ∧ (ready.slot.state = .ready ∧ ready.ident.record = some board)
      ∧ ((inSlot .running).Takes .loadRecipe (req [6, 0]) ∧ (inSlot .running).slot.state ≠ .ready) := by
  unfold State.Takes; decide +kernel

/-- For each kind of section, and each channel mode, a payload that loads unclamped. -/
theorem witness_SectionsReadBackAsLoaded :
    (∀ x ∈ [(SectionRef.general, four 1 ++ four 8000000 ++ two 10 ++ [0] ++ two 100 ++ [7] ++ two 600 ++ [1, 1, 1, 0, 1, 31]),
          (.rail 3, [1, 4] ++ two 16000 ++ two 10 ++ two 1000 ++ two 4000 ++ two 4000),
          (.zone 5, two 2384 ++ two 8 ++ two 800 ++ [255, 0]),
          (.sockets, 1 :: List.replicate 47 0), (.timing, two 50 ++ two 49),
          (.channel 4, [0, 1, 1] ++ two 3 ++ two 4 ++ [5]), (.channel 5, [1, 1, 1] ++ two 100 ++ two 40 ++ [19]),
          (.channel 4, [2, 0, 1] ++ two 100 ++ two 40 ++ [19]), (.channel 7, [3, 2, 1] ++ two 3 ++ two 4 ++ [5])],
        ∃ p, Recipe.atReset.load (some board) x.1 (bytes x.2) = .ok (p, false))
      ∧ ∀ m ∈ [0, 1, 2, 3], (bytes ([m, 1, 1] ++ two 100 ++ two 40 ++ [19])).head? = some (BitVec.ofNat 8 m) := by
  refine ⟨?_, by decide +kernel⟩
  intro x hx
  have h : ((Recipe.atReset.load (some board) x.1 (bytes x.2)).toOption.map Prod.snd) = some false := by
    revert x; decide +kernel
  revert h
  cases Recipe.atReset.load (some board) x.1 (bytes x.2) with
  | error e => simp [Except.toOption]
  | ok v => obtain ⟨p, b⟩ := v; intro h; exact ⟨p, by simp_all [Except.toOption]⟩

/-- A recipe that passes the six cross-checks for `board`, static or dynamic. -/
def fullRecipe (dynamic : Bool) : Recipe :=
  { general := some
      { target := 50000, runLimit := 60000, armTimeout := 600, autoGo := false, budget := 4500, retryLimit := 1,
        cooldown := 30, policy := .keep, threshold := 1, dynamic := dynamic, underrun := .park, mode := .stream,
        lowWater := 1 }
    rails := (Bank.replicate 4 none).set 0 (some
      { used := true, order := 1, setpoint := 3300, window := 100, settle := 30, soft := 1500, hard := 2500 })
    zones := Bank.replicate 6 (some { setpoint := 2000, window := 48, margin := 96, kp := 40, ki := 12 })
    sockets := some (Bank.ofFn fun k => k == 12)
    timing := some { period := 250, offset := 200 }
    channels := Bank.replicate 16 (some ChannelSection.atReset) }

def loaded (r : Recipe) : State := ready.setRecipe r

theorem witness_StartNewOpensAccounts :
    (∀ p ∈ [[0], [1], [2]], (loaded (fullRecipe true)).Takes .start (req p) ∧ (inSlot .draining).Takes .start (req p)
        ∧ (inSlot .empty).Takes .start (req p))
      ∧ ((loaded (fullRecipe true)).slot.state = .ready ∧ (loaded (fullRecipe true)).slot.chainOpen = false
        ∧ (loaded (fullRecipe true)).ident.record = some board
        ∧ (loaded (fullRecipe true)).recipe.general = (fullRecipe true).general)
      ∧ ((inSlot .ready).ident.record = none ∧ ready.recipe.general = none)
      ∧ [loaded (fullRecipe true), loaded { fullRecipe true with rails := Bank.replicate 4 none },
          loaded { fullRecipe true with
            rails := (fullRecipe true).rails.map fun o => o.map fun x => { x with used := false } },
          loaded { fullRecipe true with
            rails := (Bank.replicate 4 none).set 1 ((fullRecipe true).rails.get 0) },
          loaded { fullRecipe true with zones := (fullRecipe true).zones.set 5 none },
          loaded { fullRecipe true with sockets := none },
          loaded { fullRecipe true with channels := (fullRecipe true).channels.set 9 none }].map State.failingCheck
        = [none, some 2, some 2, some 3, some 4, some 5, some 6] := by unfold State.Takes; decide +kernel

/-- The accounts of a previous run of this board, socket 12 in a given state with a given credit. -/
def carried (serial : Word32) (st : SocketState) (credit : Nat) : State :=
  (withSocket (loaded (fullRecipe false)) 12 { SocketRec.atReset with state := st, retries := 2 }).setCredit
    { CreditUnit.atReset with
      prevRun := true, serial := some serial, accumulated := 120005
      accounts := CreditUnit.atReset.accounts.set 12 { credited := credit, stamp := none, notedOff := 0 } }

theorem witness_StartContinueCarriesAccounts :
    (∀ s ∈ [carried 0xA41C07 .off 50000, carried 0xA41C07 .off 49999, carried 0xA41C07 .completed 50000,
          carried 0xA41C07 .completed 49999, carried 0xA41C07 .retired 50000, carried 1 .off 0],
        s.Takes .start (req [1]) ∧ s.slot.state = .ready ∧ s.slot.chainOpen = false ∧ s.ident.record = some board
          ∧ s.failingCheck = none ∧ s.recipe.general = (fullRecipe false).general)
      ∧ byteAt (req [1]).payload 0 = 1
      ∧ (carried 0xA41C07 .off 50000).accountsMatch board = true ∧ (carried 1 .off 0).accountsMatch board = false
      ∧ (carried 0xA41C07 .vacant 0).accountsMatch board = false := by unfold State.Takes; decide +kernel

/-- In ARMING or RUNNING with the whole recipe. -/
def live (st : SlotState) : State := (withBoard (inSlot st)).setRecipe (fullRecipe true)

/-- Each field at and just out of its bound, and every rail state. -/
theorem witness_ZoneRailAndBudgetSettings :
    (∀ t ∈ [[], [Qualifier.target 5], [Qualifier.target 6]],
        (live .running).Takes .setZone (req (two 4000 ++ two 8 ++ two 800 ++ [0, 255]) t)
        ∧ (inSlot .ready).Takes .setZone (req (two 4000 ++ two 8 ++ two 800 ++ [0, 255]) t))
      ∧ (∀ t ∈ [0, 3, 4], (live .running).Takes .setRail (req (two 16000) [.target t])
        ∧ (live .arming).Takes .setRail (req (two 16001) [.target t]))
      ∧ ((live .running).recipe.rails.get 0 = (fullRecipe true).rails.get 0
        ∧ (live .running).recipe.rails.get 1 = none ∧ (live .running).ident.record = some board)
      ∧ (∀ st ∈ [RailState.off, .ramping, .regulated, .faulted],
        ((withRail (live .running) 0 { RailRec.atReset with state := st, used := true }).rail.rails.get 0).state = st)
      ∧ (∀ b ∈ [99, 100, 20000, 20001], (live .running).Takes .setBudget (req (two b)))
      ∧ (inSlot .ready).Takes .setBudget (req (two 100)) := by unfold State.Takes; decide +kernel

/-- A RUNNING dynamic run with the whole recipe, its exerciser in a given state. -/
def exercising (st : ExerState) : State :=
  let s := (playing (frameOf 8 (if st = .starved then .tail else .playing 1)) 5).setRecipe (fullRecipe true)
  (s.setExer { s.exer with state := st }).setStore
    { s.store with current := if st = .starved then none else s.store.current }

/-- Each request with fields at and just out of their bounds, at once and at the boundary. -/
theorem witness_StimulusSettings :
    (∀ p ∈ [two 49 ++ two 1, two 50 ++ two 0, two 50 ++ two 50, two 50 ++ two 49],
        (exercising .playing).Takes .setTiming (req p [.atBoundary]) ∧ (exercising .held).Takes .setTiming (req p))
      ∧ (∀ t ∈ [15, 16], (exercising .playing).Takes .setChannel
          (req ([1, 0, 0] ++ two 50 ++ two 25 ++ [0]) [.target t, .atBoundary]))
      ∧ (∀ p ∈ [[0, 0, 31], [1, 1, 0], [2, 0, 0], [0, 2, 0], [0, 0, 32]],
        (exercising .playing).Takes .setPlay (req p [.atBoundary]) ∧ (exercising .starved).Takes .setPlay (req p))
      ∧ (inSlot .ready).Takes .setPlay (req [0, 0, 0])
      ∧ (readChannel 15 (bytes ([1, 0, 0] ++ two 50 ++ two 25 ++ [0]))).isOk = true
      ∧ (readChannel 15 (bytes ([2, 0, 0] ++ two 50 ++ two 25 ++ [1]))).isOk = false
      ∧ ((exercising .playing).recipe.timing.isSome = true
        ∧ ((exercising .playing).recipe.channels.get 15).isSome = true ∧ ready.recipe.timing = none)
      ∧ ((exercising .starved).exer.state = .starved ∧ (exercising .starved).store.mode = .stream
        ∧ ((exercising .starved).applyPlay { mode := .loop, underrun := .park, lowWater := 0 }).exer.state
          = .playing) := by unfold State.Takes; decide +kernel

/-- R123: one SET_PLAY to Stream that frees READY frames raises C7A where it keeps the mark, and not where it
changes it. -/
theorem test_set_play_and_the_mark :
    (let s := stored .ready (.playing 0) .loop .park
     let s := s.setStore { s.store with current := some 42, lowWater := 0 }
     let on := Notices.atReset.classes.set 7 { level := 3, pending := false, count := 0 }
     let level := fun mark : Nat =>
       let t := s.setStore { s.store with lowWater := mark }
       (((t.setNotice { Notices.atReset with classes := on }).applyPlay
         { mode := .stream, underrun := .park, lowWater := 0 }).notice.classes.get 7).count
     (level 0, level 1)) = (1, 0) := by decide +kernel

/-- A store with one OPEN frame, 41. -/
def opening (received : Nat) : State :=
  ready.setStore { Store.atReset with frames := [frameOf 8 (.opened received)], writeEnd := 8 }

/-- R112, R169 step 2: a FRAME_DATA with five qualifiers is answered with the received count. -/
theorem test_frame_data_refusal_counts :
    replyOf (after (opening 6) (.frameData (req [] (List.replicate 5 (.target 0))))) = some (.badQualifier, [0, 6]) := by
  decide +kernel

theorem witness_FramesOpenCancelPurge :
    (∀ p ∈ [[7] ++ two 1024 ++ two 1 ++ [1], [7] ++ two 1025 ++ two 1 ++ [1], [7] ++ two 0 ++ two 1 ++ [0],
          [7] ++ two 1 ++ two 0 ++ [0], [7] ++ two 1 ++ two 1 ++ [2]],
        storeAt7800.Takes .frameOpen (req p) ∧ (opening 0).Takes .frameOpen (req p))
      ∧ ((∃ g ∈ (opening 0).store.frames, g.status = .opened 0)
        ∧ (∃ g ∈ (exercising .playing).store.frames, g.id = 41 ∧ g.status ≠ .opened 0)
        ∧ (exercising .playing).Takes .frameOpen (req ([41] ++ two 1 ++ two 1 ++ [0])))
      ∧ ((opening 0).Takes .frameCancel (req [41]) ∧ (opening 0).Takes .frameCancel (req [42])
        ∧ (opening 0).store.openFrame = some (frameOf 8 (.opened 0)) ∧ storeAt7800.store.openFrame = none)
      ∧ (storeAt7800.Takes .purgeFrames (req []) ∧ storeAt7800.store.currentFrame = none)
      ∧ ((exercising .playing).Takes .purgeFrames (req [])
        ∧ (exercising .playing).store.currentFrame = some (frameOf 8 (.playing 1))) := by
  unfold State.Takes; decide +kernel

/-- The OPEN frame with 6 of its 8 vectors in, and requests of one and of its last two. -/
theorem witness_FrameDataDelivers :
    (∀ p ∈ [[41] ++ two 6 ++ [0, 0, 1], [41] ++ two 6 ++ [0, 0, 1, 255, 255, 2], [41] ++ two 5 ++ [0, 0, 1],
          [42] ++ two 6 ++ [0, 0, 1], [41] ++ two 6 ++ [0, 0, 3], [41] ++ two 6 ++ [0, 0, 1, 0, 0, 1, 0, 0, 1]],
        (opening 6).Takes .frameData (req p))
      ∧ (opening 6).StoreLaw ∧ (opening 6).store.openFrame = some (frameOf 8 (.opened 6))
      ∧ (storeAt7800.StoreLaw ∧ storeAt7800.store.openFrame = none
        ∧ storeAt7800.Takes .frameData (req ([41] ++ two 0 ++ [0, 0, 1])))
      ∧ (vectorsOf (bytes [0, 0, 1])).map List.length = some 1
      ∧ (vectorsOf (bytes [0, 0, 1, 255, 255, 2])).map List.length = some 2 ∧ vectorsOf (bytes [0, 0, 3]) = none
      ∧ (let s := (opening 6).setExer { Exerciser.atReset with state := .starved }
        s.exer.state = .starved ∧ s.exer.holdBudget = false ∧ s.exer.holdPause = false ∧ s.StoreLaw
          ∧ s.Takes .frameData (req ([41] ++ two 6 ++ [0, 0, 1, 255, 255, 2]))
          ∧ (s.setExer { s.exer with holdPause := true }).exer.holdPause = true) := by
  unfold State.Takes State.StoreLaw FrameDesc.inRange
  decide +kernel

theorem witness_ExerciseStopAndStart :
    ((inSlot .arming).Takes .exerciseStop (req []) ∧ (inSlot .arming).Takes .exerciseStart (req []))
      ∧ (∀ st ∈ [ExerState.playing, .held, .starved, .stopped], (exercising st).exer.state = st
        ∧ (exercising st).slot.state = .running ∧ (exercising st).exer.dynamic = true
        ∧ (exercising st).Takes .exerciseStop (req []) ∧ (exercising st).Takes .exerciseStart (req []))
      ∧ (inSlot .running).exer.dynamic = false
      ∧ (exercising .stopped).store.currentFrame = some (frameOf 8 (.playing 1))
      ∧ ((exercising .stopped).setStore Store.atReset).store.current = none
      ∧ Store.atReset.firstReady = none
      ∧ (∀ m ∈ [PlayMode.stream, .loop], (stored .tail .ready m .park).store.firstReady.isSome = true
        ∧ ((stored .tail .ready m .park).store.frames.map fun x => x.id).Nodup)
      ∧ (∀ b ∈ [true, false], ({ (exercising .stopped).exer with holdBudget := b } : Exerciser).holdBudget = b
        ∧ (exercising .stopped).exer.holdPause = false) := by unfold State.Takes; decide +kernel

/-- R116, R131, R133: a STOPPED exerciser without a frame takes the READY one behind the TAIL, HELD at vector 0 while the
hold set is not empty; the TAIL is gone, the read end moves to the new head, and a stall is counted. -/
theorem test_start_takes_behind_the_tail :
    (let s := stored .tail .ready .stream .park
     let s := s.setStore { s.store with current := none }
     let e := { s.exer with state := .stopped, position := none, holdPause := true, stalls := 4 }
     let t := after (s.setExer e) (.exerciseStart (req []))
     (t.store.frames.map (·.id), t.store.current, t.store.readEnd, t.exer.state, t.exer.position, t.exer.stalls))
      = ([42], some 42, 8, .held, some 0, 5) := by decide +kernel

theorem witness_VerdictIsR151 :
    ∀ st ∈ [SocketState.vacant, .completed, .retired, .off, .isolated],
      ((socket12 st 0 0).sock.sockets.get 12).state = st := by decide +kernel

/-- A run under way: RUNNING, a used rail REGULATED, a zone REGULATING with a duty, a socket ACTIVE, a frame PLAYING. -/
def midRun : State :=
  let s := earning.setStore (playing (frameOf 8 (.playing 1)) 5).store
  let s := s.setExer { Exerciser.atReset with
    state := .playing, dynamic := true, position := some 5, strobeDue := true, threshold := 1 }
  let s := withZone s 2 { ZoneRec.atReset with
    state := .regulating, inWindow := true, u := 410, granted := 372, appliedDuty := 372 }
  let s := withRail s 0 { RailRec.atReset with
    state := .regulated, used := true, inWindow := true, setpoint := 3300, regulatorOn := true, reference := 3300 }
  let s := s.setFail (logged 48).fail
  s.setPending [.vectorEnd, .socketSample 12 2610, .railDrainStep]

/-- The laws hold in mid-run, with commands that move what they speak of waiting. -/
theorem witness_StaysLawful :
    (midRun.SwitchLaw ∧ midRun.HeaterLaw ∧ midRun.RailLaw ∧ midRun.LogLaw) ∧ midRun.StoreSound := by
  unfold State.StoreSound State.SwitchLaw State.HeaterLaw State.RailLaw State.StoreLaw State.LogLaw FrameDesc.inRange
    State.ArcLaw State.CurrentLaw
  refine ⟨by decide +kernel, by decide +kernel, by decide +kernel, by decide +kernel, by decide +kernel⟩

/-- R110, 7.7: the frame that runs across slot 8191 ends where its write end stands; moved by one slot it does not. -/
theorem test_arc_wraps :
    (let t := (after storeAt7800 (.frameOpen (req ([10] ++ two 1024 ++ two 4 ++ [1])))).store
     (framesArc t.readEnd t.frames t.writeEnd, framesArc t.readEnd (t.frames.map fun f => { f with first := 7801 })
       t.writeEnd)) = (true, false) := by decide +kernel

/-- R146: a socket completed by this second's credit raises C2B once. -/
theorem test_completion_raises_c2 :
    (let on := Notices.atReset.classes.set 2 { level := 3, pending := false, count := 0 }
     let s := earning.setNotice { Notices.atReset with classes := on }
     let t := after (s.setCredit { s.credit with target := 50001 }) .creditIntervalExpiry
     ((t.notice.classes.get 2).count, (t.sock.sockets.get 12).state)) = (1, .completed) := by decide +kernel

/-- R86, R92: at the first invalid code a REGULATING zone is controlled on its held temperature, 20 below S: with Kp 40
the proportional term is floor(800 / 64) = 12, the integrator 25600 + 240, and u is 12 + floor(25840 / 64) = 415. -/
theorem test_invalid_code_controls_on_held :
    (let s := inFlight .running .regulating .regulating
     let z := { s.therm.zones.get 2 with temperature := some 1980, integrator := 25600, u := 410 }
     let t := after (withZone s 2 z) (.controlPassComplete (Bank.replicate 6 5))
     ((t.therm.zones.get 2).integrator, (t.therm.zones.get 2).u, (t.therm.zones.get 2).state))
      = (25840, 415, .regulating) := by decide +kernel

theorem witness_StaySound : midRun.AccountsSound ∧ midRun.RetriesSound := by
  unfold State.AccountsSound State.RetriesSound State.SwitchLaw State.TimerLaw State.PlayLaw State.WindowLaw
    State.CreditLaw State.RetryLaw
  refine ⟨?_, by decide +kernel⟩
  refine ⟨by decide +kernel, by decide +kernel, by decide +kernel, by decide +kernel, ?_⟩
  refine ⟨by decide +kernel, by decide +kernel, by decide +kernel, ?_⟩
  intro g hg
  have h : midRun.recipe.general = none := by decide +kernel
  rw [h] at hg
  cases hg

theorem witness_StepTakesOne : midRun.pending = .vectorEnd :: [.socketSample 12 2610, .railDrainStep] := rfl

end Sys2Proof.Tests
end

section
/-! The events of the slot state machine and of the identity reader, each said once, with what settles the resets,
the seat debounce, the identity attempts and the slot's timers. -/

namespace Sys2Proof.Machine

/-! ### The slot state -/

/-- A change of slot state: the state, and C0A (R2). -/
theorem State.moveTo_eq (s : State) (x : SlotState) :
    s.moveTo x = (s.setSlot { s.slot with state := x }).setNotice (s.notice.countRaise 0) := rfl

theorem SlotState.live_iff (x : SlotState) : x.live = true ↔ x = .arming ∨ x = .running ∨ x = .draining := by
  cases x <;> simp [SlotState.live]

theorem SlotState.not_live {x : SlotState} (ha : x ≠ .arming) (hr : x ≠ .running) (hd : x ≠ .draining) :
    x.live = false := by
  rw [← Bool.not_eq_true, SlotState.live_iff]
  simp [ha, hr, hd]

/-! ### The resets (R24, R25) -/

/-- R59: which socket states outlast a RESTART. -/
theorem SocketRec.afterRestart_eq (r : SocketRec) :
    r.afterRestart = { SocketRec.atReset with
      state := if r.state = .vacant ∨ r.state = .retired ∨ r.state = .completed then r.state else .off
      cause := r.cause, retries := r.retries, softTrips := r.softTrips, hardTrips := r.hardTrips } := by
  unfold SocketRec.afterRestart
  cases r.state <;> rfl

theorem exec_restartShutOff_due (straps : Straps) (s : State) (hd : s.link.restartDue = true)
    (hr : s.link.inHand = none) : exec (.restartShutOff straps) s = .next (s.restartReset straps) := by
  simp [exec, execRestartShutOff, hd, hr]

theorem exec_restartShutOff_notDue (straps : Straps) (s : State)
    (h : s.link.restartDue = false ∨ s.link.inHand.isSome = true) :
    exec (.restartShutOff straps) s = .next s := by
  have hg : (s.link.restartDue && s.link.inHand.isNone) = false := by
    rcases h with h | h
    · simp [h]
    · simp [h]
  simp [exec, execRestartShutOff, hg]

/-- Settles O12: the full resets by evaluation, the RESTART block by block. -/
theorem resetsClearAndRestartKeeps : Obligations.ResetsClearAndRestartKeeps := by
  unfold Obligations.ResetsClearAndRestartKeeps
  intro straps s
  refine ⟨rfl, rfl, fun hd hr => ⟨_, exec_restartShutOff_due straps s hd hr, ?_⟩,
    exec_restartShutOff_notDue straps s⟩
  have accounts : ∀ k, (s.restartReset straps).credit.accounts.get k
      = { s.credit.accounts.get k with notedOff := 0 } := fun k => Bank.get_map _ _ k
  have sockets : ∀ k, (s.restartReset straps).sock.sockets.get k = (s.sock.sockets.get k).afterRestart :=
    fun k => Bank.get_map _ _ k
  have compare : ∀ k, (s.restartReset straps).exer.compare.get k = (s.exer.compare.get k).afterRestart :=
    fun k => Bank.get_map _ _ k
  have copies : ∀ r, (s.restartReset straps).sock.softLimits.get r = 0
      ∧ (s.restartReset straps).sock.hardLimits.get r = 0 :=
    fun r => ⟨Bank.get_replicate 0 r, Bank.get_replicate 0 r⟩
  have channels : ∀ c, (s.restartReset straps).exer.channels.get c = ChannelSection.atReset
      ∧ (s.restartReset straps).exer.clockAge.get c = 0 :=
    fun c => ⟨Bank.get_replicate _ c, Bank.get_replicate 0 c⟩
  exact ⟨rfl, rfl, rfl, rfl, rfl, rfl, rfl, rfl, rfl, rfl, rfl, accounts, fun r => Bank.get_replicate 0 r,
    fun z => Bank.get_replicate 0 z, rfl, fun k => (sockets k).trans (SocketRec.afterRestart_eq _), copies, rfl, rfl,
    channels, rfl, compare, rfl, rfl, rfl, rfl, rfl, rfl, rfl, rfl⟩

/-! ### The seat debounce (R4 to R6) -/

theorem SlotRec.watchMake_eq (r : SlotRec) :
    r.watchMake =
      { r with makeTimer := if r.seatA = true ∧ r.seatB = true then r.makeTimer.or (some 100) else none } := by
  simp [SlotRec.watchMake, Config.seatMakeMs]

theorem SlotRec.contactsChange_hold (r : SlotRec) (a b : Bool) (h : r.state = .hold) :
    r.contactsChange a b = { r with seatA := a, seatB := b } := by
  simp [SlotRec.contactsChange, h]

theorem SlotRec.contactsChange_unseated (r : SlotRec) (a b : Bool) (h : r.state ≠ .hold) (hs : r.seated = false) :
    r.contactsChange a b =
      { r with seatA := a, seatB := b
               makeTimer := if a = true ∧ b = true then r.makeTimer.or (some 100) else none } := by
  simp [SlotRec.contactsChange, h, hs, SlotRec.watchMake_eq]

theorem SlotRec.contactsChange_seated (r : SlotRec) (a b : Bool) (h : r.state ≠ .hold) (hs : r.seated = true) :
    r.contactsChange a b =
      { r with seatA := a, seatB := b
               openTimer := if a = true ∧ b = true then none else r.openTimer.or (some 10) } := by
  simp [SlotRec.contactsChange, h, hs, Config.seatOpenMs]

theorem exec_seatMakeTimerExpiry (s : State) (h : s.slot.makeTimer.isSome = true) :
    exec .seatMakeTimerExpiry s = .next s.seatFound := by
  simp [exec, execSeatMakeTimerExpiry, h]

theorem exec_seatOpenTimerExpiry (s : State) (h : s.slot.openTimer.isSome = true) :
    exec .seatOpenTimerExpiry s = .next s.unseat := by
  simp [exec, execSeatOpenTimerExpiry, h]

/-- What every unseat does first: mark, open timer, record and temperatures go (R6, R26). -/
def State.unseated (s : State) : State :=
  (s.setSlot ({ s.slot with seated := false, openTimer := none }).watchMake).discardIdentity

theorem State.unseat_live (s : State) (h : s.slot.state.live = true) :
    s.unseat = s.unseated.enterSafe .unseat .unseat 8 .b := by
  simp [State.unseat, State.unseated, h]

theorem State.unseat_watching (s : State) (h : s.slot.state = .unidentified ∨ s.slot.state = .ready) :
    s.unseat = (s.unseated.notify 8 .b).moveTo .empty := by
  rcases h with h | h <;> simp [State.unseat, State.unseated, h, SlotState.live]

theorem State.unseat_identifying (s : State) (h : s.slot.state = .identifying) :
    s.unseat = ((s.unseated.setIdent
      { s.unseated.ident with attemptTimer := none, waitTimer := none }).notify 8 .b).moveTo .empty := by
  simp [State.unseat, State.unseated, h, SlotState.live]

theorem State.unseat_idle (s : State) (h : s.slot.state = .hold ∨ s.slot.state = .empty ∨ s.slot.state = .safe) :
    s.unseat = s.unseated.notify 8 .b := by
  rcases h with h | h | h <;> simp [State.unseat, State.unseated, h, SlotState.live]

/-- The first part of an unseat, block by block. -/
theorem State.unseated_eq (s : State) :
    s.unseated = ((s.setSlot { s.slot with
        seated := false, openTimer := none
        makeTimer := if s.slot.seatA = true ∧ s.slot.seatB = true then s.slot.makeTimer.or (some 100)
          else none }).setIdent { s.ident with record := none }).setTherm
      { s.therm with zones := s.therm.zones.map fun z => { z with temperature := none } } := by
  rw [State.unseated, SlotRec.watchMake_eq]
  rfl

/-- Settles O13: one case for each mark and expiry, and for the open expiry one for each group of slot states. -/
theorem seatDebounce : Obligations.SeatDebounce := by
  unfold Obligations.SeatDebounce
  intro s a b cold lost
  refine ⟨fun h => ?_, fun h hs => ?_, fun h hs => ?_, fun h => ?_, fun ht h => ?_, fun ht h => ?_, fun h => ?_,
    fun ht => ⟨fun h => ?_, fun h => ?_, fun h => ?_, fun h => ?_⟩⟩
  · rw [← SlotRec.contactsChange_hold _ _ _ h]; rfl
  · rw [← SlotRec.contactsChange_unseated _ _ _ h hs]; rfl
  · rw [← SlotRec.contactsChange_seated _ _ _ h hs]; rfl
  · simp [exec, execSeatMakeTimerExpiry, h]
  · rw [exec_seatMakeTimerExpiry s ht, State.seatFound, if_neg h]
  · rw [exec_seatMakeTimerExpiry s ht, State.seatFound, if_pos h]; rfl
  · simp [exec, execSeatOpenTimerExpiry, h]
  · rw [exec_seatOpenTimerExpiry s ht, State.unseat_live s ((SlotState.live_iff _).mpr h), State.unseated_eq]
  · rw [exec_seatOpenTimerExpiry s ht, State.unseat_idle s h, State.unseated_eq]; rfl
  · rw [exec_seatOpenTimerExpiry s ht, State.unseat_watching s h, State.unseated_eq]; rfl
  · rw [exec_seatOpenTimerExpiry s ht, State.unseat_identifying s h, State.unseated_eq]; rfl

/-! ### The chain, the link's silence and the slot's timers (R9, R13, R18, R22) -/

theorem State.chainOpens_live (s : State) (h : s.slot.state.live = true) :
    s.chainOpens = (s.setSlot { s.slot with chainOpen := true }).enterSafe .safetyChain .safetyChain 8 .a := by
  simp [State.chainOpens, h]

theorem State.chainOpens_idle (s : State) (h : s.slot.state.live = false) :
    s.chainOpens = (s.setSlot { s.slot with chainOpen := true }).setNotice (s.notice.countRaise 8) := by
  simp only [State.chainOpens, h, Bool.false_eq_true, if_false]
  rfl

theorem exec_linkSilenceExpiry (s : State) (h : s.link.silenceTimer.isSome = true) :
    exec .linkSilenceExpiry s = .next s.silenceExpires := by
  simp [exec, execLinkSilenceExpiry, h]

theorem State.silenceExpires_safe (s : State) (hm : s.link.silenceMode = .safe) (h : s.slot.state.live = true) :
    s.silenceExpires =
      (s.setLink { s.link with silenceTimer := none }).enterSafe .linkSilence .linkSilence 9 .a := by
  simp [State.silenceExpires, hm, h]

theorem State.silenceExpires_notify (s : State) (h : s.link.silenceMode = .notify ∨ s.slot.state.live = false) :
    s.silenceExpires = (s.setLink { s.link with silenceTimer := none }).setNotice (s.notice.countRaise 9) := by
  have hg : ¬ (s.link.silenceMode = .safe ∧ s.slot.state.live = true) := by
    rcases h with h | h <;> simp [h]
  simp only [State.silenceExpires, hg, if_false]
  rfl

/-- Settles O15: each expiry by whether its timer runs and whether the slot is live. -/
theorem chainSilenceAndSlotTimers : Obligations.ChainSilenceAndSlotTimers := by
  unfold Obligations.ChainSilenceAndSlotTimers
  intro s
  refine ⟨fun h => ?_, fun ha hr hd => ?_, fun ht hm => ?_, fun h => ?_, rfl, fun h ht => ?_, fun h => ?_,
    fun h ht => ?_, fun h => ?_⟩
  · have hl := (SlotState.live_iff _).mpr h
    refine ⟨?_, fun ht hm => ?_⟩
    · rw [← State.chainOpens_live s hl]; rfl
    · rw [exec_linkSilenceExpiry s ht, State.silenceExpires_safe s hm hl]
  · have hl := SlotState.not_live ha hr hd
    refine ⟨?_, fun ht => ?_⟩
    · rw [← State.chainOpens_idle s hl]; rfl
    · rw [exec_linkSilenceExpiry s ht, State.silenceExpires_notify s (.inr hl)]
  · rw [exec_linkSilenceExpiry s ht, State.silenceExpires_notify s (.inl hm)]
  · simp [exec, execLinkSilenceExpiry, h]
  · simp [exec, execArmTimerExpiry, h, ht]
  · rcases h with h | h <;> simp [exec, execArmTimerExpiry, h]
  · simp [exec, execDrainTimerExpiry, h, ht, State.drainEnds, State.moveTo_eq]
  · rcases h with h | h <;> simp [exec, execDrainTimerExpiry, h]

/-! ### The identity reader (R7, R27, R28) -/

theorem indexOf_isSome (n v : Nat) : (indexOf n v).isSome = true ↔ v < n := by
  unfold indexOf
  split <;> simp_all

/-- R28: a wiring byte names a rail and a zone. -/
theorem wireOf_isSome (b : Nat) (h : b ≠ 255) : (wireOf b).isSome = true ↔ b / 16 ≤ 3 ∧ b % 16 ≤ 5 := by
  rw [wireOf, if_neg h]
  by_cases hr : b / 16 < 4
  · simp only [indexOf, hr, dif_pos, Option.bind_some, Option.isSome_map]
    simp [Nat.lt_succ_iff.mp hr]
    omega
  · simp [indexOf, hr]
    omega

/-- A test of every number below a bound, as the model makes it. -/
theorem finRange_all_iff (n : Nat) (p : Nat → Bool) :
    (List.finRange n).all (fun k => p k.val) = true ↔ ∀ k < n, p k = true := by
  simp [List.all_eq_true, Fin.forall_iff]

/-- A count of the numbers below a bound, as the model makes it. -/
theorem length_filter_finRange (n : Nat) (p : Nat → Bool) :
    ((List.finRange n).filter fun k => p k.val).length = ((List.range n).filter p).length := by
  rw [← List.map_coe_finRange_eq_range, List.filter_map, List.length_map]
  rfl

/-- R28: the model's eight checks are those of the manual. -/
theorem identityChecks_iff (image : List Byte) : identityChecks image = true ↔ ImageOk image := by
  unfold identityChecks ImageOk
  have fits : (List.finRange 48).all (fun k =>
        byteAt image (252 + k.val) == 255 || (wireOf (byteAt image (252 + k.val))).isSome) = true
      ↔ ∀ k < 48, byteAt image (252 + k) = 255
        ∨ (byteAt image (252 + k) / 16 ≤ 3 ∧ byteAt image (252 + k) % 16 ≤ 5) := by
    rw [finRange_all_iff 48 fun k => byteAt image (252 + k) == 255 || (wireOf (byteAt image (252 + k))).isSome]
    refine forall₂_congr fun k _ => ?_
    by_cases hb : byteAt image (252 + k) = 255
    · simp [hb]
    · simp [hb, wireOf_isSome _ hb]
  have count := length_filter_finRange 48 fun k => byteAt image (252 + k) != 255
  have rails := finRange_all_iff 4 fun r => u16At image (8 + 4 * r) ≤ 16000
      && 1 ≤ u16At image (10 + 4 * r) && u16At image (10 + 4 * r) ≤ 4000
  have zones := finRange_all_iff 6 fun z => u16At image (24 + 38 * z) ≤ 2500
      && decide (-624 ≤ s16At image (26 + 38 * z)) && decide (s16At image (26 + 38 * z) ≤ 4000)
  have tables : (List.finRange 6).all (fun z => (List.finRange 17).all fun i =>
        decide (-640 ≤ s16At image (28 + 38 * z.val + 2 * i.val))
        && decide (s16At image (28 + 38 * z.val + 2 * i.val) ≤ 4000)) = true
      ↔ ∀ z < 6, ∀ i < 17, -640 ≤ s16At image (28 + 38 * z + 2 * i)
        ∧ s16At image (28 + 38 * z + 2 * i) ≤ 4000 := by
    simp [List.all_eq_true, Fin.forall_iff]
  simp only [Bool.and_eq_true, fits, rails, zones, tables, count, beq_iff_eq, decide_eq_true_eq, and_assoc,
    ← bne_iff_ne, Bool.decide_eq_true]

theorem identityOf_wrongLength {image : List Byte} (h : image.length ≠ 302) : identityOf image = none := by
  simp [identityOf, h]

theorem identityOf_ok {image : List Byte} (h : image.length = 302) (ok : ImageOk image) :
    identityOf image = some { image := ⟨image, h⟩ } := by
  simp [identityOf, h, (identityChecks_iff image).mpr ok]

theorem identityOf_bad {image : List Byte} (bad : ¬ ImageOk image) : identityOf image = none := by
  simp [identityOf, mt (identityChecks_iff image).mp bad]

/-- R7: a failed attempt, block by block. -/
theorem State.attemptFails_eq (s : State) :
    s.attemptFails =
      if s.ident.attempts < 3 then s.setIdent { s.ident with attemptTimer := none, waitTimer := some 10 }
      else ((s.setIdent { s.ident with attemptTimer := none }).setSlot
        { s.slot with state := .unidentified }).setNotice (s.notice.countRaise 0) := rfl

theorem exec_identityAttemptEnd (s : State) (read : BusRead) (h : s.attempting = true) :
    exec (.identityAttemptEnd read) s = .next (s.attemptEnds read) := by
  simp [exec, execIdentityAttemptEnd, h]

theorem State.attemptEnds_noAcknowledge (s : State) : s.attemptEnds .noAcknowledge = s.attemptFails := rfl

theorem State.attemptEnds_unreadable (s : State) {image : List Byte} (h : identityOf image = none) :
    s.attemptEnds (.bytes image) = s.attemptFails := by
  simp [State.attemptEnds, h]

theorem State.attemptEnds_read (s : State) {image : List Byte} {d : Identity} (h : identityOf image = some d) :
    s.attemptEnds (.bytes image) =
      (s.setIdent { s.ident with record := some d, attemptTimer := none }).moveTo .ready := by
  simp [State.attemptEnds, h]

/-- Settles O14: R28's checks by `identityChecks_iff`, each end of an attempt by what was read. -/
theorem identityAttempts : Obligations.IdentityAttempts := by
  unfold Obligations.IdentityAttempts
  intro s read image h failed
  have fails : s.attemptFails = failed := s.attemptFails_eq
  refine ⟨fun hs ht => ?_, fun hs hw => ?_, fun hs => ?_, ?_⟩
  · have going : s.attempting = true := by simp [State.attempting, hs, ht]
    refine ⟨fun ok => ?_, fun bad => ?_, fun bytes hb => ?_, ?_, ?_⟩
    · rw [exec_identityAttemptEnd s _ going, State.attemptEnds_read s (identityOf_ok h ok)]; rfl
    · rw [exec_identityAttemptEnd s _ going, State.attemptEnds_unreadable s (identityOf_bad bad), fails]
    · rw [exec_identityAttemptEnd s _ going, State.attemptEnds_unreadable s (identityOf_wrongLength hb), fails]
    · rw [exec_identityAttemptEnd s _ going, State.attemptEnds_noAcknowledge, fails]
    · simp only [exec, execIdentityAttemptTimeout, going, if_true, fails]
  · simp [exec, execIdentityRetryWaitExpiry, hs, hw, Config.identityAttemptMs]
  · have idle : s.attempting = false := by simp [State.attempting, hs]
    simp [exec, execIdentityAttemptEnd, execIdentityAttemptTimeout, execIdentityRetryWaitExpiry, idle, hs]
  · simp [State.localBus, State.attempting, identityRead, Config.identityDevice, Config.identityOffset,
      Config.identityBytes, and_comm]

end Sys2Proof.Machine
end

section
/-! The entries to DRAINING and to SAFE: what quiescing the blocks leaves, and the rails' part of each. -/

namespace Sys2Proof.Machine

/-! ### The store when play ends (R116, R121, R122) -/

@[simp] theorem Store.release_current (st : Store) : st.release.current = none := by
  unfold Store.release
  split
  · split <;> rfl
  · rfl

@[simp] theorem Store.setMode_current (st : Store) (m : PlayMode) : (st.setMode m).current = st.current := by
  cases h : st.mode <;> cases m <;> simp [Store.setMode, h, Store.toLoop, Store.toStream]
  split <;> rfl

/-- R122: with no current frame a change to Stream frees no frame. -/
theorem Store.setMode_stream_frames (st : Store) (h : st.current = none) :
    (st.setMode .stream).frames = st.frames := by
  have hc : st.currentFrame = none := by simp [Store.currentFrame, h]
  cases hm : st.mode <;> simp [Store.setMode, hm, Store.toStream, hc]

@[simp] theorem Store.withPlay_current (st : Store) (x : Option PlaySettings) :
    (st.withPlay x).current = st.current := by
  cases x with
  | none => rfl
  | some p => exact Store.setMode_current st p.mode

/-! ### Waiting settings applied while the exerciser is not STARVED (R135) -/

/-- The exerciser with settings applied: the channels by their entries, the clocks' ages as R135 leaves them. -/
theorem State.applySettings_exer (s : State) (x : Settings) (h : s.exer.state ≠ .starved) :
    ∃ channels ages, (∀ c, channels.get c = (x.channels.get c).getD (s.exer.channels.get c))
      ∧ (s.applySettings x).exer = { s.exer with
          timing := x.timing.getD s.exer.timing, channels := channels, clockAge := ages
          underrun := (x.play.map PlaySettings.underrun).getD s.exer.underrun } := by
  obtain ⟨channels, _, exer, _⟩ := State.applySettings_applied s x h
  exact ⟨_, _, channels, exer⟩

theorem State.applySettings_store (s : State) (x : Settings) (h : s.exer.state ≠ .starved) :
    (s.applySettings x).store = s.store.withPlay x.play := by
  unfold State.applySettings
  cases x.play with
  | none => rfl
  | some p =>
    dsimp only
    rw [State.applyPlay_eq _ _ (by simpa using h)]
    dsimp only
    split <;> rfl

/-- R123: with no current frame the settings free no READY frame, and so raise nothing. -/
theorem State.applySettings_notice (s : State) (x : Settings) (h : s.exer.state ≠ .starved)
    (hc : s.store.current = none) : (s.applySettings x).notice = s.notice := by
  obtain ⟨_, _, _, unplayed, played, _⟩ := State.applySettings_applied s x h
  cases hx : x.play with
  | none => exact (unplayed hx).2
  | some p =>
    obtain ⟨_, _, raised⟩ := played p hx
    rw [raised, if_neg]
    rintro ⟨_, hm, before, after⟩
    rw [State.applySettings_store s x h, hx] at after
    have same : (s.store.withPlay (some p)).readyCount = s.store.readyCount := by
      simp only [Store.withPlay, hm, Store.readyCount, Store.setMode_stream_frames s.store hc]
    omega

theorem State.applyBoundary_store (s : State) (h : s.exer.state ≠ .starved) :
    s.applyBoundary.store = s.store.withPlay s.exer.boundary.play :=
  State.applySettings_store _ _ h

theorem State.applyBoundary_notice (s : State) (h : s.exer.state ≠ .starved) (hc : s.store.current = none) :
    s.applyBoundary.notice = s.notice :=
  State.applySettings_notice _ _ h hc

theorem State.applyStaged_store (s : State) (h : s.exer.state ≠ .starved) :
    s.applyStaged.store = s.store.withPlay s.exer.staged.play :=
  State.applySettings_store _ _ h

theorem State.applyStaged_notice (s : State) (h : s.exer.state ≠ .starved) (hc : s.store.current = none) :
    s.applyStaged.notice = s.notice :=
  State.applySettings_notice _ _ h hc

/-! ### The exerciser goes IDLE (R128) -/

/-- The exerciser stopped and its frame released, before the waiting settings are applied (R128). -/
def State.playEnded (s : State) : State :=
  (s.setStore s.store.release).setExer { s.exer.clearWindows with
    state := .idle, position := none, holdBudget := false, holdPause := false, holdRequested := false
    stopRequested := false, strobeDue := false }

theorem State.idleExerciser_eq (s : State) : s.idleExerciser = s.playEnded.applyBoundary.applyStaged := rfl

theorem State.playEnded_boundary_exer (s : State) :
    ∃ channels ages, (∀ c, channels.get c = (s.exer.boundary.channels.get c).getD (s.exer.channels.get c))
      ∧ s.playEnded.applyBoundary.exer = { s.playEnded.exer with
          boundary := Settings.empty, timing := s.exer.boundary.timing.getD s.exer.timing
          channels := channels, clockAge := ages
          underrun := (s.exer.boundary.play.map PlaySettings.underrun).getD s.exer.underrun } :=
  State.applySettings_exer (s.playEnded.setExer { s.playEnded.exer with boundary := Settings.empty }) s.exer.boundary
    (by simp [State.playEnded])

@[simp] theorem State.playEnded_boundary_state (s : State) : s.playEnded.applyBoundary.exer.state = .idle := by
  obtain ⟨_, _, _, boundary⟩ := s.playEnded_boundary_exer
  rw [boundary]
  rfl

@[simp] theorem State.playEnded_boundary_staged (s : State) :
    s.playEnded.applyBoundary.exer.staged = s.exer.staged := by
  obtain ⟨_, _, _, boundary⟩ := s.playEnded_boundary_exer
  rw [boundary]
  rfl

/-- R128: the exerciser after the waiting settings, the staged ones last. -/
theorem State.idleExerciser_exer (s : State) :
    ∃ channels ages, (∀ c, channels.get c =
        ((s.exer.staged.channels.get c).or (s.exer.boundary.channels.get c)).getD (s.exer.channels.get c))
      ∧ s.idleExerciser.exer = { s.playEnded.exer with
          boundary := Settings.empty, staged := Settings.empty
          timing := (s.exer.staged.timing.or s.exer.boundary.timing).getD s.exer.timing
          channels := channels, clockAge := ages
          underrun :=
            ((s.exer.staged.play.or s.exer.boundary.play).map PlaySettings.underrun).getD s.exer.underrun } := by
  obtain ⟨first, _, hfirst, boundary⟩ := s.playEnded_boundary_exer
  let m := s.playEnded.applyBoundary
  obtain ⟨second, ages, hsecond, staged⟩ := State.applySettings_exer
    (m.setExer { m.exer with staged := Settings.empty }) m.exer.staged (by simp [m])
  refine ⟨second, ages, fun c => ?_, ?_⟩
  · rw [hsecond, Option.getD_or, ← hfirst, State.setExer_exer, boundary]
    rfl
  · rw [State.idleExerciser_eq]
    refine staged.trans ?_
    rw [State.setExer_exer, boundary, Option.map_or, Option.getD_or, Option.getD_or]
    rfl

theorem State.playEnded_boundary_store (s : State) :
    s.playEnded.applyBoundary.store = s.store.release.withPlay s.exer.boundary.play :=
  State.applyBoundary_store s.playEnded (by simp [State.playEnded])

theorem State.idleExerciser_store (s : State) :
    s.idleExerciser.store = (s.store.release.withPlay s.exer.boundary.play).withPlay s.exer.staged.play := by
  rw [State.idleExerciser_eq, State.applyStaged_store _ (by simp), State.playEnded_boundary_store,
    State.playEnded_boundary_staged]

/-- No C7A at the exerciser's entry to IDLE: the frame in play is released before the settings are applied. -/
theorem State.idleExerciser_notice (s : State) : s.idleExerciser.notice = s.notice := by
  rw [State.idleExerciser_eq, State.applyStaged_notice _ (by simp) (by simp [State.playEnded_boundary_store]),
    State.applyBoundary_notice _ (by simp [State.playEnded]) (by simp [State.playEnded])]
  rfl

/-! ### The blocks quiesced (R77, R80, R106, R128, R142) -/

theorem State.quiesce_exer (s : State) :
    s.quiesce.exer =
      (s.setSock { s.sock with sockets := s.sock.sockets.map SocketRec.endRun }).idleExerciser.exer := by
  simp [State.quiesce]

theorem State.quiesce_store (s : State) :
    s.quiesce.store = (s.store.release.withPlay s.exer.boundary.play).withPlay s.exer.staged.play := by
  simp [State.quiesce, State.idleExerciser_store]

@[simp] theorem State.quiesce_notice (s : State) : s.quiesce.notice = s.notice := by
  simp [State.quiesce, State.idleExerciser_notice]

/-- R77: a socket's record at the end of a run. -/
theorem SocketRec.endRun_eq (r : SocketRec) :
    r.endRun = { r with
      state := if r.state = .active ∨ r.state = .warned ∨ r.state = .heldOff ∨ r.state = .isolated then .off
        else r.state
      offCount := r.offCount + (if r.state = .active ∨ r.state = .warned then 1 else 0)
      prior := none, blanking := none, cooldown := none, retryDue := false, switchClosed := false } := by
  cases h : r.state <;> simp [SocketRec.endRun, SocketRec.depart, SocketState.powered, h]

/-- A state whose run blocks are those of the quiesced one is a quiesced one: what an entry does besides stands
elsewhere. -/
theorem State.quiesced_of_blocks {s t : State} (sock : t.sock = s.quiesce.sock) (therm : t.therm = s.quiesce.therm)
    (credit : t.credit = s.quiesce.credit) (exer : t.exer = s.quiesce.exer) (store : t.store = s.quiesce.store) :
    s.Quiesced t := by
  rw [State.quiesce_sock] at sock
  rw [State.quiesce_therm] at therm
  rw [State.quiesce_credit] at credit
  rw [State.quiesce_exer] at exer
  rw [State.quiesce_store] at store
  obtain ⟨channels, ages, hchannels, idle⟩ := State.idleExerciser_exer
    (s.setSock { s.sock with sockets := s.sock.sockets.map SocketRec.endRun })
  rw [idle] at exer
  refine ⟨fun k => ?_, by rw [sock], fun z => ?_, by rw [therm]; rfl, credit, ?_⟩
  · rw [sock, Bank.get_map, SocketRec.endRun_eq]
  · rw [therm, Bank.get_map]; rfl
  · refine ⟨by rw [exer]; rfl, by rw [exer]; rfl, by rw [exer]; rfl, by rw [exer]; rfl, by rw [exer]; rfl,
      by rw [exer]; rfl, by rw [exer]; rfl, by rw [exer], by rw [exer], by rw [exer]; rfl, fun k => ?_,
      by rw [exer]; rfl, fun c => ?_, by rw [exer]; rfl, by rw [exer]; rfl, by rw [exer]; rfl, by rw [exer]; rfl,
      store, by simp [store]⟩
    · rw [exer]
      exact Bank.get_map _ _ k
    · rw [exer]
      exact hchannels c

/-! ### The rails' power-down (R43, R52, R53) -/

/-- R43: the start sequence holds the used rails that have an order. -/
theorem RailCtl.mem_usedInOrder (c : RailCtl) (r : Fin 4) :
    r ∈ c.usedInOrder ↔ (c.rails.get r).used = true ∧ ∃ o, 1 ≤ o ∧ o ≤ 4 ∧ (c.rails.get r).order = some o := by
  have four : ∀ o : Nat, o ∈ [1, 2, 3, 4] ↔ 1 ≤ o ∧ o ≤ 4 := by
    intro o
    simp only [List.mem_cons, List.not_mem_nil, or_false]
    omega
  simp only [RailCtl.usedInOrder, List.mem_flatMap, List.mem_filter, List.mem_finRange, true_and, Bool.and_eq_true,
    beq_iff_eq, four]
  grind

/-- R43: the start sequence rises by the rails' orders. -/
theorem RailCtl.usedInOrder_rising (c : RailCtl) :
    (c.usedInOrder.map fun r => (c.rails.get r).order.getD 0).Pairwise (· ≤ ·) := by
  have key : ∀ (o : Nat) (r : Fin 4), r ∈ (List.finRange 4).filter
      (fun r => (c.rails.get r).used && (c.rails.get r).order == some o) → (c.rails.get r).order.getD 0 = o := by
    intro o r hr
    simp only [List.mem_filter, Bool.and_eq_true, beq_iff_eq] at hr
    simp [hr]
  rw [List.pairwise_map, RailCtl.usedInOrder, List.pairwise_flatMap]
  refine ⟨fun o _ => List.pairwise_of_forall_mem_list fun a ha b hb => ?_, ?_⟩
  · rw [key o a ha, key o b hb]
  · refine List.Pairwise.imp (fun {o p} hop a ha b hb => ?_) (show [1, 2, 3, 4].Pairwise (· ≤ ·) by decide)
    rw [key o a ha, key p b hb]
    exact hop

/-- The drain list from its first driven rail on (R52). -/
def RailCtl.toDrain (c : RailCtl) (l : List (Fin 4)) : List (Fin 4) :=
  l.dropWhile fun r => !(c.rails.get r).state.driven

/-- R52: a drain step turns the first driven rail off. -/
theorem RailCtl.drainStep_get (c : RailCtl) (r : Fin 4) :
    c.drainStep.rails.get r =
      if (c.toDrain c.drainSeq).head? = some r then (c.rails.get r).turnOff else c.rails.get r := by
  unfold RailCtl.drainStep RailCtl.toDrain
  split
  · next h => simp [h]
  · next q rest h => simp [h, Bank.get_modify]

/-- R52: what else a drain step moves is the list and its timer. -/
theorem RailCtl.drainStep_eq (c : RailCtl) :
    c.drainStep = { c with
      rails := c.drainStep.rails, drainSeq := (c.toDrain c.drainSeq).drop 1
      drainStepTimer := if (c.toDrain c.drainSeq).drop 1 = [] then none else some 250 } := by
  unfold RailCtl.drainStep RailCtl.toDrain
  split
  · next h => simp [h]
  · next q rest h => cases rest <;> simp [h, Config.drainStepMs]

theorem RailCtl.beginDrain_get (c : RailCtl) (r : Fin 4) :
    c.beginDrain.rails.get r =
      if (c.toDrain c.usedInOrder.reverse).head? = some r then (c.rails.get r).turnOff else c.rails.get r :=
  RailCtl.drainStep_get _ r

theorem RailCtl.beginDrain_eq (c : RailCtl) :
    c.beginDrain = { c with
      startSeq := [], rails := c.beginDrain.rails, drainSeq := (c.toDrain c.usedInOrder.reverse).drop 1
      drainStepTimer := if (c.toDrain c.usedInOrder.reverse).drop 1 = [] then none else some 250 } :=
  RailCtl.drainStep_eq _

/-- R53: every driven rail turned off together. -/
theorem RailCtl.allOff_get (c : RailCtl) (r : Fin 4) :
    c.allOff.rails.get r =
      if (c.rails.get r).state = .ramping ∨ (c.rails.get r).state = .regulated then (c.rails.get r).turnOff
      else c.rails.get r := by
  simp only [RailCtl.allOff, Bank.get_map]
  cases (c.rails.get r).state <;> simp [RailState.driven]

/-! ### The entries -/

theorem State.enterDraining_quiesced (s : State) (c : EndCause) : s.Quiesced (s.enterDraining c) :=
  State.quiesced_of_blocks rfl rfl rfl rfl rfl

theorem State.enterDraining_notice (s : State) (c : EndCause) :
    (s.enterDraining c).notice = (s.notice.countRaise 0).countRaise 0 := by
  simp [State.enterDraining]

/-- Settles O16: the blocks by `State.quiesced_of_blocks`, the rails by the drain step that the entry makes. -/
theorem drainingEntry : Obligations.DrainingEntry := by
  unfold Obligations.DrainingEntry
  intro s cause t order live
  have falling : (order.map fun r => (s.rail.rails.get r).order.getD 0).Pairwise (· ≥ ·) := by
    rw [List.map_reverse, List.pairwise_reverse]
    exact s.rail.usedInOrder_rising
  have rest : t.rail = { s.rail with
      startSeq := [], rails := t.rail.rails, drainSeq := live.drop 1
      drainStepTimer := if live.drop 1 = [] then none else some 250 } := by
    rw [State.enterDraining_rail]
    exact s.rail.beginDrain_eq
  refine ⟨State.enterDraining_quiesced s cause, State.enterDraining_slot s cause,
    fun r => List.mem_reverse.trans (s.rail.mem_usedInOrder r), falling, fun r => ?_, by rw [rest], by rw [rest],
    by rw [rest], by rw [rest], State.enterDraining_notice s cause, ?_⟩
  · rw [State.enterDraining_rail]
    exact s.rail.beginDrain_get r
  · simp [t]

theorem State.enterSafe_quiesced (s : State) (c : EndCause) (f : FailureKind) (k : Fin 12) (x : Source) :
    s.Quiesced (s.enterSafe c f k x) :=
  State.quiesced_of_blocks (by simp) (by simp) (by simp) (by simp [State.enterSafe]) (by simp [State.enterSafe])

/-- A failure handed over raises C10 by the log alone (R153). -/
theorem State.logFailure_notice (s : State) (x : FailureKind) (k : Option (Fin 48)) (u : Option Nat) (d : Word16) :
    (s.logFailure x k u d).notice =
      if s.fail.log.length = 47 ∨ 64 ≤ s.fail.log.length then s.notice.countRaise 10 else s.notice := by
  unfold State.logFailure
  simp only [Config.logLimit, Config.logHighWater]
  by_cases h : 64 ≤ s.fail.log.length
  · simp [h]
  · by_cases h' : s.fail.log.length = 47 <;> simp [h, h']

/-- Settles O17: the blocks by `State.quiesced_of_blocks`, the rails by `RailCtl.allOff_get`. -/
theorem safeEntry : Obligations.SafeEntry := by
  unfold Obligations.SafeEntry
  intro s cause kind cls src t
  have rail : t.rail = s.rail.allOff := State.enterSafe_rail s cause kind cls src
  refine ⟨State.enterSafe_quiesced s cause kind cls src, State.enterSafe_slot s cause kind cls src, fun r => ?_,
    by rw [rail]; rfl, by rw [rail]; rfl, by rw [rail]; rfl, by rw [rail]; rfl, ?_, ?_, ?_⟩
  · rw [rail]
    exact s.rail.allOff_get r
  · simp [t, State.enterSafe, CreditUnit.endRun]
  · simp [t, State.enterSafe, State.logFailure_notice]
  · simp [t]

end Sys2Proof.Machine
end

section
/-! The arming test and the entry to RUNNING (R12, R127, R70, R142, R16). -/

namespace Sys2Proof.Machine

/-- R12: the arming conditions, one by one. -/
theorem State.armed_iff (s : State) :
    s.armed = true ↔
      (∀ r, (s.rail.rails.get r).used = true → (s.rail.rails.get r).state = .regulated)
      ∧ s.rail.seqComplete = true
      ∧ (∀ z, (s.therm.zones.get z).state = .regulating ∧ (s.therm.zones.get z).inWindow = true)
      ∧ (s.slot.goGiven = true ∨ ∃ g, s.recipe.general = some g ∧ g.autoGo = true) := by
  have rails : s.rail.rails.cells.all (fun r => !r.used || r.state == .regulated) = true
      ↔ ∀ r, (s.rail.rails.get r).used = true → (s.rail.rails.get r).state = .regulated := by
    rw [Bank.all_cells]
    refine forall_congr' fun r => ?_
    cases (s.rail.rails.get r).used <;> simp
  have zones : s.therm.zones.cells.all (fun z => z.state == .regulating && z.inWindow) = true
      ↔ ∀ z, (s.therm.zones.get z).state = .regulating ∧ (s.therm.zones.get z).inWindow = true := by
    rw [Bank.all_cells]
    simp
  unfold State.armed
  rw [Bool.and_eq_true, Bool.and_eq_true, Bool.and_eq_true, rails, zones, and_assoc, and_assoc]
  cases s.recipe.general <;> simp

/-- R16: no populated socket is left that is neither COMPLETED nor RETIRED. -/
theorem State.allFinal_iff (s : State) :
    s.allFinal = true ↔ ∀ k, (s.sock.sockets.get k).state = .vacant ∨ (s.sock.sockets.get k).state = .retired
      ∨ (s.sock.sockets.get k).state = .completed := by
  unfold State.allFinal
  rw [Bank.all_cells]
  refine forall_congr' fun k => ?_
  cases (s.sock.sockets.get k).state <;> simp [SocketState.isFinal]

/-- R70, R71: what the entry to RUNNING makes of a socket. -/
theorem State.retryDue_get (s : State) (k : Fin 48) :
    s.retryDue.sock.sockets.get k =
      if (s.sock.sockets.get k).state = .isolated ∧ (s.sock.sockets.get k).retryDue = true
        ∧ s.zoneRegulating k = true then
        { s.sock.sockets.get k with
          state := .active, faultCounter := 64, retries := (s.sock.sockets.get k).retries + 1
          retryDue := false, switchClosed := true, blanking := some 20 }
      else s.sock.sockets.get k := by
  simp only [State.retryDue, State.setSock_sock, Bank.get_ofFn, SocketRec.due, Bool.and_eq_true, beq_iff_eq,
    and_assoc]
  rfl

/-- A retry makes no socket final and unmakes none. -/
theorem State.retryDue_allFinal (s : State) : s.retryDue.allFinal = s.allFinal := by
  rw [Bool.eq_iff_iff, State.allFinal_iff, State.allFinal_iff]
  refine forall_congr' fun k => ?_
  rw [State.retryDue_get]
  split
  · next h => simp [h.1]
  · rfl

/-- The slot in RUNNING and the exerciser begun, nothing else yet (R12, R127). -/
def State.running (s : State) : State :=
  ((s.setSlot { s.slot with armTimer := none }).moveTo .running).beginPlay

/-- The whole entry to RUNNING but for the run's end (R12, R127, R70, R142). -/
def State.underway (s : State) : State :=
  s.running.retryDue.note.setCredit { s.running.retryDue.note.credit with timer := some Config.creditSeconds }

theorem State.running_slot (s : State) : s.running.slot = { s.slot with armTimer := none, state := .running } := by
  simp [State.running]

theorem State.running_zoneRegulating (s : State) (k : Fin 48) : s.running.zoneRegulating k = s.zoneRegulating k := by
  simp [State.zoneRegulating, State.wire, State.zoneState, State.running]

theorem State.underway_get (s : State) (k : Fin 48) :
    s.underway.sock.sockets.get k =
      if (s.sock.sockets.get k).state = .isolated ∧ (s.sock.sockets.get k).retryDue = true
        ∧ s.zoneRegulating k = true then
        { s.sock.sockets.get k with
          state := .active, faultCounter := 64, retries := (s.sock.sockets.get k).retries + 1
          retryDue := false, switchClosed := true, blanking := some 20 }
      else s.sock.sockets.get k := by
  have same : s.running.sock = s.sock := by simp [State.running]
  rw [← State.running_zoneRegulating, ← same]
  exact State.retryDue_get s.running k

theorem State.underway_allFinal (s : State) : s.underway.allFinal = s.allFinal := by
  have retried : s.underway.allFinal = s.running.retryDue.allFinal := rfl
  have same : s.running.sock = s.sock := by simp [State.running]
  rw [retried, State.retryDue_allFinal, State.allFinal, same, ← State.allFinal]

/-- A retry moves no off count, so what is noted after it is what stood before (R142). -/
theorem State.underway_notedOff (s : State) (k : Fin 48) :
    s.underway.credit.accounts.get k =
      { s.credit.accounts.get k with notedOff := (s.sock.sockets.get k).offCount } := by
  have noted : s.underway.credit.accounts.get k = { s.running.credit.accounts.get k with
      notedOff := (s.underway.sock.sockets.get k).offCount } := Bank.get_ofFn _ k
  rw [noted, State.underway_get]
  simp only [State.running, State.beginPlay_credit, State.moveTo_credit, State.setSlot_credit]
  split <;> rfl

theorem State.underway_credit (s : State) :
    s.underway.credit = { s.credit with
      timer := some 1
      notedExcursions := s.rail.rails.map RailRec.excursions
      notedBreaches := s.therm.zones.map ZoneRec.breaches
      notedStalls := s.underway.exer.stalls
      accounts := s.underway.credit.accounts } := by
  simp [State.underway, State.note, State.running, Config.creditSeconds]

/-- R16 at the entry to RUNNING. -/
theorem State.enterRunning_eq (s : State) :
    s.enterRunning = if s.allFinal then s.underway.enterDraining .complete else s.underway := by
  have entered : s.enterRunning = s.underway.checkRunEnd := rfl
  have live : s.underway.slot.state.inRun = true := by
    change s.running.slot.state.inRun = true
    rw [State.running_slot]
    rfl
  rw [entered, State.checkRunEnd, live, State.underway_allFinal, Bool.true_and]

/-- Settles O21: the conditions by `State.armed_iff`, the entry by `State.enterRunning_eq`. -/
theorem armingAndEntryToRunning : Obligations.ArmingAndEntryToRunning := by
  unfold Obligations.ArmingAndEntryToRunning
  intro s ready final begun played
  have passes : (s.slot.state = .arming ∧ s.armed = true) ↔ ready := and_congr_right fun _ => s.armed_iff
  refine ⟨fun h => if_neg (mt passes.mp h), fun h => ⟨s.underway, ?_, State.running_slot s, rfl, rfl, rfl,
    s.underway_get, s.underway_credit, s.underway_notedOff, ?_⟩⟩
  · rw [State.armingTest, if_pos (passes.mpr h), State.enterRunning_eq]
    exact if_congr s.allFinal_iff rfl rfl
  · simp [State.underway, State.running]

end Sys2Proof.Machine
end

section
/-! The requests that set the link and the classes, and those that control a run: what each kind's rule answers, and
the commands by it. -/

namespace Sys2Proof.Machine

/-! ### A taken request by its rule's answer -/

/-- A command that is a request of a kind, taken: what the kind's rule answers, in the state after a valid frame. -/
theorem exec_taken {i : Instr} {s : State} {k : Kind} {q : Request} {rule : Call → State → Answer} {a : Answer}
    (hi : exec i s = .next (s.request k q rule)) (h : s.Takes k q) (ha : rule (callOf q) s.heard = a) :
    exec i s = .next (a.state.answering k q a.result a.data) := by
  rw [hi, State.request_takes h, ha]

/-! ### Codes and numbers of a payload -/

theorem silenceModeOf_le {v : Nat} (h : v ≤ 1) : silenceModeOf v = some (if v = 1 then .safe else .notify) := by
  interval_cases v <;> rfl

theorem silenceModeOf_gt {v : Nat} (h : 1 < v) : silenceModeOf v = none := by
  obtain ⟨n, rfl⟩ := Nat.exists_eq_add_of_lt h
  rw [show 1 + n + 1 = n + 2 by omega]
  rfl

theorem yesNoOf_le {v : Nat} (h : v ≤ 1) : yesNoOf v = some (decide (v = 1)) := by
  interval_cases v <;> rfl

theorem yesNoOf_gt {v : Nat} (h : 1 < v) : yesNoOf v = none := by
  obtain ⟨n, rfl⟩ := Nat.exists_eq_add_of_lt h
  rw [show 1 + n + 1 = n + 2 by omega]
  rfl

@[simp] theorem indexOf_val {n : Nat} (k : Fin n) : indexOf n k.val = some k := by
  simp [indexOf]

theorem indexOf_ge {n v : Nat} (h : n ≤ v) : indexOf n v = none := by
  simp [indexOf, h]

/-! ### The link's settings (R4, R172, R21) -/

/-- The slot to EMPTY, the make timer by the contacts (R4, R20), block by block. -/
theorem State.watchMake_moveTo_empty (s : State) :
    (s.setSlot s.slot.watchMake).moveTo .empty = (s.setSlot { s.slot with
      state := .empty
      makeTimer := if s.slot.seatA = true ∧ s.slot.seatB = true then s.slot.makeTimer.or (some 100)
        else none }).setNotice (s.notice.countRaise 0) := by
  rw [SlotRec.watchMake_eq]
  rfl

theorem handleRelease_hold (c : Call) (s : State) (h : s.slot.state = .hold) :
    handleRelease c s = ((s.setSlot { s.slot with
      state := .empty
      makeTimer := if s.slot.seatA = true ∧ s.slot.seatB = true then s.slot.makeTimer.or (some 100)
        else none }).setNotice (s.notice.countRaise 0)).ok := by
  rw [handleRelease, if_pos h, State.watchMake_moveTo_empty]

theorem handleRelease_elsewhere (c : Call) (s : State) (h : s.slot.state ≠ .hold) : handleRelease c s = s.ok := by
  rw [handleRelease, if_neg h]

theorem handleRestart_eq (c : Call) (s : State) :
    handleRestart c s = (s.setLink { s.link with restartDue := true }).ok := rfl

theorem handleSetLink_bad (c : Call) (s : State) (h : 1 < byteAt c.payload 1 ∨ 1 < byteAt c.payload 2) :
    handleSetLink c s = s.refuse .badValue 0 := by
  unfold handleSetLink
  split
  · next mode enable hm he =>
    rcases h with h | h
    · rw [silenceModeOf_gt h] at hm; cases hm
    · rw [yesNoOf_gt h] at he; cases he
  · rfl

theorem handleSetLink_good (c : Call) (s : State) (hm : byteAt c.payload 1 ≤ 1) (he : byteAt c.payload 2 ≤ 1) :
    handleSetLink c s = (s.setLink { s.link with
      silenceLimit := byteAt c.payload 0, silenceMode := if byteAt c.payload 1 = 1 then .safe else .notify
      groupEnable := decide (byteAt c.payload 2 = 1), groupCode := c.payload.getD 3 0
      groupMask := c.payload.getD 4 0
      silenceTimer := if byteAt c.payload 0 = 0 then none else some (byteAt c.payload 0) }).ok := by
  unfold handleSetLink
  rw [silenceModeOf_le hm, yesNoOf_le he]
  rfl

/-! ### The classes (R160, R161) -/

theorem handleSetClass_level (c : Call) (s : State) (k : Fin 12) (ha : byteAt c.payload 0 = k.val)
    (hv : byteAt c.payload 1 ≤ 7) :
    handleSetClass c s = (s.setNotice { s.notice with
      classes := s.notice.classes.set k
        (if byteAt c.payload 1 = 0 then { level := 0, pending := false, count := 0 }
         else { s.notice.classes.get k with level := byteAt c.payload 1 }) }).ok := by
  simp only [handleSetClass, ha, indexOf_val, hv, if_true]
  rfl

theorem handleSetClass_threshold (c : Call) (s : State) (ha : byteAt c.payload 0 = 12)
    (h1 : 1 ≤ byteAt c.payload 1) (h7 : byteAt c.payload 1 ≤ 7) :
    handleSetClass c s = (s.setNotice { s.notice with threshold := byteAt c.payload 1 }).ok := by
  simp only [handleSetClass, ha, indexOf_ge (le_refl 12), h1, h7, and_self, if_true]

theorem handleSetClass_bad (c : Call) (s : State)
    (h : 12 < byteAt c.payload 0 ∨ 7 < byteAt c.payload 1 ∨ (byteAt c.payload 0 = 12 ∧ byteAt c.payload 1 = 0)) :
    handleSetClass c s = s.refuse .badValue 0 := by
  unfold handleSetClass
  dsimp only
  split
  · next k hk =>
    have below : byteAt c.payload 0 < 12 := (indexOf_isSome 12 _).mp (by rw [hk]; rfl)
    rw [if_neg (by omega)]
  · rw [if_neg (by omega)]

/-- R160: one more pair acknowledged, with the characters its class answers. -/
def Notices.ackStep (acc : Notices × List Byte) (p : Fin 12 × Nat) : Notices × List Byte :=
  let r := (acc.1.classes.get p.1).acknowledge p.2
  ({ acc.1 with classes := acc.1.classes.set p.1 r },
    acc.2 ++ [BitVec.ofNat 8 r.count, if r.pending then 1 else 0])

/-- R160: the pairs are acknowledged one after another, from the first. -/
theorem Notices.foldl_ackStep (l : List (Fin 12 × Nat)) (n : Notices) (out : List Byte) :
    l.foldl Notices.ackStep (n, out) = ((n.acknowledge l).1, out ++ (n.acknowledge l).2) := by
  induction l generalizing n out with
  | nil => simp [Notices.acknowledge]
  | cons p rest ih =>
    rw [List.foldl_cons, Notices.ackStep, ih]
    simp [Notices.acknowledge, chars1, charsFlag]

/-- R160: a class above C11 in any pair spoils the payload. -/
theorem ackPairs_bad {pairs : List (Byte × Byte)} (h : ∃ p ∈ pairs, 12 ≤ p.1.toNat) :
    ackPairs (pairs.flatMap fun p => [p.1, p.2]) = none := by
  induction pairs with
  | nil => simp at h
  | cons p rest ih =>
    change ackPairs (p.1 :: p.2 :: rest.flatMap fun p => [p.1, p.2]) = none
    unfold ackPairs
    obtain ⟨x, hx, hge⟩ := h
    rcases List.mem_cons.mp hx with rfl | hx
    · rw [indexOf_ge hge]
    · rw [ih ⟨x, hx, hge⟩]
      split
      · next heq => cases heq
      · rfl

/-- R160: pairs of classes are read as those classes and seen counts. -/
theorem ackPairs_named {pairs : List (Byte × Byte)} {named : List (Fin 12 × Nat)}
    (h : pairs.map (fun p => (p.1.toNat, p.2.toNat)) = named.map (fun p => (p.1.val, p.2))) :
    ackPairs (pairs.flatMap fun p => [p.1, p.2]) = some named := by
  induction pairs generalizing named with
  | nil =>
    obtain rfl : named = [] := by simpa using h.symm
    rfl
  | cons p rest ih =>
    cases named with
    | nil => simp at h
    | cons n others =>
      obtain ⟨k, seen⟩ := n
      simp only [List.map_cons, List.cons.injEq, Prod.mk.injEq] at h
      obtain ⟨⟨hk, hseen⟩, hrest⟩ := h
      change ackPairs (p.1 :: p.2 :: rest.flatMap fun p => [p.1, p.2]) = _
      rw [ackPairs, ih hrest, hk, indexOf_val, hseen]

theorem handleAckClasses_bad (c : Call) (s : State) (h : ackPairs c.payload = none) :
    handleAckClasses c s = s.refuse .badValue 0 := by
  rw [handleAckClasses, h]

theorem handleAckClasses_named (c : Call) (s : State) {named : List (Fin 12 × Nat)}
    (h : ackPairs c.payload = some named) :
    handleAckClasses c s =
      { state := s.setNotice (named.foldl Notices.ackStep (s.notice, [])).1, result := .ok
        data := (named.foldl Notices.ackStep (s.notice, [])).2 } := by
  rw [handleAckClasses, h, Notices.foldl_ackStep]
  rfl

/-- Settles O40: each kind by what its rule answers. -/
theorem linkAndClassSettings : Obligations.LinkAndClassSettings := by
  unfold Obligations.LinkAndClassSettings
  intro s q k pairs a v made ack
  refine ⟨fun t => ⟨fun h => exec_taken rfl t (handleRelease_hold _ _ h),
      fun h => exec_taken rfl t (handleRelease_elsewhere _ _ h)⟩,
    fun t => exec_taken rfl t (handleRestart_eq _ _),
    fun t => ⟨fun h => exec_taken rfl t (handleSetLink_bad _ _ h),
      fun hm he => exec_taken rfl t (handleSetLink_good _ _ hm he)⟩,
    fun t => ⟨fun ha hv => exec_taken rfl t (handleSetClass_level _ _ k ha hv),
      fun ha h1 h7 => exec_taken rfl t (handleSetClass_threshold _ _ ha h1 h7),
      fun h => exec_taken rfl t (handleSetClass_bad _ _ h)⟩,
    fun t hp => ⟨fun h => exec_taken rfl t (handleAckClasses_bad _ _ ?_),
      fun named h => exec_taken rfl t (handleAckClasses_named _ _ ?_)⟩⟩
  · exact (congrArg ackPairs hp).trans (ackPairs_bad h)
  · exact (congrArg ackPairs hp).trans (ackPairs_named h)

/-! ### The requests that control a run (R8, R12, R14, R15, R20) -/

section Rules

variable (c : Call) (s : State)

theorem handleStop_inRun (h : s.slot.state = .arming ∨ s.slot.state = .running) :
    handleStop c s = (s.enterDraining .stopped).ok := by
  rcases h with h | h <;> simp [handleStop, h]

theorem handleStop_draining (h : s.slot.state = .draining) : handleStop c s = s.ok := by
  simp [handleStop, h]

theorem handleStop_elsewhere (ha : s.slot.state ≠ .arming) (hr : s.slot.state ≠ .running)
    (hd : s.slot.state ≠ .draining) : handleStop c s = s.refuse .wrongState 0 := by
  unfold handleStop
  cases h : s.slot.state <;> simp_all

theorem handleGo_arming (h : s.slot.state = .arming) :
    handleGo c s = (s.setSlot { s.slot with goGiven := true }).armingTest.ok := by
  simp [handleGo, h]

theorem handleGo_running (h : s.slot.state = .running) : handleGo c s = s.ok := by
  simp [handleGo, h]

theorem handleGo_draining (h : s.slot.state = .draining) : handleGo c s = s.refuse .busy 0 := by
  simp [handleGo, h]

theorem handleGo_elsewhere (ha : s.slot.state ≠ .arming) (hr : s.slot.state ≠ .running)
    (hd : s.slot.state ≠ .draining) : handleGo c s = s.refuse .wrongState 0 := by
  unfold handleGo
  cases h : s.slot.state <;> simp_all

theorem handlePause_pauses (h : s.slot.state = .running) (hp : s.slot.paused = false) :
    handlePause c s = (s.setPaused true).ok := by
  simp [handlePause, h, hp]

theorem handlePause_again (h : s.slot.state = .running) (hp : s.slot.paused = true) : handlePause c s = s.ok := by
  simp [handlePause, h, hp]

theorem handlePause_elsewhere (h : s.slot.state ≠ .running) : handlePause c s = s.refuse .wrongState 0 := by
  simp [handlePause, h]

theorem handleResume_resumes (h : s.slot.state = .running) (hp : s.slot.paused = true) :
    handleResume c s = (s.setPaused false).ok := by
  simp [handleResume, h, hp]

theorem handleResume_again (h : s.slot.state = .running) (hp : s.slot.paused = false) : handleResume c s = s.ok := by
  simp [handleResume, h, hp]

theorem handleResume_elsewhere (h : s.slot.state ≠ .running) : handleResume c s = s.refuse .wrongState 0 := by
  simp [handleResume, h]

theorem handleReidentify_board (h : s.slot.state = .unidentified ∨ s.slot.state = .ready) :
    handleReidentify c s = { state := s.enterIdentifying, result := .accepted, data := [] } := by
  rcases h with h | h <;> simp [handleReidentify, h]

theorem handleReidentify_elsewhere (hu : s.slot.state ≠ .unidentified) (hr : s.slot.state ≠ .ready) :
    handleReidentify c s = s.refuse .wrongState 0 := by
  unfold handleReidentify
  cases h : s.slot.state <;> simp_all

theorem handleClearSafe_open (h : s.slot.state = .safe) (hc : s.slot.chainOpen = true) :
    handleClearSafe c s = s.refuse .interlock 0 := by
  simp [handleClearSafe, h, hc]

theorem handleClearSafe_identified (h : s.slot.state = .safe) (hc : s.slot.chainOpen = false)
    (hs : s.slot.seated = true) (hr : s.ident.record.isSome = true) : handleClearSafe c s = (s.moveTo .ready).ok := by
  simp [handleClearSafe, State.clearSafe, h, hc, hs, hr]

theorem handleClearSafe_unread (h : s.slot.state = .safe) (hc : s.slot.chainOpen = false)
    (hs : s.slot.seated = true) (hr : s.ident.record = none) : handleClearSafe c s = s.enterIdentifying.ok := by
  simp [handleClearSafe, State.clearSafe, h, hc, hs, hr]

theorem handleClearSafe_unseated (h : s.slot.state = .safe) (hc : s.slot.chainOpen = false)
    (hs : s.slot.seated = false) :
    handleClearSafe c s = ((s.setSlot { s.slot with
      state := .empty
      makeTimer := if s.slot.seatA = true ∧ s.slot.seatB = true then s.slot.makeTimer.or (some 100)
        else none }).setNotice (s.notice.countRaise 0)).ok := by
  rw [← State.watchMake_moveTo_empty]
  simp [handleClearSafe, State.clearSafe, h, hc, hs]

theorem handleClearSafe_draining (h : s.slot.state = .draining) : handleClearSafe c s = s.refuse .busy 0 := by
  simp [handleClearSafe, h]

theorem handleClearSafe_elsewhere (hs : s.slot.state ≠ .safe) (hd : s.slot.state ≠ .draining) :
    handleClearSafe c s = s.refuse .wrongState 0 := by
  unfold handleClearSafe
  cases h : s.slot.state <;> simp_all

end Rules

/-- Settles O42: each kind by its rule's answer in each group of slot states. -/
theorem runControlRequests : Obligations.RunControlRequests := by
  unfold Obligations.RunControlRequests
  intro s q st cold identifying no yes
  refine ⟨fun t => ⟨fun h => exec_taken rfl t (handleStop_inRun _ _ h),
      fun h => exec_taken rfl t (handleStop_draining _ _ h),
      fun ha hr hd => exec_taken rfl t (handleStop_elsewhere _ _ ha hr hd)⟩,
    fun t => ⟨fun h => exec_taken rfl t (handleGo_arming _ _ h),
      fun h => exec_taken rfl t (handleGo_running _ _ h),
      fun h => exec_taken rfl t (handleGo_draining _ _ h),
      fun ha hr hd => exec_taken rfl t (handleGo_elsewhere _ _ ha hr hd)⟩,
    fun t => ⟨fun h hp => exec_taken rfl t (handlePause_pauses _ _ h hp),
      fun h hp => exec_taken rfl t (handlePause_again _ _ h hp),
      fun h => exec_taken rfl t (handlePause_elsewhere _ _ h)⟩,
    fun t => ⟨fun h hp => exec_taken rfl t (handleResume_resumes _ _ h hp),
      fun h hp => exec_taken rfl t (handleResume_again _ _ h hp),
      fun h => exec_taken rfl t (handleResume_elsewhere _ _ h)⟩,
    fun t => ⟨fun h => exec_taken rfl t (handleReidentify_board _ _ h),
      fun hu hr => exec_taken rfl t (handleReidentify_elsewhere _ _ hu hr)⟩,
    fun t => ⟨fun h hc => exec_taken rfl t (handleClearSafe_open _ _ h hc), fun h hc =>
      ⟨fun hs hr => exec_taken rfl t (handleClearSafe_identified _ _ h hc hs hr),
        fun hs hr => exec_taken rfl t (handleClearSafe_unread _ _ h hc hs hr),
        fun hs => exec_taken rfl t (handleClearSafe_unseated _ _ h hc hs)⟩,
      fun h => exec_taken rfl t (handleClearSafe_draining _ _ h),
      fun hs hd => exec_taken rfl t (handleClearSafe_elsewhere _ _ hs hd)⟩⟩

end Sys2Proof.Machine
end

section
/-! START: its checks in order, and what the run it begins leaves in each block. -/

namespace Sys2Proof.Machine

/-! ### The populated set and the cross-checks (R10, R37) -/

/-- R37: a socket of the populated set is in the recipe's map and fitted on the board. -/
def Recipe.fits (c : Recipe) (d : Identity) (k : Fin 48) : Prop :=
  ∃ m, c.sockets = some m ∧ m.get k = true ∧ (d.wire k).isSome = true

/-- A rail the recipe has and uses. -/
def Recipe.uses (c : Recipe) (r : Fin 4) : Prop := ∃ x, c.rails.get r = some x ∧ x.used = true

theorem State.wire_of_record {s : State} {d : Identity} (h : s.ident.record = some d) (k : Fin 48) :
    s.wire k = d.wire k := by
  simp [State.wire, h]

theorem State.populated_iff {s : State} {d : Identity} (h : s.ident.record = some d) (k : Fin 48) :
    s.populated k = true ↔ s.recipe.fits d k := by
  unfold State.populated Recipe.fits
  rw [State.wire_of_record h]
  cases s.recipe.sockets <;> simp

/-- R38: the re-clamp does not change the populated set. -/
theorem Recipe.fits_clampTo (c : Recipe) (d : Identity) (k : Fin 48) : (c.clampTo d).fits d k ↔ c.fits d k := by
  unfold Recipe.fits
  cases h : c.sockets <;> simp [Recipe.clampTo, clampMap, h]

theorem Recipe.railUsed_iff (c : Recipe) (r : Fin 4) : c.railUsed r = true ↔ c.uses r := by
  unfold Recipe.railUsed Recipe.uses
  cases c.rails.get r <;> simp

theorem allDistinct_iff (l : List Nat) : allDistinct l = true ↔ l.Nodup := by
  induction l with
  | nil => simp [allDistinct]
  | cons x rest ih => simp [allDistinct, ih]

theorem bank_cells_eq_ofFn {α : Type} {n : Nat} (b : Bank α n) : b.cells = List.ofFn b.get := by
  obtain ⟨l, rfl⟩ := b
  exact (List.ofFn_getElem (xs := l)).symm

/-- A section's order, if it is of a used rail. -/
def orderInUse (o : Option RailSection) : Option Nat :=
  o.bind fun x => if x.used then some x.order else none

theorem Recipe.orders_eq (c : Recipe) : c.orders = (List.ofFn c.rails.get).filterMap orderInUse := by
  rw [← bank_cells_eq_ofFn, Recipe.orders]
  refine List.filterMap_congr fun o _ => ?_
  cases o <;> rfl

theorem orderInUse_eq_some (o : Option RailSection) (n : Nat) :
    orderInUse o = some n ↔ ∃ x, o = some x ∧ x.used = true ∧ x.order = n := by
  simp [orderInUse, Option.bind_eq_some_iff, Option.ite_none_right_eq_some]

/-- R37, check 2: a used rail, and no two with the same order. -/
theorem State.checkRails_iff (s : State) :
    s.checkRails = true ↔ (∃ r, s.recipe.uses r) ∧ ∀ r r' x x', s.recipe.rails.get r = some x →
      s.recipe.rails.get r' = some x' → x.used = true → x'.used = true → r ≠ r' → x.order ≠ x'.order := by
  have some_used : s.recipe.orders ≠ [] ↔ ∃ r, s.recipe.uses r := by
    rw [Recipe.orders_eq, Ne, List.filterMap_eq_nil_iff]
    simp only [List.mem_ofFn, forall_exists_index, forall_apply_eq_imp_iff, not_forall, ← Ne.eq_def,
      Option.ne_none_iff_exists', orderInUse_eq_some, Recipe.uses]
    exact exists_congr fun r => ⟨fun ⟨_, x, hx, hu, _⟩ => ⟨x, hx, hu⟩, fun ⟨x, hx, hu⟩ => ⟨_, x, hx, hu, rfl⟩⟩
  have distinct : s.recipe.orders.Nodup ↔ ∀ r r' x x', s.recipe.rails.get r = some x →
      s.recipe.rails.get r' = some x' → x.used = true → x'.used = true → r ≠ r' → x.order ≠ x'.order := by
    rw [Recipe.orders_eq, List.Nodup, List.pairwise_filterMap, List.pairwise_ofFn]
    simp only [orderInUse_eq_some]
    constructor
    · intro h r r' x x' hx hx' hu hu' hne
      rcases lt_or_gt_of_ne hne with hlt | hgt
      · exact h hlt _ ⟨x, hx, hu, rfl⟩ _ ⟨x', hx', hu', rfl⟩
      · exact (h hgt _ ⟨x', hx', hu', rfl⟩ _ ⟨x, hx, hu, rfl⟩).symm
    · rintro h r r' hlt _ ⟨x, hx, hu, rfl⟩ _ ⟨x', hx', hu', rfl⟩
      exact h r r' x x' hx hx' hu hu' hlt.ne
  rw [State.checkRails, Bool.and_eq_true, allDistinct_iff, distinct, ← some_used]
  simp

/-- R37, check 3: every populated socket's rail is used. -/
theorem State.checkSocketRails_iff {s : State} {d : Identity} (h : s.ident.record = some d) :
    s.checkSocketRails = true ↔ ∀ k w, s.recipe.fits d k → d.wire k = some w → s.recipe.uses w.rail := by
  simp only [State.checkSocketRails, List.all_eq_true, List.mem_finRange, forall_const, Bool.or_eq_true,
    Bool.not_eq_true', ← Bool.not_eq_true, State.populated_iff h, State.wire_of_record h]
  refine forall_congr' fun k => ?_
  cases hw : d.wire k with
  | none => simp [Recipe.fits, hw]
  | some w => simp [Recipe.railUsed_iff, ← imp_iff_not_or]

/-- R37, check 5: the populated set is not empty. -/
theorem State.checkPopulated_iff {s : State} {d : Identity} (h : s.ident.record = some d) :
    s.checkPopulated = true ↔ ∃ k, s.recipe.fits d k := by
  simp [State.checkPopulated, State.populated_iff h]

/-- R37, check 6: a dynamic run has TIMING and every CHANNEL. -/
theorem State.checkDynamic_iff {s : State} {g : General} (h : s.recipe.general = some g) :
    s.checkDynamic = true ↔ (g.dynamic = true →
      s.recipe.timing.isSome = true ∧ ∀ c, (s.recipe.channels.get c).isSome = true) := by
  have all := Bank.all_cells s.recipe.channels Option.isSome
  unfold State.checkDynamic
  rw [h]
  dsimp only
  rw [Bool.or_eq_true, Bool.and_eq_true, all]
  cases g.dynamic <;> simp

/-- The number that a failing cross-check answers, once GENERAL is present (R37). -/
theorem State.failingCheck_general {s : State} {g : General} (h : s.recipe.general = some g) :
    s.failingCheck =
      if s.checkRails = false then some 2
      else if s.checkSocketRails = false then some 3
      else if s.recipe.zones.cells.all Option.isSome = false then some 4
      else if s.checkPopulated = false then some 5
      else if s.checkDynamic = false then some 6
      else none := by
  simp [State.failingCheck, h]

/-- R10, check 4: the previous run was on this board with this populated set. -/
theorem State.accountsMatch_iff {s : State} {d : Identity} (h : s.ident.record = some d) :
    s.accountsMatch d = true ↔ s.credit.prevRun = true ∧ s.credit.serial = some d.serial
      ∧ ∀ k, s.recipe.fits d k ↔ (s.sock.sockets.get k).state ≠ .vacant := by
  have populated : (List.finRange 48).all (fun k => s.populated k == ((s.sock.sockets.get k).state != .vacant)) = true
      ↔ ∀ k, s.recipe.fits d k ↔ (s.sock.sockets.get k).state ≠ .vacant := by
    rw [List.all_eq_true]
    simp only [List.mem_finRange, forall_const]
    refine forall_congr' fun k => ?_
    rw [beq_iff_eq, Bool.eq_iff_iff, State.populated_iff h, bne_iff_ne]
  rw [State.accountsMatch, Bool.and_eq_true, Bool.and_eq_true, populated, beq_iff_eq, and_assoc]

/-! ### START's answers (R10) -/

theorem startChoiceOf_gt {n : Nat} (h : 1 < n) : startChoiceOf n = none := by
  obtain ⟨m, rfl⟩ := Nat.exists_eq_add_of_lt h
  rw [show 1 + m + 1 = m + 2 by omega]
  rfl

theorem startChoiceOf_le {n : Nat} (h : n ≤ 1) : startChoiceOf n = some (if n = 0 then .new else .continue) := by
  interval_cases n <;> rfl

theorem handleStart_badValue (c : Call) (s : State) (h : 1 < byteAt c.payload 0) :
    handleStart c s = s.refuse .badValue 0 := by
  rw [handleStart, startChoiceOf_gt h]

theorem handleStart_draining (c : Call) (s : State) (h : byteAt c.payload 0 ≤ 1) (hs : s.slot.state = .draining) :
    handleStart c s = s.refuse .busy 0 := by
  simp [handleStart, startChoiceOf_le h, hs]

theorem handleStart_elsewhere (c : Call) (s : State) (h : byteAt c.payload 0 ≤ 1) (hd : s.slot.state ≠ .draining)
    (hr : s.slot.state ≠ .ready) : handleStart c s = s.refuse .wrongState 0 := by
  unfold handleStart
  rw [startChoiceOf_le h]
  cases hs : s.slot.state <;> simp_all

theorem handleStart_ready (c : Call) (s : State) (h : byteAt c.payload 0 ≤ 1) (hs : s.slot.state = .ready) :
    handleStart c s = s.tryStart (if byteAt c.payload 0 = 0 then .new else .continue) := by
  simp [handleStart, startChoiceOf_le h, hs]

section Checks

variable {s : State} {choice : StartChoice} {d : Identity} {g : General}

theorem State.tryStart_open (h : s.slot.chainOpen = true) : s.tryStart choice = s.refuse .interlock 0 := by
  simp [State.tryStart, h]

theorem State.tryStart_unidentified (h : s.slot.chainOpen = false) (hr : s.ident.record = none) :
    s.tryStart choice = s.refuse .noIdentity 0 := by
  simp [State.tryStart, h, hr]

theorem State.tryStart_failing {no : Nat} (h : s.slot.chainOpen = false) (hr : s.ident.record = some d)
    (hf : s.failingCheck = some no) : s.tryStart choice = s.refuse .noRecipe no := by
  simp [State.tryStart, h, hr, hf]

theorem State.tryStart_mismatch (h : s.slot.chainOpen = false) (hr : s.ident.record = some d)
    (hf : s.failingCheck = none) (hg : s.recipe.general = some g) (hm : s.accountsMatch d = false) :
    s.tryStart .continue = s.refuse .mismatch 0 := by
  simp [State.tryStart, h, hr, hf, hg, hm]

theorem State.tryStart_passes (h : s.slot.chainOpen = false) (hr : s.ident.record = some d)
    (hf : s.failingCheck = none) (hg : s.recipe.general = some g)
    (hm : choice = .continue → s.accountsMatch d = true) : s.tryStart choice = (s.startRun choice g d).ok := by
  simp only [State.tryStart, h, hr, hf, hg, Bool.false_eq_true, if_false]
  rw [if_neg]
  rintro ⟨hc, hn⟩
  simp [hm hc] at hn

end Checks

/-! ### The rails at START (R43, R44) -/

/-- R43: a rail record loaded from its section, field by field. -/
theorem RailRec.load_eq (r : RailRec) (x : Option RailSection) :
    r.load x = { r with
      state := .off, regulatorOn := false, reference := 0, settleTimer := none, outRun := 0
      used := (x.map RailSection.used).getD false, order := x.map RailSection.order
      setpoint := (x.map RailSection.setpoint).getD 0, window := (x.map RailSection.window).getD 0
      settle := (x.map RailSection.settle).getD 0 } := by
  cases x <;> rfl

/-- The rail records loaded, no rail started yet (R43). -/
def RailCtl.loaded (c : RailCtl) (p : Recipe) : RailCtl :=
  { c with rails := Bank.ofFn fun r => (c.rails.get r).load (p.rails.get r) }

theorem RailCtl.loaded_get (c : RailCtl) (p : Recipe) (r : Fin 4) :
    (c.loaded p).rails.get r = (c.rails.get r).load (p.rails.get r) :=
  Bank.get_ofFn _ r

theorem RailCtl.begin_startSeq (c : RailCtl) (p : Recipe) : (c.begin p).startSeq = (c.loaded p).usedInOrder := rfl

/-- R44: the first rail of the start sequence is started. -/
theorem RailCtl.begin_get (c : RailCtl) (p : Recipe) (r : Fin 4) :
    (c.begin p).rails.get r =
      if (c.begin p).startSeq.head? = some r then ((c.rails.get r).load (p.rails.get r)).startUp
      else (c.rails.get r).load (p.rails.get r) := by
  rw [RailCtl.begin_startSeq, ← RailCtl.loaded_get]
  have started : (c.begin p).rails = match (c.loaded p).usedInOrder with
      | q :: _ => (c.loaded p).rails.modify q RailRec.startUp
      | [] => (c.loaded p).rails := rfl
  rw [started]
  cases (c.loaded p).usedInOrder with
  | nil => simp
  | cons q rest => simp [Bank.get_modify]

/-! ### The accounts at START (R148, R149) -/

/-- R148: the accounts set for NEW, block by block. -/
theorem State.renewAccounts_eq (s : State) (d : Identity) :
    s.renewAccounts d = (((s.setSock { s.sock with
        sockets := Bank.ofFn fun k => (s.sock.sockets.get k).renew (s.populated k) }).setCredit { s.credit with
          prevRun := true, serial := some d.serial, accumulated := 0
          accounts := s.credit.accounts.map fun a => { a with credited := 0, stamp := none } }).setFail { s.fail with
            marks := Bank.replicate 48 { first := none, last := none } }).setNotice s.notice := rfl

/-- R149: a supervision record carried on, the target already loaded. -/
def State.carriedSocket (s : State) (k : Fin 48) : SocketRec :=
  (s.sock.sockets.get k).carryOn (decide (s.credit.target ≤ (s.credit.accounts.get k).credited)) s.sock.retryLimit

/-- R149: an account carried on, the target already loaded. -/
def State.carriedAccount (s : State) (k : Fin 48) : AccountRec :=
  (s.credit.accounts.get k).carryOn (s.sock.sockets.get k).state s.credit.target s.credit.accumulated

/-- C2B raised once for each socket of a list that passes a test. -/
theorem State.foldl_notify (p : Fin 48 → Bool) (l : List (Fin 48)) (s : State) :
    l.foldl (fun u k => if p k then u.notify 2 .b else u) s =
      s.setNotice (Nat.repeat (fun n : Notices => n.countRaise 2) (l.filter p).length s.notice) := by
  induction l using List.reverseRecOn with
  | nil => rfl
  | append_singleton l k ih =>
    rw [List.foldl_append, List.foldl_cons, List.foldl_nil, ih, List.filter_append, List.length_append]
    cases hk : p k
    · simp [hk]
    · simp [hk]
      rfl

/-- R149: the accounts carried on, block by block. -/
theorem State.carryAccounts_eq (s : State) :
    s.carryAccounts = (((s.setSock { s.sock with sockets := Bank.ofFn s.carriedSocket }).setCredit { s.credit with
        prevRun := s.credit.prevRun, serial := s.credit.serial, accumulated := s.credit.accumulated
        accounts := Bank.ofFn s.carriedAccount }).setFail s.fail).setNotice
      (Nat.repeat (fun n : Notices => n.countRaise 2) ((List.finRange 48).filter s.newlyComplete).length s.notice) :=
  State.foldl_notify s.newlyComplete (List.finRange 48) _

/-- What the accounts' part of START can move: the sockets' records, the credit unit's account fields, the recorder
and the notice unit. -/
theorem State.setAccounts_moves (s : State) (choice : StartChoice) (d : Identity) :
    ∃ sockets prev serial now accounts recorder notices,
      s.setAccounts choice d = (((s.setSock { s.sock with sockets := sockets }).setCredit { s.credit with
        prevRun := prev, serial := serial, accumulated := now, accounts := accounts }).setFail recorder).setNotice
          notices := by
  match choice with
  | .new => exact ⟨_, _, _, _, _, _, _, s.renewAccounts_eq d⟩
  | .continue => exact ⟨_, _, _, _, _, _, _, s.carryAccounts_eq⟩

section SetAccounts

variable (s : State) (choice : StartChoice) (d : Identity)

@[simp] theorem State.setAccounts_slot : (s.setAccounts choice d).slot = s.slot := by
  obtain ⟨_, _, _, _, _, _, _, moved⟩ := s.setAccounts_moves choice d
  simp [moved]

@[simp] theorem State.setAccounts_ident : (s.setAccounts choice d).ident = s.ident := by
  obtain ⟨_, _, _, _, _, _, _, moved⟩ := s.setAccounts_moves choice d
  simp [moved]

@[simp] theorem State.setAccounts_recipe : (s.setAccounts choice d).recipe = s.recipe := by
  obtain ⟨_, _, _, _, _, _, _, moved⟩ := s.setAccounts_moves choice d
  simp [moved]

@[simp] theorem State.setAccounts_rail : (s.setAccounts choice d).rail = s.rail := by
  obtain ⟨_, _, _, _, _, _, _, moved⟩ := s.setAccounts_moves choice d
  simp [moved]

@[simp] theorem State.setAccounts_therm : (s.setAccounts choice d).therm = s.therm := by
  obtain ⟨_, _, _, _, _, _, _, moved⟩ := s.setAccounts_moves choice d
  simp [moved]

@[simp] theorem State.setAccounts_store : (s.setAccounts choice d).store = s.store := by
  obtain ⟨_, _, _, _, _, _, _, moved⟩ := s.setAccounts_moves choice d
  simp [moved]

@[simp] theorem State.setAccounts_exer : (s.setAccounts choice d).exer = s.exer := by
  obtain ⟨_, _, _, _, _, _, _, moved⟩ := s.setAccounts_moves choice d
  simp [moved]

@[simp] theorem State.setAccounts_link : (s.setAccounts choice d).link = s.link := by
  obtain ⟨_, _, _, _, _, _, _, moved⟩ := s.setAccounts_moves choice d
  simp [moved]

@[simp] theorem State.setAccounts_freeCount : (s.setAccounts choice d).freeCount = s.freeCount := by
  obtain ⟨_, _, _, _, _, _, _, moved⟩ := s.setAccounts_moves choice d
  simp [moved]

@[simp] theorem State.setAccounts_pending : (s.setAccounts choice d).pending = s.pending := by
  obtain ⟨_, _, _, _, _, _, _, moved⟩ := s.setAccounts_moves choice d
  simp [moved]

/-- The accounts' part of START leaves the run copies and the current run alone. -/
theorem State.setAccounts_copies :
    (s.setAccounts choice d).sock = { s.sock with sockets := (s.setAccounts choice d).sock.sockets }
      ∧ (s.setAccounts choice d).credit = { s.credit with
          prevRun := (s.setAccounts choice d).credit.prevRun, serial := (s.setAccounts choice d).credit.serial
          accumulated := (s.setAccounts choice d).credit.accumulated
          accounts := (s.setAccounts choice d).credit.accounts } := by
  obtain ⟨_, _, _, _, _, _, _, moved⟩ := s.setAccounts_moves choice d
  simp [moved]

end SetAccounts

/-! ### The run begun (R11) -/

/-- The state when the accounts are set: recipe clamped, run copies loaded, the sockets' run marks cleared. -/
def State.copied (s : State) (g : General) (d : Identity) : State :=
  ((s.setRecipe (s.recipe.clampTo d)).setSock
    { s.sock.loadCopy (s.recipe.clampTo d) g with sockets := s.sock.sockets.map SocketRec.clearRun }).setCredit
      (s.credit.loadCopy g)

theorem State.startRun_eq (s : State) (choice : StartChoice) (g : General) (d : Identity) :
    s.startRun choice g d =
      let p := s.recipe.clampTo d
      let a := (s.copied g d).setAccounts choice d
      let b := a.setTherm { a.therm with
        zones := Bank.ofFn fun z => (a.therm.zones.get z).begin (p.zones.get z)
        slotBudget := a.therm.slotBudget.begin g }
      let e := (b.setStore (b.store.begin g)).setExer (b.exer.begin p g choice)
      let r := e.setRail (e.rail.begin p)
      (r.setSlot { r.slot with
        endCause := .none, goGiven := false, paused := false, armTimer := some g.armTimeout }).moveTo .arming := rfl

section StartRun

variable (s : State) (choice : StartChoice) (g : General) (d : Identity)

@[simp] theorem State.startRun_slot : (s.startRun choice g d).slot = { s.slot with
    state := .arming, endCause := .none, goGiven := false, paused := false, armTimer := some g.armTimeout } := by
  simp [State.startRun_eq, State.copied]

@[simp] theorem State.startRun_ident : (s.startRun choice g d).ident = s.ident := by
  simp [State.startRun_eq, State.copied]

@[simp] theorem State.startRun_recipe : (s.startRun choice g d).recipe = s.recipe.clampTo d := by
  simp [State.startRun_eq, State.copied]

@[simp] theorem State.startRun_rail : (s.startRun choice g d).rail = s.rail.begin (s.recipe.clampTo d) := by
  simp [State.startRun_eq, State.copied]

@[simp] theorem State.startRun_sock :
    (s.startRun choice g d).sock = ((s.copied g d).setAccounts choice d).sock := by
  simp [State.startRun_eq]

@[simp] theorem State.startRun_therm : (s.startRun choice g d).therm = { s.therm with
    zones := Bank.ofFn fun z => (s.therm.zones.get z).begin ((s.recipe.clampTo d).zones.get z)
    slotBudget := s.therm.slotBudget.begin g } := by
  simp [State.startRun_eq, State.copied]

@[simp] theorem State.startRun_store : (s.startRun choice g d).store = s.store.begin g := by
  simp [State.startRun_eq, State.copied]

@[simp] theorem State.startRun_exer :
    (s.startRun choice g d).exer = s.exer.begin (s.recipe.clampTo d) g choice := by
  simp [State.startRun_eq, State.copied]

@[simp] theorem State.startRun_credit :
    (s.startRun choice g d).credit = ((s.copied g d).setAccounts choice d).credit := by
  simp [State.startRun_eq]

@[simp] theorem State.startRun_fail :
    (s.startRun choice g d).fail = ((s.copied g d).setAccounts choice d).fail := by
  simp [State.startRun_eq]

@[simp] theorem State.startRun_notice :
    (s.startRun choice g d).notice = ((s.copied g d).setAccounts choice d).notice.countRaise 0 := by
  simp [State.startRun_eq]

@[simp] theorem State.startRun_link : (s.startRun choice g d).link = s.link := by
  simp [State.startRun_eq, State.copied]

@[simp] theorem State.startRun_freeCount : (s.startRun choice g d).freeCount = s.freeCount := by
  simp [State.startRun_eq, State.copied]

@[simp] theorem State.startRun_pending : (s.startRun choice g d).pending = s.pending := by
  simp [State.startRun_eq, State.copied]

/-- Everything of START but the accounts, for both choices (R11). -/
theorem State.startRun_begun : s.Begun (s.startRun choice g d) g d := by
  obtain ⟨copies, credit⟩ := (s.copied g d).setAccounts_copies choice d
  have loaded : ∀ r, (s.rail.loaded (s.recipe.clampTo d)).rails.get r = _ := fun r =>
    (s.rail.loaded_get (s.recipe.clampTo d) r).trans (RailRec.load_eq _ _)
  unfold State.Begun
  simp only [State.startRun_slot, State.startRun_ident, State.startRun_recipe, State.startRun_rail,
    State.startRun_sock, State.startRun_therm, State.startRun_store, State.startRun_exer, State.startRun_credit,
    State.startRun_link, State.startRun_freeCount, State.startRun_pending, true_and, and_true]
  rw [copies, credit]
  refine ⟨fun r => ?_, fun r => ?_, ?_, rfl, fun r => ?_, rfl, rfl, fun z x hx => ?_, rfl, rfl, fun c => ?_, rfl, rfl,
    rfl, rfl, rfl⟩
  · rw [RailCtl.begin_get, RailRec.load_eq]
    rfl
  · rw [RailCtl.begin_startSeq, RailCtl.mem_usedInOrder, loaded]
  · have rising := (s.rail.loaded (s.recipe.clampTo d)).usedInOrder_rising
    simp only [loaded] at rising
    exact rising
  · refine ⟨(Bank.get_map _ _ r).trans ?_, (Bank.get_map _ _ r).trans ?_⟩
    all_goals cases (s.recipe.clampTo d).rails.get r <;> rfl
  · rw [Bank.get_ofFn, hx]
    rfl
  · refine (Bank.get_map _ _ c).trans ?_
    cases (s.recipe.clampTo d).channels.get c <;> rfl

/-- R126: a compare record when a run begins. -/
theorem State.startRun_compare (k : Fin 48) :
    (s.startRun choice g d).exer.compare.get k = (s.exer.compare.get k).begin choice := by
  rw [State.startRun_exer]
  exact Bank.get_map _ _ k

theorem State.copied_socket (k : Fin 48) : (s.copied g d).sock.sockets.get k = (s.sock.sockets.get k).clearRun :=
  Bank.get_map _ _ k

theorem State.copied_populated (k : Fin 48) (h : s.ident.record = some d) :
    (s.copied g d).populated k = true ↔ s.recipe.fits d k :=
  (State.populated_iff (s := s.copied g d) h k).trans (s.recipe.fits_clampTo d k)

end StartRun

/-! ### START NEW (R148) -/

section New

variable (s : State) (g : General) (d : Identity)

theorem State.setAccounts_new : s.setAccounts .new d = s.renewAccounts d := rfl

theorem State.startNew_socket (k : Fin 48) :
    (s.startRun .new g d).sock.sockets.get k =
      (s.sock.sockets.get k).clearRun.renew ((s.copied g d).populated k) := by
  simp [State.setAccounts_new, State.renewAccounts_eq, State.copied_socket]

theorem State.startNew_account (k : Fin 48) :
    (s.startRun .new g d).credit.accounts.get k = { s.credit.accounts.get k with credited := 0, stamp := none } := by
  simp [State.setAccounts_new, State.renewAccounts_eq, State.copied, CreditUnit.loadCopy]

/-- R148: the credit unit's own fields at START NEW. -/
theorem State.startNew_credit :
    (s.startRun .new g d).credit.prevRun = true ∧ (s.startRun .new g d).credit.serial = some d.serial
      ∧ (s.startRun .new g d).credit.accumulated = 0 := by
  simp [State.setAccounts_new, State.renewAccounts_eq]

/-- R148: START NEW clears the failure marks and keeps the log. -/
theorem State.startNew_fail :
    (s.startRun .new g d).fail = { s.fail with marks := Bank.replicate 48 { first := none, last := none } } := by
  simp [State.setAccounts_new, State.renewAccounts_eq, State.copied]

theorem State.startNew_notice : (s.startRun .new g d).notice = s.notice.countRaise 0 := by
  simp [State.setAccounts_new, State.renewAccounts_eq, State.copied]

end New

/-- Settles O45: the checks in order, then the run by `State.startRun_begun` and the accounts record by record. -/
theorem startNewOpensAccounts : Obligations.StartNewOpensAccounts := by
  unfold Obligations.StartNewOpensAccounts
  intro s q d g t n no used fits c2 c3 c4 c5 c6
  refine ⟨fun h => exec_taken rfl t (handleStart_badValue _ _ h),
    fun h hs => exec_taken rfl t (handleStart_draining _ _ h hs),
    fun h hd hr => exec_taken rfl t (handleStart_elsewhere _ _ h hd hr), fun h hs => ?_⟩
  have ready : ∀ {a}, s.heard.tryStart (if n = 0 then .new else .continue) = a →
      exec (.start q) s = .next (a.state.answering .start q a.result a.data) := fun ha =>
    exec_taken rfl t ((handleStart_ready (callOf q) s.heard h hs).trans ha)
  refine ⟨fun hc => ready (State.tryStart_open hc), fun hc hr => ready (State.tryStart_unidentified hc hr),
    fun hc hr => ⟨fun hg => ready (State.tryStart_failing (d := d) hc hr ?_), fun hg => ?_⟩⟩
  · have none : s.heard.recipe.general = none := hg
    simp [State.failingCheck, none]
  have check := State.failingCheck_general (s := s.heard) hg
  have rails : s.heard.checkRails = true ↔ c2 := s.heard.checkRails_iff
  have sockets : s.heard.checkSocketRails = true ↔ c3 := State.checkSocketRails_iff (s := s.heard) hr
  have zones : s.heard.recipe.zones.cells.all Option.isSome = true ↔ c4 := Bank.all_cells _ _
  have populated : s.heard.checkPopulated = true ↔ c5 := State.checkPopulated_iff (s := s.heard) hr
  have dynamic : s.heard.checkDynamic = true ↔ c6 := State.checkDynamic_iff (s := s.heard) hg
  have refused : ∀ {m}, s.heard.failingCheck = some m → no .noRecipe m := fun hf =>
    ready (State.tryStart_failing hc hr hf)
  refine ⟨fun h2 => refused ?_, fun h2 h3 => refused ?_, fun h2 h3 h4 => refused ?_, fun h2 h3 h4 h5 => refused ?_,
    fun h2 h3 h4 h5 h6 => refused ?_, fun h2 h3 h4 h5 h6 hn => ?_⟩
  · rw [check, if_pos (by simp [mt rails.mp h2])]
  · simp [check, rails.mpr h2, mt sockets.mp h3]
  · simp [check, rails.mpr h2, sockets.mpr h3, mt zones.mp h4]
  · simp [check, rails.mpr h2, sockets.mpr h3, zones.mpr h4, mt populated.mp h5]
  · simp [check, rails.mpr h2, sockets.mpr h3, zones.mpr h4, populated.mpr h5, mt dynamic.mp h6]
  have passed : s.heard.failingCheck = none := by
    simp [check, rails.mpr h2, sockets.mpr h3, zones.mpr h4, populated.mpr h5, dynamic.mpr h6]
  have taken : s.heard.tryStart (if n = 0 then .new else .continue) = (s.heard.startRun .new g d).ok := by
    rw [if_pos hn]
    exact State.tryStart_passes hc hr passed hg (by simp)
  obtain ⟨prev, serial, seconds⟩ := State.startNew_credit s.heard g d
  have recorder := State.startNew_fail s.heard g d
  refine ⟨s.heard.startRun .new g d, ready taken, State.startRun_begun _ _ _ _, fun k => ?_, prev, serial, seconds,
    by rw [recorder]; rfl, by rw [recorder]; rfl, by rw [recorder]; rfl, State.startNew_notice s.heard g d⟩
  have fitted : (s.heard.copied g d).populated k = true ↔ fits k := State.copied_populated s.heard g d k hr
  rw [State.startNew_socket, recorder]
  exact ⟨fun hk => by simp [SocketRec.renew, fitted.mpr hk], fun hk => by simp [SocketRec.renew, mt fitted.mp hk],
    rfl, State.startNew_account s.heard g d k, State.startRun_compare s.heard .new g d k, Bank.get_replicate _ k⟩

/-! ### START CONTINUE (R149) -/

@[simp] theorem AccountRec.carryOn_notedOff (a : AccountRec) (x : SocketState) (target : Nat) (now : Word32) :
    (a.carryOn x target now).notedOff = a.notedOff := by
  unfold AccountRec.carryOn
  cases x <;> dsimp only <;> split <;> rfl

section Continue

variable (s : State) (g : General) (d : Identity)

theorem State.setAccounts_continue : s.setAccounts .continue d = s.carryAccounts := rfl

theorem State.startContinue_socket (k : Fin 48) :
    (s.startRun .continue g d).sock.sockets.get k =
      (s.sock.sockets.get k).clearRun.carryOn (decide (g.target ≤ (s.credit.accounts.get k).credited))
        g.retryLimit := by
  simp only [State.startRun_sock, State.setAccounts_continue, State.carryAccounts_eq, State.setNotice_sock,
    State.setFail_sock, State.setCredit_sock, State.setSock_sock, Bank.get_ofFn, State.carriedSocket,
    State.copied_socket]
  rfl

theorem State.startContinue_account (k : Fin 48) :
    (s.startRun .continue g d).credit.accounts.get k =
      (s.credit.accounts.get k).carryOn (s.sock.sockets.get k).state g.target s.credit.accumulated := by
  simp only [State.startRun_credit, State.setAccounts_continue, State.carryAccounts_eq, State.setNotice_credit,
    State.setFail_credit, State.setCredit_credit, Bank.get_ofFn, State.carriedAccount, State.copied_socket]
  rfl

/-- R149: the credit unit's own fields and the recorder stay at START CONTINUE. -/
theorem State.startContinue_keeps :
    (s.startRun .continue g d).credit.prevRun = s.credit.prevRun
      ∧ (s.startRun .continue g d).credit.serial = s.credit.serial
      ∧ (s.startRun .continue g d).credit.accumulated = s.credit.accumulated
      ∧ (s.startRun .continue g d).fail = s.fail := by
  simp [State.setAccounts_continue, State.carryAccounts_eq, State.copied, CreditUnit.loadCopy]

theorem State.startContinue_notice :
    (s.startRun .continue g d).notice = (Nat.repeat (fun n : Notices => n.countRaise 2)
      ((List.finRange 48).filter fun k =>
        (s.sock.sockets.get k).state = .off ∧ g.target ≤ (s.credit.accounts.get k).credited).length
      s.notice).countRaise 0 := by
  have newly : ∀ k, (s.copied g d).newlyComplete k = decide ((s.sock.sockets.get k).state = .off
      ∧ g.target ≤ (s.credit.accounts.get k).credited) := by
    intro k
    rw [State.newlyComplete, State.copied_socket, Bool.decide_and]
    rfl
  rw [State.startRun_notice, State.setAccounts_continue, State.carryAccounts_eq, State.setNotice_notice,
    funext newly]
  rfl

end Continue

/-- Settles O46: the match by `State.accountsMatch_iff`, then each socket by its state and its credit. -/
theorem startContinueCarriesAccounts : Obligations.StartContinueCarriesAccounts := by
  unfold Obligations.StartContinueCarriesAccounts
  intro s q d g t hn hs hc hr hf hg fits same
  have ready : handleStart (callOf q) s.heard = s.heard.tryStart .continue := by
    rw [handleStart_ready (callOf q) s.heard hn.le hs]
    have one : byteAt (callOf q).payload 0 ≠ 0 := ne_of_eq_of_ne hn one_ne_zero
    rw [if_neg one]
  have matching : s.heard.accountsMatch d = true ↔ same := State.accountsMatch_iff (s := s.heard) hr
  refine ⟨fun h => exec_taken rfl t (ready.trans (State.tryStart_mismatch hc hr hf hg ?_)), fun h =>
    ⟨s.heard.startRun .continue g d,
      exec_taken rfl t (ready.trans (State.tryStart_passes hc hr hf hg fun _ => matching.mpr h)),
      State.startRun_begun _ _ _ _, ?_⟩⟩
  · rw [← Bool.not_eq_true, matching]
    exact h
  obtain ⟨prev, serial, now, recorder⟩ := s.heard.startContinue_keeps g d
  refine ⟨prev, serial, now, recorder, fun k => ?_, s.heard.startContinue_notice g d⟩
  intro r a r' a'
  have socket : r' = r.clearRun.carryOn (decide (g.target ≤ a.credited)) g.retryLimit :=
    s.heard.startContinue_socket g d k
  have account : a' = a.carryOn r.state g.target s.credit.accumulated := s.heard.startContinue_account g d k
  have state : r'.state = r.state.continued (decide (g.target ≤ a.credited)) := by rw [socket]; rfl
  refine ⟨by rw [socket]; rfl, ?_, s.heard.startRun_compare .continue g d k, fun h ht => ?_, fun h ht => ?_,
    fun h ht => ?_, fun h ht => ?_, fun h ht => ?_, fun h ht => ?_, fun h => ?_⟩
  · rw [account]
    exact AccountRec.carryOn_notedOff _ _ _ _
  · simp [state, account, h, ht, SocketState.continued, AccountRec.carryOn]
  · simp [state, account, h, Nat.not_le.mpr ht, SocketState.continued, AccountRec.carryOn]
  · simp [state, account, h, ht, SocketState.continued, AccountRec.carryOn]
  · simp [state, account, h, Nat.not_le.mpr ht, SocketState.continued, AccountRec.carryOn]
  · simp [state, account, h, ht, SocketState.continued, AccountRec.carryOn]
  · simp [state, account, h, Nat.not_le.mpr ht, SocketState.continued, AccountRec.carryOn]
  · simp [state, account, h, SocketState.continued, AccountRec.carryOn]

end Sys2Proof.Machine
end

section
/-! The numbers and codes of a payload, and the recipe's sections as they are read from one: each reader is a list of
tests in field order over one value. -/

namespace Sys2Proof.Machine

/-! ### Numbers and codes (R173) -/

theorem byteAt_lt (l : List Byte) (i : Nat) : byteAt l i < 256 := (l.getD i 0).isLt

theorem u16At_lt (l : List Byte) (i : Nat) : u16At l i < 65536 := by
  have high := byteAt_lt l i
  have low := byteAt_lt l (i + 1)
  unfold u16At
  omega

theorem within_iff (lo hi v : Nat) : within lo hi v = true ↔ lo ≤ v ∧ v ≤ hi := by
  simp [within]

theorem withinInt_iff (lo hi v : Int) : withinInt lo hi v = true ↔ lo ≤ v ∧ v ≤ hi := by
  simp [withinInt]

theorem yesNoOf_eq (v : Nat) : yesNoOf v = if v ≤ 1 then some (decide (v = 1)) else none :=
  match v with
  | 0 | 1 => rfl
  | _ + 2 => by simp [yesNoOf]

theorem policyOf_eq (v : Nat) : policyOf v = if v ≤ 1 then some (if v = 1 then .retire else .keep) else none :=
  match v with
  | 0 | 1 => rfl
  | _ + 2 => by simp [policyOf]

theorem underrunOf_eq (v : Nat) :
    underrunOf v = if v ≤ 1 then some (if v = 1 then .repeatLast else .park) else none :=
  match v with
  | 0 | 1 => rfl
  | _ + 2 => by simp [underrunOf]

theorem playModeOf_eq (v : Nat) : playModeOf v = if v ≤ 1 then some (if v = 1 then .loop else .stream) else none :=
  match v with
  | 0 | 1 => rfl
  | _ + 2 => by simp [playModeOf]

theorem levelOf_eq (v : Nat) :
    levelOf v = if v ≤ 2 then some (if v = 0 then .low else if v = 1 then .high else .released) else none :=
  match v with
  | 0 | 1 | 2 => rfl
  | _ + 3 => by simp [levelOf]

/-- R36: the modes a channel can be given, PAIR on an even one only. -/
theorem modeFor_eq (c : Fin 16) (v : Nat) :
    modeFor c v = if v ≤ 3 ∧ (v = 2 → c.val % 2 = 0) then
      some (if v = 0 then .vector else if v = 1 then .clock else if v = 2 then .pair else .fixed) else none :=
  match v with
  | 0 | 1 | 3 => rfl
  | 2 => by by_cases h : c.val % 2 = 0 <;> simp [modeFor, channelModeOf, h]
  | _ + 4 => by simp [modeFor, channelModeOf]

/-! ### Tests in field order -/

/-- The value, if every test holds; else the number of the first that fails, the first test having number `no`. -/
def judgedFrom {α : Type} (no : Nat) (v : α) : List Bool → Except Nat α
  | [] => .ok v
  | b :: rest => if b then judgedFrom (no + 1) v rest else .error no

section Judged

variable {α β : Type}

theorem judgedFrom_eq (no : Nat) (v : α) (tests : List Bool) :
    judgedFrom no v tests = match tests.findIdx? (fun b => !b) with
      | some i => .error (i + no)
      | none => .ok v := by
  induction tests generalizing no with
  | nil => rfl
  | cons b rest ih =>
    cases b with
    | false => simp [judgedFrom, List.findIdx?_cons]
    | true =>
      rw [judgedFrom, if_pos rfl, ih, List.findIdx?_cons]
      cases List.findIdx? (fun b => !b) rest with
      | none => rfl
      | some i => simp [Nat.add_assoc, Nat.add_comm no 1]

/-- A value judged good passed every test. -/
theorem judgedFrom_ok {no : Nat} {v x : α} {tests : List Bool} (h : judgedFrom no v tests = .ok x) :
    x = v ∧ ∀ b ∈ tests, b = true := by
  induction tests generalizing no with
  | nil =>
    cases h
    simp
  | cons b rest ih =>
    cases b with
    | false => cases h
    | true =>
      obtain ⟨rfl, passed⟩ := ih h
      simpa using passed

/-- What is made of a judged value matters only where every test holds. -/
theorem judgedFrom_bind_pure (f : α → β) {no : Nat} {v : α} {w : β} {tests : List Bool}
    (h : (∀ b ∈ tests, b = true) → f v = w) :
    (judgedFrom no v tests >>= fun x => pure (f x)) = judgedFrom no w tests := by
  induction tests generalizing no with
  | nil => exact congrArg Except.ok (h (by simp))
  | cons b rest ih =>
    cases b with
    | false => rfl
    | true => exact ih fun passed => h (by simpa using passed)

theorem require_bind (no : Nat) (b : Bool) (next : Unit → Except Nat α) :
    (require no b >>= next) = if b = true then next () else .error no := by
  cases b <;> rfl

theorem field_bind (no : Nat) (p : Prop) [Decidable p] (v : α) (next : α → Except Nat β) :
    (field no (if p then some v else none) >>= next) = if p then next v else .error no := by
  by_cases h : p <;> simp only [h, if_true, if_false] <;> rfl

end Judged

/-! ### The sections read (R32 to R36) -/

/-- R32: GENERAL as sent. -/
def generalSent (l : List Byte) : General :=
  { target := u32At l 0, runLimit := u32At l 4, armTimeout := u16At l 8, autoGo := decide (byteAt l 10 = 1)
    budget := u16At l 11, retryLimit := byteAt l 13, cooldown := u16At l 14
    policy := if byteAt l 16 = 1 then .retire else .keep, threshold := byteAt l 17
    dynamic := decide (byteAt l 18 = 1), underrun := if byteAt l 19 = 1 then .repeatLast else .park
    mode := if byteAt l 20 = 1 then .loop else .stream, lowWater := byteAt l 21 }

/-- R32: the ranges of GENERAL's fields. -/
def generalTests (l : List Byte) : List Bool :=
  [decide (1 ≤ u32At l 0 ∧ u32At l 0 ≤ 4000000), decide (u32At l 0 ≤ u32At l 4 ∧ u32At l 4 ≤ 8000000),
    decide (10 ≤ u16At l 8 ∧ u16At l 8 ≤ 3600), decide (byteAt l 10 ≤ 1),
    decide (100 ≤ u16At l 11 ∧ u16At l 11 ≤ 20000), decide (byteAt l 13 ≤ 7),
    decide (1 ≤ u16At l 14 ∧ u16At l 14 ≤ 600), decide (byteAt l 16 ≤ 1), decide (1 ≤ byteAt l 17),
    decide (byteAt l 18 ≤ 1), decide (byteAt l 19 ≤ 1), decide (byteAt l 20 ≤ 1), decide (byteAt l 21 ≤ 31)]

theorem readGeneral_eq (l : List Byte) : readGeneral l = judgedFrom 1 (generalSent l) (generalTests l) := by
  have top : byteAt l 17 ≤ 255 := Nat.le_of_lt_succ (byteAt_lt l 17)
  simp only [readGeneral, require_bind, within_iff, yesNoOf_eq, policyOf_eq, underrunOf_eq, playModeOf_eq, field_bind,
    generalTests, judgedFrom, decide_eq_true_eq, Nat.zero_le, true_and, top, and_true]
  rfl

/-- R33: a RAIL section as sent. -/
def railSent (l : List Byte) : RailSection :=
  { used := decide (byteAt l 0 = 1), order := byteAt l 1, setpoint := u16At l 2, window := u16At l 4
    settle := u16At l 6, soft := u16At l 8, hard := u16At l 10 }

/-- R33: the ranges of its fields. -/
def railTests (l : List Byte) : List Bool :=
  [decide (byteAt l 0 ≤ 1), decide (1 ≤ byteAt l 1 ∧ byteAt l 1 ≤ 4), decide (u16At l 2 ≤ 16000),
    decide (10 ≤ u16At l 4 ∧ u16At l 4 ≤ 1000), decide (1 ≤ u16At l 6 ∧ u16At l 6 ≤ 1000),
    decide (1 ≤ u16At l 8 ∧ u16At l 8 ≤ 4000), decide (1 ≤ u16At l 10 ∧ u16At l 10 ≤ 4000)]

theorem readRail_eq (l : List Byte) : readRail l = judgedFrom 1 (railSent l) (railTests l) := by
  simp only [readRail, require_bind, within_iff, yesNoOf_eq, field_bind, railTests, judgedFrom, decide_eq_true_eq,
    Nat.zero_le, true_and]
  rfl

/-- R34: a ZONE section as sent. -/
def zoneSent (l : List Byte) : ZoneSection :=
  { setpoint := s16At l 0, window := u16At l 2, margin := u16At l 4, kp := byteAt l 6, ki := byteAt l 7 }

/-- R34: the ranges of its fields. -/
def zoneTests (l : List Byte) : List Bool :=
  [decide (-640 ≤ s16At l 0 ∧ s16At l 0 ≤ 4000), decide (8 ≤ u16At l 2 ∧ u16At l 2 ≤ 800),
    decide (16 ≤ u16At l 4 ∧ u16At l 4 ≤ 800 ∧ u16At l 2 < u16At l 4)]

theorem readZone_eq (l : List Byte) : readZone l = judgedFrom 1 (zoneSent l) (zoneTests l) := by
  simp only [readZone, require_bind, within_iff, withinInt_iff, Bool.and_eq_true, zoneTests, judgedFrom,
    decide_eq_true_eq, and_assoc]
  rfl

/-- R35: the populated map. -/
theorem readSockets_eq (l : List Byte) : readSockets l = judgedFrom 1
    (Bank.ofFn fun k => decide (byteAt l k.val = 1)) [decide (∀ k : Fin 48, byteAt l k.val ≤ 1)] := by
  have fits : (List.finRange 48).all (fun k => (yesNoOf (byteAt l k.val)).isSome) = true
      ↔ ∀ k : Fin 48, byteAt l k.val ≤ 1 := by
    simp only [List.all_eq_true, List.mem_finRange, forall_const, yesNoOf_eq]
    exact forall_congr' fun k => by split <;> simp [*]
  simp only [readSockets, require_bind, fits, judgedFrom, decide_eq_true_eq]
  rfl

/-- R35 -/
theorem readTiming_eq (l : List Byte) : readTiming l = judgedFrom 1 { period := u16At l 0, offset := u16At l 2 }
    [decide (50 ≤ u16At l 0), decide (1 ≤ u16At l 2 ∧ u16At l 2 < u16At l 0)] := by
  have top : u16At l 0 ≤ 65535 := Nat.le_of_lt_succ (u16At_lt l 0)
  simp only [readTiming, require_bind, within_iff, Bool.and_eq_true, judgedFrom, decide_eq_true_eq, top, and_true]
  rfl

/-- R40: the fields of SET_PLAY have GENERAL's numbers (log 15). -/
theorem readPlay_eq (l : List Byte) : readPlay l = judgedFrom 11
    { mode := if byteAt l 0 = 1 then .loop else .stream
      underrun := if byteAt l 1 = 1 then .repeatLast else .park, lowWater := byteAt l 2 }
    [decide (byteAt l 1 ≤ 1), decide (byteAt l 0 ≤ 1), decide (byteAt l 2 ≤ 31)] := by
  simp only [readPlay, require_bind, within_iff, underrunOf_eq, playModeOf_eq, field_bind, judgedFrom,
    decide_eq_true_eq, Nat.zero_le, true_and]
  rfl

/-- R36: a channel entry as sent, the fields its mode does not use at 0 or LOW. -/
def channelSent (l : List Byte) : ChannelSection :=
  { mode := if byteAt l 0 = 0 then .vector else if byteAt l 0 = 1 then .clock
      else if byteAt l 0 = 2 then .pair else .fixed
    park := if byteAt l 1 = 0 then .low else if byteAt l 1 = 1 then .high else .released
    fixedHigh := decide (byteAt l 0 = 3 ∧ byteAt l 2 = 1)
    period := if byteAt l 0 = 1 ∨ byteAt l 0 = 2 then u16At l 3 else 0
    high := if byteAt l 0 = 1 ∨ byteAt l 0 = 2 then u16At l 5 else 0
    dead := if byteAt l 0 = 2 then byteAt l 7 else 0 }

/-- R36: the tests of a channel entry; a field that the mode does not use passes. -/
def channelTests (c : Fin 16) (l : List Byte) : List Bool :=
  [decide (byteAt l 0 ≤ 3 ∧ (byteAt l 0 = 2 → c.val % 2 = 0)), decide (byteAt l 1 ≤ 2),
    decide (byteAt l 0 = 3 → byteAt l 2 ≤ 1), decide (byteAt l 0 = 1 ∨ byteAt l 0 = 2 → 2 ≤ u16At l 3),
    decide (byteAt l 0 = 1 ∨ byteAt l 0 = 2 → 1 ≤ u16At l 5 ∧ u16At l 5 < u16At l 3),
    decide (byteAt l 0 = 2 → 1 ≤ byteAt l 7)]

/-- R36 -/
theorem readChannel_eq (c : Fin 16) (l : List Byte) :
    readChannel c l = judgedFrom 1 (channelSent l) (channelTests c l) := by
  have period : u16At l 3 ≤ 65535 := Nat.le_of_lt_succ (u16At_lt l 3)
  have dead : byteAt l 7 ≤ 255 := Nat.le_of_lt_succ (byteAt_lt l 7)
  simp only [readChannel, fixedLevelOf, modeFor_eq, levelOf_eq, field_bind, channelTests, channelSent, judgedFrom,
    decide_eq_true_eq]
  by_cases known : byteAt l 0 ≤ 3 ∧ (byteAt l 0 = 2 → c.val % 2 = 0)
  · simp only [known]
    obtain m | m | m | m : byteAt l 0 = 0 ∨ byteAt l 0 = 1 ∨ byteAt l 0 = 2 ∨ byteAt l 0 = 3 := by omega
    all_goals
      simp [-bind_pure_comp, m, require_bind, field_bind, within_iff, yesNoOf_eq, period, dead]
    all_goals rfl
  · simp only [known, if_false]

end Sys2Proof.Machine
end

section
/-! LOAD_RECIPE: the board clamps, each section loaded, and a section read back as it was loaded. -/

namespace Sys2Proof.Machine

/-! ### What the clamps change (R33 to R36) -/

theorem RailSection.clampTo_ne_iff (x : RailSection) (d : Identity) (r : Fin 4) :
    x.clampTo d r ≠ x ↔
      d.railMaxMv r < x.setpoint ∨ d.railMaxMa r < x.hard ∨ min x.hard (d.railMaxMa r) < x.soft := by
  obtain ⟨used, order, setpoint, window, settle, soft, hard⟩ := x
  simp only [RailSection.clampTo, ne_eq, RailSection.mk.injEq, true_and]
  omega

theorem ZoneSection.clampTo_ne_iff (x : ZoneSection) (d : Identity) (z : Fin 6) :
    x.clampTo d z ≠ x ↔ d.absLimit z - 16 < x.setpoint := by
  obtain ⟨setpoint, window, margin, kp, ki⟩ := x
  simp only [ZoneSection.clampTo, ne_eq, ZoneSection.mk.injEq, and_true]
  omega

theorem clampMap_ne_iff (m : Bank Bool 48) (d : Identity) :
    clampMap m d ≠ m ↔ ∃ k, m.get k = true ∧ d.wire k = none := by
  have same : clampMap m d = m ↔ ∀ k, m.get k = true → (d.wire k).isSome = true := by
    constructor
    · intro h k
      rw [← h]
      simp [clampMap]
    · intro h
      refine Bank.ext_get fun k => ?_
      cases hk : m.get k <;> simp [clampMap, hk, h]
  rw [Ne, same]
  simp

/-- R36: m, the smaller of a clock's high and low time. -/
def ChannelSection.least (x : ChannelSection) : Nat := min x.high (x.period - x.high)

theorem ChannelSection.clampDead_eq (x : ChannelSection) :
    x.clampDead =
      { x with dead := if x.mode = .pair ∧ x.least ≤ 2 * x.dead then (x.least - 1) / 2 else x.dead } := by
  have branches : x.clampDead =
      if x.mode = .pair then if x.least ≤ 2 * x.dead then { x with dead := (x.least - 1) / 2 } else x else x := rfl
  rw [branches]
  by_cases hp : x.mode = .pair
  · rw [if_pos hp]
    by_cases hd : x.least ≤ 2 * x.dead
    · rw [if_pos hd, if_pos ⟨hp, hd⟩]
    · rw [if_neg hd, if_neg (mt And.right hd)]
  · rw [if_neg hp, if_neg (mt And.left hp)]

/-- A dead time of 1 or more that is cut becomes another. -/
theorem ChannelSection.clampDead_ne_iff (x : ChannelSection) (h : x.mode = .pair → 1 ≤ x.dead) :
    x.clampDead ≠ x ↔ x.mode = .pair ∧ x.least ≤ 2 * x.dead := by
  rw [ChannelSection.clampDead_eq]
  by_cases hc : x.mode = .pair ∧ x.least ≤ 2 * x.dead
  · have := h hc.1
    simp only [hc, and_self, if_true, iff_true]
    intro same
    have cut : (x.least - 1) / 2 = x.dead := congrArg ChannelSection.dead same
    omega
  · simp [hc]

theorem channelSent_pair (l : List Byte) : (channelSent l).mode = .pair ↔ byteAt l 0 = 2 := by
  simp only [channelSent]
  split_ifs <;> simp_all

/-- R36: a channel entry that passes its tests has a dead time in PAIR. -/
theorem channelSent_dead {c : Fin 16} {l : List Byte} (h : ∀ b ∈ channelTests c l, b = true) :
    (channelSent l).mode = .pair → 1 ≤ (channelSent l).dead := by
  rw [channelSent_pair]
  intro pair
  have test : byteAt l 0 = 2 → 1 ≤ byteAt l 7 := of_decide_eq_true (h _ (by simp [channelTests]))
  simpa [channelSent, pair] using test pair

/-- R36: whether a PAIR's dead time is cut, on the entry sent. -/
theorem channelSent_cut (l : List Byte) :
    ((channelSent l).mode = .pair ∧ (channelSent l).least ≤ 2 * (channelSent l).dead) ↔
      byteAt l 0 = 2 ∧ min (u16At l 5) (u16At l 3 - u16At l 5) ≤ 2 * byteAt l 7 := by
  rw [channelSent_pair]
  refine and_congr_right fun pair => ?_
  simp [ChannelSection.least, channelSent, pair]

/-! ### A section loaded (R31) -/

section Load

variable (p : Recipe) (d : Identity) (l : List Byte)

theorem Recipe.load_general (o : Option Identity) : p.load o .general l =
    judgedFrom 1 ({ p with general := some (generalSent l) }, false) (generalTests l) := by
  rw [Recipe.load, readGeneral_eq]
  exact judgedFrom_bind_pure (fun g => ({ p with general := some g }, false)) fun _ => rfl

theorem Recipe.load_rail (r : Fin 4) : p.load (some d) (.rail r) l =
    judgedFrom 1 (p.setRailSection r ((railSent l).clampTo d r),
      decide (d.railMaxMv r < u16At l 2 ∨ d.railMaxMa r < u16At l 10
        ∨ min (u16At l 10) (d.railMaxMa r) < u16At l 8)) (railTests l) := by
  rw [Recipe.load, readRail_eq]
  refine judgedFrom_bind_pure
    (fun x : RailSection => (p.setRailSection r (x.clampTo d r), decide (x.clampTo d r ≠ x))) fun _ => ?_
  exact congrArg (Prod.mk _) (decide_eq_decide.mpr (RailSection.clampTo_ne_iff _ d r))

theorem Recipe.load_zone (z : Fin 6) : p.load (some d) (.zone z) l =
    judgedFrom 1 (p.setZoneSection z ((zoneSent l).clampTo d z), decide (d.absLimit z - 16 < s16At l 0))
      (zoneTests l) := by
  rw [Recipe.load, readZone_eq]
  refine judgedFrom_bind_pure
    (fun x : ZoneSection => (p.setZoneSection z (x.clampTo d z), decide (x.clampTo d z ≠ x))) fun _ => ?_
  exact congrArg (Prod.mk _) (decide_eq_decide.mpr (ZoneSection.clampTo_ne_iff _ d z))

theorem Recipe.load_sockets : p.load (some d) .sockets l =
    judgedFrom 1
      ({ p with sockets := some (Bank.ofFn fun k => decide (byteAt l k.val = 1) && (d.wire k).isSome) },
        decide (∃ k : Fin 48, byteAt l k.val = 1 ∧ d.wire k = none))
      [decide (∀ k : Fin 48, byteAt l k.val ≤ 1)] := by
  rw [Recipe.load, readSockets_eq]
  refine judgedFrom_bind_pure
    (fun x => ({ p with sockets := some (clampMap x d) }, decide (clampMap x d ≠ x))) fun _ => ?_
  have changed : clampMap (Bank.ofFn fun k : Fin 48 => decide (byteAt l k.val = 1)) d
      ≠ Bank.ofFn (fun k : Fin 48 => decide (byteAt l k.val = 1))
      ↔ ∃ k : Fin 48, byteAt l k.val = 1 ∧ d.wire k = none := by
    simp [clampMap_ne_iff]
  refine congr (congrArg Prod.mk ?_) (decide_eq_decide.mpr changed)
  simp only [clampMap, Bank.get_ofFn]

theorem Recipe.load_timing (o : Option Identity) : p.load o .timing l =
    judgedFrom 1 ({ p with timing := some { period := u16At l 0, offset := u16At l 2 } }, false)
      [decide (50 ≤ u16At l 0), decide (1 ≤ u16At l 2 ∧ u16At l 2 < u16At l 0)] := by
  rw [Recipe.load, readTiming_eq]
  exact judgedFrom_bind_pure (fun t => ({ p with timing := some t }, false)) fun _ => rfl

/-- R36: the entry stored, its dead time cut in a PAIR whose m it reaches. -/
def channelKept (l : List Byte) : ChannelSection :=
  { channelSent l with
    dead := if byteAt l 0 = 2 ∧ min (u16At l 5) (u16At l 3 - u16At l 5) ≤ 2 * byteAt l 7 then
        (min (u16At l 5) (u16At l 3 - u16At l 5) - 1) / 2
      else if byteAt l 0 = 2 then byteAt l 7 else 0 }

theorem channelSent_clampDead : (channelSent l).clampDead = channelKept l := by
  rw [ChannelSection.clampDead_eq, channelKept]
  simp only [channelSent_cut]
  by_cases pair : byteAt l 0 = 2
  · simp [ChannelSection.least, channelSent, pair]
  · simp [channelSent, pair]

theorem Recipe.load_channel (o : Option Identity) (c : Fin 16) : p.load o (.channel c) l =
    judgedFrom 1 (p.setChannelSection c (channelKept l),
      decide (byteAt l 0 = 2 ∧ min (u16At l 5) (u16At l 3 - u16At l 5) ≤ 2 * byteAt l 7)) (channelTests c l) := by
  rw [Recipe.load, readChannel_eq]
  refine judgedFrom_bind_pure
    (fun x : ChannelSection => (p.setChannelSection c x.clampDead, decide (x.clampDead ≠ x))) fun passed => ?_
  rw [channelSent_clampDead]
  refine congrArg (Prod.mk _) (decide_eq_decide.mpr ?_)
  rw [← channelSent_clampDead, ChannelSection.clampDead_ne_iff _ (channelSent_dead passed), channelSent_cut]

end Load

/-! ### LOAD_RECIPE's answers (R31) -/

section Answers

variable (c : Call) (s : State)

theorem handleLoadRecipe_elsewhere (h : s.slot.state ≠ .ready) : handleLoadRecipe c s = s.refuse .wrongState 0 := by
  rw [handleLoadRecipe, if_neg h]

/-- The sections there are: selector 0 to 5, the number below how many there are of the kind (R31). -/
theorem sectionOf_none {sel num : Nat}
    (h : 5 < sel ∨ (sel = 1 ∧ 3 < num) ∨ (sel = 2 ∧ 5 < num) ∨ (sel = 5 ∧ 15 < num)
      ∨ ((sel = 0 ∨ sel = 3 ∨ sel = 4) ∧ num ≠ 0)) : sectionOf sel num = none := by
  rcases h with h | ⟨rfl, h⟩ | ⟨rfl, h⟩ | ⟨rfl, h⟩ | ⟨rfl | rfl | rfl, h⟩
  · obtain ⟨n, rfl⟩ := Nat.exists_eq_add_of_lt h
    rw [show 5 + n + 1 = n + 6 by omega]
    rfl
  · simp [sectionOf, indexOf_ge (show 4 ≤ num by omega)]
  · simp [sectionOf, indexOf_ge (show 6 ≤ num by omega)]
  · simp [sectionOf, indexOf_ge (show 16 ≤ num by omega)]
  all_goals simp [sectionOf, h]

theorem handleLoadRecipe_nowhere (h : s.slot.state = .ready)
    (ref : sectionOf (byteAt c.payload 0) (byteAt c.payload 1) = none) :
    handleLoadRecipe c s = s.refuse .badValue 0 := by
  rw [handleLoadRecipe, if_pos h, ref]

variable {ref : SectionRef} {tests : List Bool} {p : Recipe} {changed : Bool}

/-- The first failing test is answered and nothing stored; else the recipe loaded is stored. -/
theorem handleLoadRecipe_judged (h : s.slot.state = .ready)
    (href : sectionOf (byteAt c.payload 0) (byteAt c.payload 1) = some ref)
    (load : s.recipe.load s.ident.record ref (c.payload.drop 2) = judgedFrom 1 (p, changed) tests) :
    handleLoadRecipe c s = match tests.findIdx? (fun b => !b) with
      | some i => s.refuse .badValue (i + 1)
      | none => (s.setRecipe p).stored changed := by
  simp only [handleLoadRecipe, h, if_true, href, load, judgedFrom_eq]
  cases List.findIdx? (fun b => !b) tests <;> rfl

end Answers

/-- Settles O43: each section by its tests and by what its clamp makes of the values sent. -/
theorem loadRecipeChecksClampsStores : Obligations.LoadRecipeChecksClampsStores := by
  unfold Obligations.LoadRecipeChecksClampsStores
  intro s q d r z c t l sel num keep judge yesNo
  refine ⟨fun h => exec_taken rfl t (handleLoadRecipe_elsewhere _ _ h), fun h hd => ?_⟩
  have judged : ∀ {ref tests p changed}, sectionOf sel num = some ref →
      s.recipe.load (some d) ref l = judgedFrom 1 (p, changed) tests →
      exec (.loadRecipe q) s = .next (judge tests p changed) := by
    intro ref tests p changed href load
    rw [← hd] at load
    rw [exec_taken rfl t (handleLoadRecipe_judged (callOf q) s.heard h href load)]
    dsimp only [judge]
    cases List.findIdx? (fun b => !b) tests with
    | some i => rfl
    | none => rfl
  refine ⟨fun bad => exec_taken rfl t (handleLoadRecipe_nowhere _ _ h (sectionOf_none bad)),
    fun hs hn => judged ?_ (s.recipe.load_general l _), fun hs hn => judged ?_ (s.recipe.load_rail d l r),
    fun hs hn => judged ?_ (s.recipe.load_zone d l z), fun hs hn => judged ?_ (s.recipe.load_sockets d l),
    fun hs hn => judged ?_ (s.recipe.load_timing l _), fun hs hn => judged ?_ (s.recipe.load_channel l _ c)⟩
  all_goals
    rw [hs, hn]
    simp [sectionOf]

end Sys2Proof.Machine
end

section
/-! Sections read back: the characters of a section that was stored as sent are those of its payload. -/

namespace Sys2Proof.Machine

/-! ### Numbers written back (R173) -/

/-- The `n` characters of a payload from one on. -/
def slice (l : List Byte) (i n : Nat) : List Byte := (l.drop i).take n

/-- Characters that follow one another. -/
theorem slice_append {l : List Byte} {i m j n : Nat} (h : i + m = j) :
    slice l i m ++ slice l j n = slice l i (m + n) := by
  subst h
  rw [slice, slice, slice, List.take_add, List.drop_drop]

theorem slice_whole {l : List Byte} {n : Nat} (h : l.length = n) : slice l 0 n = l := by
  rw [slice, List.drop_zero, List.take_of_length_le h.le]

theorem chars2_pair (a b : Byte) : chars2 (a.toNat * 256 + b.toNat) = [a, b] := by
  have := a.isLt
  have := b.isLt
  simp only [chars2, List.cons.injEq, and_true]
  exact ⟨BitVec.eq_of_toNat_eq (by rw [BitVec.toNat_ofNat]; omega),
    BitVec.eq_of_toNat_eq (by rw [BitVec.toNat_ofNat]; omega)⟩

theorem chars1_toNat (b : Byte) : chars1 b.toNat = [b] := by
  rw [chars1, BitVec.ofNat_toNat, BitVec.setWidth_eq]

/-- A character that is 0 or 1, coded as one of two things. -/
theorem chars1_choice {v : Nat} (h : v ≤ 1) {α : Type} {code : α → Nat} {one zero : α} (h1 : code one = 1)
    (h0 : code zero = 0) : chars1 (code (if v = 1 then one else zero)) = chars1 v := by
  interval_cases v
  · exact congrArg chars1 h0
  · exact congrArg chars1 h1

theorem charsFlag_le {v : Nat} (h : v ≤ 1) : charsFlag (decide (v = 1)) = chars1 v := by
  interval_cases v <;> rfl

theorem chars1_level {v : Nat} (h : v ≤ 2) :
    chars1 (Level.code (if v = 0 then .low else if v = 1 then .high else .released)) = chars1 v := by
  interval_cases v <;> rfl

section Slices

variable {l : List Byte} {i : Nat}

theorem chars1_byteAt (h : i < l.length) : chars1 (byteAt l i) = slice l i 1 := by
  rw [byteAt, chars1_toNat, List.getD_eq_getElem _ _ h, slice, List.drop_eq_getElem_cons h]
  rfl

theorem chars2_u16At (h : i + 1 < l.length) : chars2 (u16At l i) = slice l i 2 := by
  have one : slice l i 2 = slice l i 1 ++ slice l (i + 1) 1 :=
    (slice_append (m := 1) (n := 1) rfl).symm
  rw [one, ← chars1_byteAt h, ← chars1_byteAt (Nat.lt_of_succ_lt h), u16At, byteAt, byteAt, chars2_pair]
  simp [chars1]

theorem chars4_u32At (h : i + 3 < l.length) : chars4 (u32At l i) = slice l i 4 := by
  have low := u16At_lt l (i + 2)
  have high : u32At l i / 65536 = u16At l i := by unfold u32At; omega
  have same : chars2 (u32At l i) = chars2 (u16At l (i + 2)) := by
    unfold u32At chars2
    simp only [List.cons.injEq, and_true]
    constructor <;> apply BitVec.eq_of_toNat_eq <;> simp only [BitVec.toNat_ofNat] <;> omega
  rw [chars4, high, same, chars2_u16At (by omega), chars2_u16At (by omega), slice_append rfl]

theorem charsInt_s16At (h : i + 1 < l.length) : charsInt (s16At l i) = slice l i 2 := by
  have top := u16At_lt l i
  have same : (s16At l i % 65536).toNat = u16At l i := by unfold s16At; split <;> omega
  rw [charsInt, same, chars2_u16At h]

end Slices

/-! ### The sections' characters (R41) -/

section Sections

variable {l : List Byte}

theorem generalSent_chars (h : l.length = 22) (passed : ∀ b ∈ generalTests l, b = true) :
    (generalSent l).chars = l := by
  simp only [generalTests, List.mem_cons, List.not_mem_nil, or_false, forall_eq_or_imp, forall_eq,
    decide_eq_true_eq] at passed
  obtain ⟨_, _, _, autoGo, _, _, _, policy, _, dynamic, underrun, mode, _⟩ := passed
  have policyCode := chars1_choice policy (code := FunctionalPolicy.code) (one := .retire) (zero := .keep) rfl rfl
  have underrunCode :=
    chars1_choice underrun (code := UnderrunPolicy.code) (one := .repeatLast) (zero := .park) rfl rfl
  have modeCode := chars1_choice mode (code := PlayMode.code) (one := .loop) (zero := .stream) rfl rfl
  simp (disch := omega) only [General.chars, generalSent, policyCode, underrunCode, modeCode, charsFlag_le autoGo,
    charsFlag_le dynamic, chars4_u32At, chars2_u16At, chars1_byteAt, slice_append, slice_whole h]

theorem railSent_chars (h : l.length = 12) (passed : ∀ b ∈ railTests l, b = true) : (railSent l).chars = l := by
  have used : byteAt l 0 ≤ 1 := of_decide_eq_true (passed _ (by simp [railTests]))
  simp (disch := omega) only [RailSection.chars, railSent, charsFlag_le used, chars2_u16At, chars1_byteAt,
    slice_append, slice_whole h]

theorem zoneSent_chars (h : l.length = 8) : (zoneSent l).chars = l := by
  simp (disch := omega) only [ZoneSection.chars, zoneSent, charsInt_s16At, chars2_u16At, chars1_byteAt,
    slice_append, slice_whole h]

theorem timing_chars (h : l.length = 4) : (Timing.mk (u16At l 0) (u16At l 2)).chars = l := by
  simp (disch := omega) only [Timing.chars, chars2_u16At, slice_append, slice_whole h]

theorem mapChars_eq (h : l.length = 48) (passed : ∀ k : Fin 48, byteAt l k.val ≤ 1) :
    mapChars (Bank.ofFn fun k => decide (byteAt l k.val = 1)) = l := by
  have one (b : Bool) : charsFlag b = [if b then 1 else 0] := rfl
  rw [mapChars, funext one, ← List.map_eq_flatMap]
  refine List.ext_getElem (by simp [Bank.ofFn, h]) fun k _ hk => ?_
  have flag := charsFlag_le (passed ⟨k, h ▸ hk⟩)
  rw [byteAt, chars1_toNat, List.getD_eq_getElem _ _ hk, one] at flag
  simp only [Bank.ofFn, List.getElem_map, List.getElem_ofFn]
  rw [byteAt, List.getD_eq_getElem _ _ hk]
  exact (List.cons.inj flag).1

/-- R36: the fields a channel's mode does not use are read back as 0. -/
theorem channelSent_chars (c : Fin 16) (h : l.length = 8) (passed : ∀ b ∈ channelTests c l, b = true) :
    (l.head? = some 0 → (channelSent l).chars = l.take 2 ++ [0, 0, 0, 0, 0, 0])
      ∧ (l.head? = some 1 → (channelSent l).chars = (l.set 2 0).set 7 0)
      ∧ (l.head? = some 2 → (channelSent l).chars = l.set 2 0)
      ∧ (l.head? = some 3 → (channelSent l).chars = l.take 3 ++ [0, 0, 0, 0, 0]) := by
  match l, h with
  | [mode, park, fixed, p1, p0, h1, h0, dead], _ =>
    have tests : park.toNat ≤ 2 ∧ (mode.toNat = 3 → fixed.toNat ≤ 1) := by
      simp only [channelTests, List.mem_cons, List.not_mem_nil, or_false, forall_eq_or_imp, forall_eq,
        decide_eq_true_eq] at passed
      obtain ⟨_, parkTest, fixedTest, _⟩ := passed
      exact ⟨parkTest, fixedTest⟩
    obtain ⟨parkTest, fixedTest⟩ := tests
    refine ⟨?_, ?_, ?_, ?_⟩
    all_goals
      intro head
      obtain rfl := Option.some.inj head
      simp [ChannelSection.chars, channelSent, byteAt, u16At, chars2_pair, chars1_level parkTest, chars1_toNat]
    · rfl
    · rfl
    · rfl
    · rw [charsFlag_le (fixedTest rfl), chars1_toNat]
      rfl

end Sections

/-! ### A section stored as sent (R31) -/

/-- A load without a clamp has stored the section as it was sent. -/
theorem unclamped_load {α : Type} [DecidableEq α] {f : α → α} {store : α → Recipe} {v : α} {tests : List Bool}
    {stored : Recipe}
    (h : (judgedFrom 1 v tests >>= fun x => pure (store (f x), decide (f x ≠ x))) = .ok (stored, false)) :
    stored = store v ∧ ∀ b ∈ tests, b = true := by
  rw [judgedFrom_bind_pure (fun x => (store (f x), decide (f x ≠ x))) fun _ => rfl] at h
  obtain ⟨same, passed⟩ := judgedFrom_ok h
  obtain ⟨rfl, unchanged⟩ := Prod.mk.inj same
  have kept : f v = v := not_not.mp (of_decide_eq_false unchanged.symm)
  exact ⟨by rw [kept], passed⟩

section Unclamped

variable {p stored : Recipe} {d : Option Identity} {l : List Byte}

theorem Recipe.load_rail_unclamped {r : Fin 4} (h : p.load d (.rail r) l = .ok (stored, false)) :
    stored.fields (.rail r) = some (railSent l).chars ∧ ∀ b ∈ railTests l, b = true := by
  rw [Recipe.load, readRail_eq] at h
  obtain ⟨rfl, passed⟩ := unclamped_load (store := p.setRailSection r) h
  exact ⟨by simp [Recipe.fields, Recipe.setRailSection], passed⟩

theorem Recipe.load_zone_unclamped {z : Fin 6} (h : p.load d (.zone z) l = .ok (stored, false)) :
    stored.fields (.zone z) = some (zoneSent l).chars := by
  rw [Recipe.load, readZone_eq] at h
  obtain ⟨rfl, _⟩ := unclamped_load (store := p.setZoneSection z) h
  simp [Recipe.fields, Recipe.setZoneSection]

theorem Recipe.load_sockets_unclamped (h : p.load d .sockets l = .ok (stored, false)) :
    stored.fields .sockets = some (mapChars (Bank.ofFn fun k => decide (byteAt l k.val = 1)))
      ∧ ∀ k : Fin 48, byteAt l k.val ≤ 1 := by
  rw [Recipe.load, readSockets_eq] at h
  obtain ⟨rfl, passed⟩ := unclamped_load (store := fun m => { p with sockets := some m }) h
  exact ⟨rfl, of_decide_eq_true (passed _ (by simp))⟩

theorem Recipe.load_channel_unclamped {c : Fin 16} (h : p.load d (.channel c) l = .ok (stored, false)) :
    stored.fields (.channel c) = some (channelSent l).chars ∧ ∀ b ∈ channelTests c l, b = true := by
  rw [Recipe.load, readChannel_eq] at h
  obtain ⟨rfl, passed⟩ := unclamped_load (f := ChannelSection.clampDead) (store := p.setChannelSection c) h
  exact ⟨by simp [Recipe.fields, Recipe.setChannelSection], passed⟩

end Unclamped

/-- Settles O44: each section stored as sent, its characters those of the payload. -/
theorem sectionsReadBackAsLoaded : Obligations.SectionsReadBackAsLoaded := by
  unfold Obligations.SectionsReadBackAsLoaded
  intro p stored d ref l h
  cases ref with
  | general =>
    intro len
    rw [Recipe.load_general] at h
    obtain ⟨same, passed⟩ := judgedFrom_ok h
    obtain ⟨rfl, _⟩ := Prod.mk.inj same
    exact congrArg some (generalSent_chars len passed)
  | rail r =>
    intro len
    obtain ⟨read, passed⟩ := Recipe.load_rail_unclamped h
    rw [read, railSent_chars len passed]
  | zone z =>
    intro len
    rw [Recipe.load_zone_unclamped h, zoneSent_chars len]
  | sockets =>
    intro len
    obtain ⟨read, passed⟩ := Recipe.load_sockets_unclamped h
    rw [read, mapChars_eq len passed]
  | timing =>
    intro len
    rw [Recipe.load_timing] at h
    obtain ⟨same, _⟩ := judgedFrom_ok h
    obtain ⟨rfl, _⟩ := Prod.mk.inj same
    exact congrArg some (timing_chars len)
  | channel c =>
    intro len
    obtain ⟨read, passed⟩ := Recipe.load_channel_unclamped h
    simpa only [read, Option.some.injEq] using channelSent_chars c len passed

end Sys2Proof.Machine
end

section
/-! SET_ZONE, SET_RAIL and SET_BUDGET: what each kind's rule answers. -/

namespace Sys2Proof.Machine

theorem SlotState.inRun_iff (x : SlotState) : x.inRun = true ↔ x = .arming ∨ x = .running := by
  cases x <;> simp [SlotState.inRun]

theorem callOf_index {q : Request} {t : Byte} (h : lastTarget q.quals = some t) : (callOf q).index = t.toNat := by
  simp [Call.index, callOf, h]

/-- OK, or CLAMPED when something was cut. -/
theorem State.stored_decide (s : State) (p : Prop) [Decidable p] :
    s.stored (decide p) = { state := s, result := if p then .clamped else .ok, data := [] } := by
  simp [State.stored]

/-! ### SET_ZONE (R39, R97) -/

/-- Is the zone addressed: by the TARGET, or by the absence of one? -/
def zoneHit (target : Option Byte) (z : Fin 6) : Bool := target.all fun t => t.toNat == z.val

theorem zonesAddressed_above {t : Byte} (h : 5 < t.toNat) : zonesAddressed (some t) = none := by
  simp [zonesAddressed, indexOf_ge (show 6 ≤ t.toNat by omega)]

theorem zonesAddressed_within {target : Option Byte} (h : ∀ t, target = some t → t.toNat ≤ 5) :
    zonesAddressed target = some (zoneHit target) := by
  cases target with
  | none => rfl
  | some t =>
    have below : t.toNat < 6 := Nat.lt_succ_of_le (h t rfl)
    simp only [zonesAddressed, indexOf, below, dif_pos, Option.map_some, Option.some.injEq]
    funext z
    rw [Bool.eq_iff_iff]
    simpa [zoneHit, Fin.ext_iff] using eq_comm

theorem State.zoneSectionFor_board {s : State} {d : Identity} (h : s.ident.record = some d) (x : ZoneSection)
    (z : Fin 6) : s.zoneSectionFor x z = x.clampTo d z := by
  simp [State.zoneSectionFor, h]

section SetZone

variable {c : Call} {s : State}

theorem handleSetZone_elsewhere (h : ¬ (s.slot.state = .arming ∨ s.slot.state = .running)) :
    handleSetZone c s = s.refuse .wrongState 0 := by
  rw [handleSetZone, if_neg (mt (SlotState.inRun_iff _).mp h)]

variable (live : s.slot.state = .arming ∨ s.slot.state = .running)

include live

theorem handleSetZone_nowhere (h : zonesAddressed c.target = none) : handleSetZone c s = s.refuse .badValue 0 := by
  rw [handleSetZone, if_pos ((SlotState.inRun_iff _).mpr live), h]

theorem handleSetZone_bad {hit : Fin 6 → Bool} {i : Nat} (h : zonesAddressed c.target = some hit)
    (bad : (zoneTests c.payload).findIdx? (fun b => !b) = some i) :
    handleSetZone c s = s.refuse .badValue (i + 1) := by
  rw [handleSetZone, if_pos ((SlotState.inRun_iff _).mpr live), h, readZone_eq, judgedFrom_eq, bad]

theorem handleSetZone_good {hit : Fin 6 → Bool} {d : Identity} (h : zonesAddressed c.target = some hit)
    (good : (zoneTests c.payload).findIdx? (fun b => !b) = none) (hd : s.ident.record = some d) :
    handleSetZone c s = 
      { state := s.writeZones (zoneSent c.payload) hit
        result :=
          if (∃ z, hit z = true ∧ min (s16At c.payload 0) (d.absLimit z - 16) ≠ s16At c.payload 0) then .clamped
          else .ok
        data := [] } := by
  have cut : ∀ z, (s.zoneSectionFor (zoneSent c.payload) z != zoneSent c.payload) = true
      ↔ min (s16At c.payload 0) (d.absLimit z - 16) ≠ s16At c.payload 0 := by
    intro z
    have setpoint : (zoneSent c.payload).setpoint = s16At c.payload 0 := rfl
    rw [State.zoneSectionFor_board hd, bne_iff_ne, ZoneSection.clampTo_ne_iff, setpoint]
    omega
  rw [handleSetZone, if_pos ((SlotState.inRun_iff _).mpr live), h, readZone_eq, judgedFrom_eq, good,
    ← State.stored_decide]
  refine congrArg (State.stored _) ?_
  rw [Bool.eq_iff_iff]
  simp only [List.any_eq_true, List.mem_finRange, true_and, Bool.and_eq_true, cut, decide_eq_true_eq]

end SetZone

/-! ### SET_RAIL (R39, R51) -/

section SetRail

variable {c : Call} {s : State}

theorem handleSetRail_elsewhere (h : ¬ (s.slot.state = .arming ∨ s.slot.state = .running)) :
    handleSetRail c s = s.refuse .wrongState 0 := by
  rw [handleSetRail, if_neg (mt (SlotState.inRun_iff _).mp h)]

variable (live : s.slot.state = .arming ∨ s.slot.state = .running)

include live

theorem handleSetRail_nowhere (h : 3 < c.index) : handleSetRail c s = s.refuse .badValue 0 := by
  rw [handleSetRail, if_pos ((SlotState.inRun_iff _).mpr live), indexOf_ge h]

variable {r : Fin 4} {x : RailSection} (hr : c.index = r.val)

include hr

theorem handleSetRail_absent (h : s.recipe.rails.get r = none) : handleSetRail c s = s.refuse .noRecipe 2 := by
  simp only [handleSetRail, (SlotState.inRun_iff _).mpr live, if_true, hr, indexOf_val, h]

theorem handleSetRail_above (h : s.recipe.rails.get r = some x) (mv : 16000 < u16At c.payload 0) :
    handleSetRail c s = s.refuse .badValue 3 := by
  simp only [handleSetRail, (SlotState.inRun_iff _).mpr live, if_true, hr, indexOf_val, h]
  exact if_neg (Nat.not_le.mpr mv)

theorem handleSetRail_good {d : Identity} (h : s.recipe.rails.get r = some x) (mv : u16At c.payload 0 ≤ 16000)
    (hd : s.ident.record = some d) :
    handleSetRail c s =
      { state := s.retargetRail r x (min (u16At c.payload 0) (d.railMaxMv r))
        result := if d.railMaxMv r < u16At c.payload 0 then .clamped else .ok
        data := [] } := by
  have setpoint : s.railSetpointFor r (u16At c.payload 0) = min (u16At c.payload 0) (d.railMaxMv r) := by
    simp [State.railSetpointFor, hd]
  have cut : (min (u16At c.payload 0) (d.railMaxMv r) != u16At c.payload 0)
      = decide (d.railMaxMv r < u16At c.payload 0) := by
    rw [Bool.eq_iff_iff, bne_iff_ne, decide_eq_true_eq]
    omega
  simp only [handleSetRail, (SlotState.inRun_iff _).mpr live, if_true, hr, indexOf_val, h, setpoint, cut,
    State.stored_decide]
  exact if_pos mv

end SetRail

/-! ### SET_BUDGET (R39, R107) -/

section SetBudget

variable {c : Call} {s : State}

theorem handleSetBudget_elsewhere (h : ¬ (s.slot.state = .arming ∨ s.slot.state = .running)) :
    handleSetBudget c s = s.refuse .wrongState 0 := by
  rw [handleSetBudget, if_neg (mt (SlotState.inRun_iff _).mp h)]

variable (live : s.slot.state = .arming ∨ s.slot.state = .running)

include live

theorem handleSetBudget_bad (h : u16At c.payload 0 < 100 ∨ 20000 < u16At c.payload 0) :
    handleSetBudget c s = s.refuse .badValue 5 := by
  rw [handleSetBudget, if_pos ((SlotState.inRun_iff _).mpr live), if_neg]
  rw [within_iff]
  omega

theorem handleSetBudget_good (h : 100 ≤ u16At c.payload 0 ∧ u16At c.payload 0 ≤ 20000) :
    handleSetBudget c s = (s.writeBudget (u16At c.payload 0)).ok := by
  rw [handleSetBudget, if_pos ((SlotState.inRun_iff _).mpr live), if_pos ((within_iff _ _ _).mpr h)]

end SetBudget

/-- R39, R107: the budget written, GENERAL being present. -/
theorem State.writeBudget_eq {s : State} {g : General} (h : s.recipe.general = some g) (b : Nat) :
    s.writeBudget b = (s.setRecipe { s.recipe with general := some { g with budget := b } }).setTherm
      { s.therm with slotBudget := { s.therm.slotBudget with budget := b } } := by
  rw [State.writeBudget, h]
  rfl

/-- Settles O47: each kind by what its rule answers in turn. -/
theorem zoneRailAndBudgetSettings : Obligations.ZoneRailAndBudgetSettings := by
  unfold Obligations.ZoneRailAndBudgetSettings
  intro s q d r x g p live no
  refine ⟨fun t => ⟨fun h => exec_taken rfl t (handleSetZone_elsewhere h), fun h ⟨target, ht, high⟩ => ?_,
      fun h hd within => ?_⟩,
    fun t => ⟨fun h => exec_taken rfl t (handleSetRail_elsewhere h),
      fun h ⟨target, ht, high⟩ => exec_taken rfl t (handleSetRail_nowhere h ((callOf_index ht).symm ▸ high)),
      fun h ⟨target, ht, hr⟩ => ?_⟩,
    fun t => ⟨fun h => exec_taken rfl t (handleSetBudget_elsewhere h),
      fun h bad => exec_taken rfl t (handleSetBudget_bad h bad), fun h hg low high => ?_⟩⟩
  · have above : zonesAddressed (lastTarget q.quals) = none := by rw [ht, zonesAddressed_above high]
    exact exec_taken rfl t (handleSetZone_nowhere h above)
  · have addressed := zonesAddressed_within within
    intro tests hit cut
    refine ⟨fun i bad => ?_, fun good => ⟨s.heard.writeZones (zoneSent p) hit, ?_, rfl, fun z => ?_⟩⟩
    · exact exec_taken rfl t (handleSetZone_bad (c := callOf q) (s := s.heard) h addressed bad)
    · exact exec_taken rfl t (handleSetZone_good (c := callOf q) (s := s.heard) h addressed good hd)
    · have clamped := State.zoneSectionFor_board (s := s.heard) hd (zoneSent p) z
      refine ⟨(Bank.get_ofFn _ z).trans ?_, (Bank.get_ofFn _ z).trans ?_⟩
      all_goals
        rw [clamped]
        rfl
  · have index : (callOf q).index = r.val := (callOf_index ht).trans hr
    refine ⟨fun absent => exec_taken rfl t (handleSetRail_absent h index absent),
      fun hx mv => exec_taken rfl t (handleSetRail_above h index hx mv), fun hx mv hd => ?_⟩
    intro y cut written rec'
    have kept : y.retarget cut = rec' := by
      cases hy : y.state <;> simp only [RailRec.retarget, rec', hy]
    rw [← kept]
    exact exec_taken rfl t (handleSetRail_good (s := s.heard) h index hx mv hd)
  · have good := handleSetBudget_good (c := callOf q) (s := s.heard) h ⟨low, high⟩
    rw [State.writeBudget_eq (s := s.heard) hg] at good
    exact exec_taken rfl t good

end Sys2Proof.Machine
end

section
/-! SET_TIMING, SET_CHANNEL and SET_PLAY: settings placed and applied, and what each kind's rule answers. -/

namespace Sys2Proof.Machine

/-! ### The waiting lists (R135) -/

theorem bank_set_set {α : Type} {n : Nat} (b : Bank α n) (k : Fin n) (v w : α) : (b.set k v).set k w = b.set k w :=
  Bank.ext_get fun j => by by_cases h : k = j <;> simp [Bank.get_set, h]

/-- The settings that a SET_TIMING carries. -/
def Settings.ofTiming (t : Timing) : Settings := { Settings.empty with timing := some t }

/-- The settings that a SET_CHANNEL carries. -/
def Settings.ofChannel (k : Fin 16) (x : ChannelSection) : Settings :=
  { Settings.empty with channels := Settings.empty.channels.set k (some x) }

/-- The settings that a SET_PLAY carries. -/
def Settings.ofPlay (p : PlaySettings) : Settings := { Settings.empty with play := some p }

section Lists

variable (l : Settings)

@[simp] theorem Settings.empty_channel (c : Fin 16) : Settings.empty.channels.get c = none := Bank.get_replicate _ c

theorem Settings.without_timing (t : Timing) : l.without (.ofTiming t) = { l with timing := none } := by
  have channels : (l.without (.ofTiming t)).channels = l.channels :=
    Bank.ext_get fun c => by simp [Settings.without, Settings.ofTiming]
  exact congrArg (fun b => { l with timing := none, channels := b }) channels

theorem Settings.over_timing (t : Timing) : (Settings.ofTiming t).over l = { l with timing := some t } := by
  have channels : ((Settings.ofTiming t).over l).channels = l.channels :=
    Bank.ext_get fun c => by simp [Settings.over, Settings.ofTiming]
  exact congrArg (fun b => { l with timing := some t, channels := b }) channels

theorem Settings.without_channel (k : Fin 16) (x : ChannelSection) :
    l.without (.ofChannel k x) = { l with channels := l.channels.set k none } := by
  have channels : (l.without (.ofChannel k x)).channels = l.channels.set k none :=
    Bank.ext_get fun c => by by_cases h : k = c <;> simp [Settings.without, Settings.ofChannel, Bank.get_set, h]
  exact congrArg (fun b => { l with channels := b }) channels

theorem Settings.over_channel (k : Fin 16) (x : ChannelSection) :
    (Settings.ofChannel k x).over l = { l with channels := l.channels.set k (some x) } := by
  have channels : ((Settings.ofChannel k x).over l).channels = l.channels.set k (some x) :=
    Bank.ext_get fun c => by by_cases h : k = c <;> simp [Settings.over, Settings.ofChannel, Bank.get_set, h]
  exact congrArg (fun b => { l with channels := b }) channels

theorem Settings.without_play (p : PlaySettings) : l.without (.ofPlay p) = { l with play := none } := by
  have channels : (l.without (.ofPlay p)).channels = l.channels :=
    Bank.ext_get fun c => by simp [Settings.without, Settings.ofPlay]
  exact congrArg (fun b => { l with play := none, channels := b }) channels

theorem Settings.over_play (p : PlaySettings) : (Settings.ofPlay p).over l = { l with play := some p } := by
  have channels : ((Settings.ofPlay p).over l).channels = l.channels :=
    Bank.ext_get fun c => by simp [Settings.over, Settings.ofPlay]
  exact congrArg (fun b => { l with play := some p, channels := b }) channels

end Lists

/-! ### One request's settings applied at once (R135) -/

/-- A fold in which one turn alone acts. -/
theorem foldl_single {α β : Type} (f : α → β → α) {k : β} {l : List β} (hl : l.Nodup) (hk : k ∈ l)
    (idle : ∀ b, b ≠ k → ∀ a, f a b = a) (a : α) : l.foldl f a = f a k := by
  have rest : ∀ m : List β, k ∉ m → ∀ a, m.foldl f a = a := by
    intro m hm
    induction m with
    | nil => exact fun _ => rfl
    | cons b m ih =>
      intro a
      rw [List.foldl_cons, idle b (fun h => hm (h ▸ List.mem_cons_self)), ih (fun h => hm (List.mem_cons_of_mem _ h))]
  obtain ⟨before, after, rfl⟩ := List.append_of_mem hk
  obtain ⟨_, hafter, hdis⟩ := List.nodup_append.mp hl
  rw [List.foldl_append, rest before (fun h => hdis k h k List.mem_cons_self rfl), List.foldl_cons,
    rest after (List.nodup_cons.mp hafter).1]

theorem Exerciser.applyChannels_none (e : Exerciser) : e.applyChannels Settings.empty.channels = e :=
  foldl_frame id _ (fun e c => by simp) _ _

theorem Exerciser.applyChannels_one (e : Exerciser) (k : Fin 16) (x : ChannelSection) :
    e.applyChannels (Settings.empty.channels.set k (some x)) = e.applyChannel k x := by
  unfold Exerciser.applyChannels
  rw [foldl_single _ (List.nodup_finRange 16) (List.mem_finRange k)]
  · simp
  · intro c hc e
    simp [Bank.get_set_ne _ _ hc.symm]

theorem State.applySettings_timing (s : State) (t : Timing) :
    s.applySettings (.ofTiming t) = s.setExer { s.exer with timing := t } :=
  congrArg s.setExer (Exerciser.applyChannels_none { s.exer with timing := t })

theorem State.applySettings_channel (s : State) (k : Fin 16) (x : ChannelSection) :
    s.applySettings (.ofChannel k x) = s.setExer (s.exer.applyChannel k x) :=
  congrArg s.setExer (Exerciser.applyChannels_one s.exer k x)

theorem State.applySettings_play (s : State) (p : PlaySettings) : s.applySettings (.ofPlay p) = s.applyPlay p :=
  congrArg (fun e => (s.setExer e).applyPlay p) (Exerciser.applyChannels_none s.exer)

/-- R135, R123: mode, mark and policy put in force, with C7A for the READY frames that a change to Stream frees. -/
def State.playPut (s : State) (p : PlaySettings) : State :=
  let put := (s.setExer { s.exer with underrun := p.underrun }).setStore (s.store.withPlay (some p))
  if p.lowWater = s.store.lowWater ∧ p.mode = .stream ∧ p.lowWater < s.store.readyCount
      ∧ put.store.readyCount ≤ p.lowWater
    then put.setNotice (s.notice.countRaise 7) else put

/-- R132, R135: a STARVED exerciser takes the frame that a change to Loop has made READY. -/
theorem State.applyPlay_put (s : State) (p : PlaySettings) :
    s.applyPlay p =
      if s.exer.state = .starved ∧ s.store.mode = .stream ∧ p.mode = .loop
          ∧ (s.playPut p).store.firstReady.isSome = true then (s.playPut p).takeFirstReady
      else s.playPut p := by
  have put : s.playPut p =
      let s0 := (s.setStore { s.store.setMode p.mode with lowWater := p.lowWater }).setExer
        { s.exer with underrun := p.underrun }
      if p.lowWater = s.store.lowWater then s0.lowWater s.store.readyCount else s0 := by
    by_cases mark : p.lowWater = s.store.lowWater
    · have mode : p.mode = .stream ↔ (s.store.setMode p.mode).mode = .stream := by rw [Store.setMode_mode]
      dsimp only
      rw [if_pos mark]
      exact if_congr ((and_iff_right mark).trans (and_congr_left' mode)) rfl rfl
    · dsimp only
      rw [if_neg mark]
      exact if_neg (mt And.left mark)
  rw [put]
  rfl

/-! ### One request's settings placed or applied (R135) -/

section Take

variable {s : State} (x : Settings)

theorem State.takeSettings_now (h : s.exer.state = .playing) :
    s.takeSettings x false = s.setExer { s.exer with
      boundary := x.over (s.exer.boundary.without x), staged := s.exer.staged.without x } := by
  simp [State.takeSettings, ExerState.isPlaying, h]

theorem State.takeSettings_late (h : s.exer.state = .playing) :
    s.takeSettings x true = s.setExer { s.exer with
      boundary := s.exer.boundary.without x, staged := x.over (s.exer.staged.without x) } := by
  simp [State.takeSettings, ExerState.isPlaying, h]

theorem State.takeSettings_atOnce (h : s.exer.state ≠ .playing) (late : Bool) :
    s.takeSettings x late = (s.setExer { s.exer with
      boundary := s.exer.boundary.without x, staged := s.exer.staged.without x }).applySettings x := by
  simp [State.takeSettings, ExerState.isPlaying, h]

end Take

section TakeOne

variable {s : State}

theorem State.takeTiming_now (t : Timing) (h : s.exer.state = .playing) :
    s.takeSettings (.ofTiming t) false = s.setExer { s.exer with
      boundary := { s.exer.boundary with timing := some t }, staged := { s.exer.staged with timing := none } } := by
  rw [State.takeSettings_now _ h, Settings.without_timing, Settings.without_timing, Settings.over_timing]

theorem State.takeTiming_late (t : Timing) (h : s.exer.state = .playing) :
    s.takeSettings (.ofTiming t) true = s.setExer { s.exer with
      boundary := { s.exer.boundary with timing := none }, staged := { s.exer.staged with timing := some t } } := by
  rw [State.takeSettings_late _ h, Settings.without_timing, Settings.without_timing, Settings.over_timing]

theorem State.takeTiming_atOnce (t : Timing) (h : s.exer.state ≠ .playing) (late : Bool) :
    s.takeSettings (.ofTiming t) late = s.setExer { s.exer with
      timing := t, boundary := { s.exer.boundary with timing := none }
      staged := { s.exer.staged with timing := none } } := by
  rw [State.takeSettings_atOnce _ h, Settings.without_timing, Settings.without_timing, State.applySettings_timing]
  rfl

theorem State.takeChannel_now (k : Fin 16) (y : ChannelSection) (h : s.exer.state = .playing) :
    s.takeSettings (.ofChannel k y) false = s.setExer { s.exer with
      boundary := { s.exer.boundary with channels := s.exer.boundary.channels.set k (some y) }
      staged := { s.exer.staged with channels := s.exer.staged.channels.set k none } } := by
  rw [State.takeSettings_now _ h, Settings.without_channel, Settings.without_channel, Settings.over_channel,
    bank_set_set]

theorem State.takeChannel_late (k : Fin 16) (y : ChannelSection) (h : s.exer.state = .playing) :
    s.takeSettings (.ofChannel k y) true = s.setExer { s.exer with
      boundary := { s.exer.boundary with channels := s.exer.boundary.channels.set k none }
      staged := { s.exer.staged with channels := s.exer.staged.channels.set k (some y) } } := by
  rw [State.takeSettings_late _ h, Settings.without_channel, Settings.without_channel, Settings.over_channel,
    bank_set_set]

theorem State.takeChannel_atOnce (k : Fin 16) (y : ChannelSection) (h : s.exer.state ≠ .playing) (late : Bool) :
    s.takeSettings (.ofChannel k y) late = s.setExer { s.exer with
      channels := s.exer.channels.set k y, clockAge := (s.exer.applyChannel k y).clockAge
      boundary := { s.exer.boundary with channels := s.exer.boundary.channels.set k none }
      staged := { s.exer.staged with channels := s.exer.staged.channels.set k none } } := by
  rw [State.takeSettings_atOnce _ h, Settings.without_channel, Settings.without_channel, State.applySettings_channel]
  rfl

theorem State.takePlay_now (p : PlaySettings) (h : s.exer.state = .playing) :
    s.takeSettings (.ofPlay p) false = s.setExer { s.exer with
      boundary := { s.exer.boundary with play := some p }, staged := { s.exer.staged with play := none } } := by
  rw [State.takeSettings_now _ h, Settings.without_play, Settings.without_play, Settings.over_play]

theorem State.takePlay_late (p : PlaySettings) (h : s.exer.state = .playing) :
    s.takeSettings (.ofPlay p) true = s.setExer { s.exer with
      boundary := { s.exer.boundary with play := none }, staged := { s.exer.staged with play := some p } } := by
  rw [State.takeSettings_late _ h, Settings.without_play, Settings.without_play, Settings.over_play]

theorem State.takePlay_atOnce (p : PlaySettings) (h : s.exer.state ≠ .playing) (late : Bool) :
    s.takeSettings (.ofPlay p) late = (s.setExer { s.exer with
      boundary := { s.exer.boundary with play := none }
      staged := { s.exer.staged with play := none } }).applyPlay p := by
  rw [State.takeSettings_atOnce _ h, Settings.without_play, Settings.without_play, State.applySettings_play]

end TakeOne

/-! ### SET_TIMING (R35, R40) -/

section SetTiming

variable {c : Call} {s : State}

theorem readTiming_short {l : List Byte} (h : u16At l 0 < 50) : readTiming l = .error 1 := by
  simp [readTiming_eq, judgedFrom, Nat.not_le.mpr h]

theorem readTiming_outside {l : List Byte} (h : 50 ≤ u16At l 0) (bad : u16At l 2 = 0 ∨ u16At l 0 ≤ u16At l 2) :
    readTiming l = .error 2 := by
  have offset : ¬ (1 ≤ u16At l 2 ∧ u16At l 2 < u16At l 0) := by omega
  simp only [readTiming_eq, judgedFrom, h, offset, decide_true, decide_false, if_true]
  rfl

theorem readTiming_inside {l : List Byte} (h : 50 ≤ u16At l 0) (low : 1 ≤ u16At l 2)
    (high : u16At l 2 < u16At l 0) : readTiming l = .ok { period := u16At l 0, offset := u16At l 2 } := by
  simp [readTiming_eq, judgedFrom, h, low, high]

theorem handleSetTiming_elsewhere (h : ¬ (s.slot.state = .arming ∨ s.slot.state = .running)) :
    handleSetTiming c s = s.refuse .wrongState 0 := by
  rw [handleSetTiming, if_neg (mt (SlotState.inRun_iff _).mp h)]

variable (live : s.slot.state = .arming ∨ s.slot.state = .running)

include live

theorem handleSetTiming_absent (h : s.recipe.timing = none) : handleSetTiming c s = s.refuse .noRecipe 6 := by
  simp [handleSetTiming, (SlotState.inRun_iff _).mpr live, h]

variable (present : s.recipe.timing.isSome = true)

include present

theorem handleSetTiming_bad {i : Nat} (h : readTiming c.payload = .error i) :
    handleSetTiming c s = s.refuse .badValue i := by
  simp [handleSetTiming, (SlotState.inRun_iff _).mpr live, Option.isSome_iff_ne_none.mp present, h]

theorem handleSetTiming_good {t : Timing} (h : readTiming c.payload = .ok t) :
    handleSetTiming c s =
      ((s.setRecipe { s.recipe with timing := some t }).takeSettings (.ofTiming t) c.atBoundary).ok := by
  simp [handleSetTiming, (SlotState.inRun_iff _).mpr live, Option.isSome_iff_ne_none.mp present, h, Settings.ofTiming]

end SetTiming

/-! ### SET_CHANNEL (R36, R40) -/

section SetChannel

variable {c : Call} {s : State}

theorem handleSetChannel_elsewhere (h : ¬ (s.slot.state = .arming ∨ s.slot.state = .running)) :
    handleSetChannel c s = s.refuse .wrongState 0 := by
  rw [handleSetChannel, if_neg (mt (SlotState.inRun_iff _).mp h)]

variable (live : s.slot.state = .arming ∨ s.slot.state = .running)

include live

theorem handleSetChannel_nowhere (h : 15 < c.index) : handleSetChannel c s = s.refuse .badValue 0 := by
  rw [handleSetChannel, if_pos ((SlotState.inRun_iff _).mpr live), indexOf_ge h]

variable {k : Fin 16} (hk : c.index = k.val)

include hk

theorem handleSetChannel_absent (h : s.recipe.channels.get k = none) :
    handleSetChannel c s = s.refuse .noRecipe 6 := by
  simp [handleSetChannel, (SlotState.inRun_iff _).mpr live, hk, h]

variable (present : (s.recipe.channels.get k).isSome = true)

include present

theorem handleSetChannel_bad {i : Nat} (h : readChannel k c.payload = .error i) :
    handleSetChannel c s = s.refuse .badValue i := by
  simp [handleSetChannel, (SlotState.inRun_iff _).mpr live, hk, Option.isSome_iff_ne_none.mp present, h]

theorem handleSetChannel_good {x : ChannelSection} (h : readChannel k c.payload = .ok x) :
    handleSetChannel c s =
      { state := (s.setRecipe (s.recipe.setChannelSection k x.clampDead)).takeSettings (.ofChannel k x.clampDead)
          c.atBoundary
        result := if x.mode = .pair ∧ x.least ≤ 2 * x.dead then .clamped else .ok
        data := [] } := by
  have dead : x.mode = .pair → 1 ≤ x.dead := by
    rw [readChannel_eq] at h
    obtain ⟨rfl, passed⟩ := judgedFrom_ok h
    exact channelSent_dead passed
  have clamped : decide (x.clampDead ≠ x) = decide (x.mode = .pair ∧ x.least ≤ 2 * x.dead) :=
    decide_eq_decide.mpr (ChannelSection.clampDead_ne_iff x dead)
  rw [← State.stored_decide, ← clamped]
  simp [handleSetChannel, (SlotState.inRun_iff _).mpr live, hk, Option.isSome_iff_ne_none.mp present, h,
    Settings.ofChannel]

end SetChannel

/-! ### SET_PLAY (R40) -/

section SetPlay

variable {c : Call} {s : State}

theorem handleSetPlay_elsewhere (h : ¬ (s.slot.state = .arming ∨ s.slot.state = .running)) :
    handleSetPlay c s = s.refuse .wrongState 0 := by
  rw [handleSetPlay, if_neg (mt (SlotState.inRun_iff _).mp h)]

variable (live : s.slot.state = .arming ∨ s.slot.state = .running)

include live

theorem handleSetPlay_bad {i : Nat} (h : readPlay c.payload = .error i) :
    handleSetPlay c s = s.refuse .badValue i := by
  rw [handleSetPlay, if_pos ((SlotState.inRun_iff _).mpr live), h]

theorem handleSetPlay_good {p : PlaySettings} (h : readPlay c.payload = .ok p) :
    handleSetPlay c s = ((s.setRecipe { s.recipe with
      general := s.recipe.general.map fun g => g.withPlay p }).takeSettings (.ofPlay p) c.atBoundary).ok := by
  rw [handleSetPlay, if_pos ((SlotState.inRun_iff _).mpr live), h]
  rfl

end SetPlay

theorem readPlay_underrun {l : List Byte} (h : 1 < byteAt l 1) : readPlay l = .error 11 := by
  simp [readPlay_eq, judgedFrom, Nat.not_le.mpr h]

theorem readPlay_mode {l : List Byte} (h1 : byteAt l 1 ≤ 1) (h : 1 < byteAt l 0) : readPlay l = .error 12 := by
  simp [readPlay_eq, judgedFrom, h1, Nat.not_le.mpr h]

theorem readPlay_mark {l : List Byte} (h1 : byteAt l 1 ≤ 1) (h0 : byteAt l 0 ≤ 1) (h : 31 < byteAt l 2) :
    readPlay l = .error 13 := by
  simp [readPlay_eq, judgedFrom, h1, h0, Nat.not_le.mpr h]

theorem readPlay_good {l : List Byte} (h1 : byteAt l 1 ≤ 1) (h0 : byteAt l 0 ≤ 1) (h2 : byteAt l 2 ≤ 31) :
    readPlay l = .ok { mode := if byteAt l 0 = 1 then .loop else .stream
                       underrun := if byteAt l 1 = 1 then .repeatLast else .park, lowWater := byteAt l 2 } := by
  simp [readPlay_eq, judgedFrom, h1, h0, h2]

/-- R135: a clock's age after one channel's entry is replaced. -/
theorem Exerciser.applyChannel_ages (e : Exerciser) (k c : Fin 16) (y : ChannelSection) :
    (e.applyChannel k y).clockAge.get c =
      if (c = k ∧ (y.mode ≠ (e.channels.get k).mode ∨ y.period ≠ (e.channels.get k).period
          ∨ y.high ≠ (e.channels.get k).high ∨ y.dead ≠ (e.channels.get k).dead))
        ∨ (c.val = k.val + 1 ∧ k.val % 2 = 0 ∧ (y.mode = .pair ↔ (e.channels.get k).mode ≠ .pair))
      then 0 else e.clockAge.get c := by
  rw [Exerciser.applyChannel_clockAge]
  refine if_congr ?_ rfl rfl
  rw [ChannelSection.clockDiffers_iff, pairUpper_eq_some, eq_comm (a := k), eq_comm (a := k.val + 1)]
  tauto

/-- Settles O48: each kind by what its rule answers in turn, its settings by where they are placed or applied. -/
theorem stimulusSettings : Obligations.StimulusSettings := by
  unfold Obligations.StimulusSettings
  intro s q k p live no late e done
  have early : ¬ late → (callOf q).atBoundary = false := eq_false_of_ne_true
  have onTime : late → (callOf q).atBoundary = true := id
  refine ⟨fun t => ?_, fun t => ?_, fun t => ?_⟩
  · intro timing put
    refine ⟨fun h => exec_taken rfl t (handleSetTiming_elsewhere h),
      fun h absent => exec_taken rfl t (handleSetTiming_absent h absent), fun h present =>
        ⟨fun short => ?_, fun long bad => ?_, fun long low high => ?_⟩⟩
    · exact exec_taken rfl t (handleSetTiming_bad (c := callOf q) (s := s.heard) h present
        (readTiming_short short))
    · exact exec_taken rfl t (handleSetTiming_bad (c := callOf q) (s := s.heard) h present
        (readTiming_outside long bad))
    have taken : ∀ {u}, (s.heard.setRecipe { s.recipe with timing := some timing }).takeSettings (.ofTiming timing)
        (callOf q).atBoundary = u → exec (.setTiming q) s = .next (done .setTiming u) := by
      rintro _ rfl
      exact exec_taken rfl t
        (handleSetTiming_good (c := callOf q) (s := s.heard) h present (readTiming_inside long low high))
    refine ⟨fun playing soon => taken ?_, fun playing after => taken ?_, fun idle => taken ?_⟩
    · rw [early soon]
      exact State.takeTiming_now (s := s.heard.setRecipe _) timing playing
    · rw [onTime after]
      exact State.takeTiming_late (s := s.heard.setRecipe _) timing playing
    · exact State.takeTiming_atOnce (s := s.heard.setRecipe _) timing idle _
  · refine ⟨fun h => exec_taken rfl t (handleSetChannel_elsewhere h),
      fun h ⟨target, ht, high⟩ => exec_taken rfl t (handleSetChannel_nowhere h ((callOf_index ht).symm ▸ high)),
      fun h ⟨target, ht, hk⟩ => ?_⟩
    have index : (callOf q).index = k.val := (callOf_index ht).trans hk
    refine ⟨fun absent => exec_taken rfl t (handleSetChannel_absent h index absent),
      fun i present bad => ?_, fun x present good => ?_⟩
    · exact exec_taken rfl t (handleSetChannel_bad (s := s.heard) h index present bad)
    intro y old result put without withIt
    have taken : ∀ {z}, (s.heard.setRecipe (s.recipe.setChannelSection k y)).takeSettings (.ofChannel k y)
        (callOf q).atBoundary = (s.heard.setRecipe (s.recipe.setChannelSection k y)).setExer z →
        exec (.setChannel q) s = .next (put z) := by
      intro z same
      have answer := handleSetChannel_good (c := callOf q) (s := s.heard) h index present good
      exact exec_taken rfl t (answer.trans (congrArg (fun u => Answer.mk u result []) same))
    refine ⟨fun playing soon => taken ?_, fun playing after => taken ?_, fun idle =>
      ⟨(e.applyChannel k y).clockAge, fun c => e.applyChannel_ages k c y, taken ?_⟩⟩
    · rw [early soon]
      exact State.takeChannel_now (s := s.heard.setRecipe _) k y playing
    · rw [onTime after]
      exact State.takeChannel_late (s := s.heard.setRecipe _) k y playing
    · exact State.takeChannel_atOnce (s := s.heard.setRecipe _) k y idle _
  · intro x written put fell applied
    refine ⟨fun h => exec_taken rfl t (handleSetPlay_elsewhere h),
      fun h h1 => ?_, fun h h1 h0 => ?_, fun h h1 h0 h2 => ?_, fun h h1 h0 h2 => ?_⟩
    · exact exec_taken rfl t (handleSetPlay_bad (c := callOf q) (s := s.heard) h (readPlay_underrun h1))
    · exact exec_taken rfl t (handleSetPlay_bad (c := callOf q) (s := s.heard) h (readPlay_mode h1 h0))
    · exact exec_taken rfl t (handleSetPlay_bad (c := callOf q) (s := s.heard) h (readPlay_mark h1 h0 h2))
    have taken : ∀ {u}, written.takeSettings (.ofPlay x) (callOf q).atBoundary = u →
        exec (.setPlay q) s = .next (done .setPlay u) := by
      rintro _ rfl
      exact exec_taken rfl t (handleSetPlay_good (c := callOf q) (s := s.heard) h (readPlay_good h1 h0 h2))
    refine ⟨fun playing soon => taken ?_, fun playing after => taken ?_, fun idle => ?_⟩
    · rw [early soon]
      exact State.takePlay_now (s := written) x playing
    · rw [onTime after]
      exact State.takePlay_late (s := written) x playing
    · have played := (State.takePlay_atOnce (s := written) x idle (callOf q).atBoundary).trans
        (State.applyPlay_put _ x)
      refine ⟨fun stays => taken (played.trans (if_neg ?_)), fun starved stream loop frame =>
        taken (played.trans (if_pos ⟨starved, stream, loop, frame⟩))⟩
      rintro ⟨starved, stream, loop, frame⟩
      rcases stays with h | h | h | h
      · exact h starved
      · exact absurd (stream.symm.trans h) (by decide)
      · exact absurd (loop.symm.trans h) (by decide)
      · exact absurd (frame.symm.trans (congrArg Option.isSome h)) (by decide)

end Sys2Proof.Machine
end

section
/-! The paged reads: what each kind's rule answers, and the layouts of R173. -/

namespace Sys2Proof.Machine

/-! ### READ_IDENTITY (R29) and READ_RECIPE (R41) -/

section Reads

variable {c : Call} {s : State}

/-- R29: the range that READ_IDENTITY tests. -/
theorem identityRange_iff (offset n : Nat) :
    (within 0 301 offset && within 1 240 n && decide (offset + n ≤ 302)) = true
      ↔ offset ≤ 301 ∧ 1 ≤ n ∧ n ≤ 240 ∧ offset + n ≤ 302 := by
  simp [within_iff, and_assoc]

theorem handleReadIdentity_outside
    (h : ¬ (u16At c.payload 0 ≤ 301 ∧ 1 ≤ byteAt c.payload 2 ∧ byteAt c.payload 2 ≤ 240
      ∧ u16At c.payload 0 + byteAt c.payload 2 ≤ 302)) : handleReadIdentity c s = s.refuse .badValue 0 :=
  if_neg (mt (identityRange_iff _ _).mp h)

section Wide

variable (h : u16At c.payload 0 ≤ 301 ∧ 1 ≤ byteAt c.payload 2 ∧ byteAt c.payload 2 ≤ 240
  ∧ u16At c.payload 0 + byteAt c.payload 2 ≤ 302)

include h

theorem handleReadIdentity_unread (hd : s.ident.record = none) :
    handleReadIdentity c s = s.refuse .noIdentity 0 := by
  refine (if_pos ((identityRange_iff _ _).mpr h)).trans ?_
  rw [hd]

theorem handleReadIdentity_read {d : Identity} (hd : s.ident.record = some d) :
    handleReadIdentity c s =
      s.report ((d.image.cells.drop (u16At c.payload 0)).take (byteAt c.payload 2)) := by
  refine (if_pos ((identityRange_iff _ _).mpr h)).trans ?_
  rw [hd]

end Wide

theorem handleReadRecipe_nowhere (h : sectionOf (byteAt c.payload 0) (byteAt c.payload 1) = none) :
    handleReadRecipe c s = s.refuse .badValue 0 := by
  rw [handleReadRecipe, h]

theorem handleReadRecipe_read {ref : SectionRef}
    (h : sectionOf (byteAt c.payload 0) (byteAt c.payload 1) = some ref) :
    handleReadRecipe c s = s.report ((s.recipe.fields ref).elim [0] fun fields => 1 :: fields) := by
  simp only [handleReadRecipe, h]
  cases s.recipe.fields ref <;> rfl

/-! ### READ_STORE (R124) -/

theorem Store.readyCount_eq (st : Store) : st.readyCount = (st.frames.filter fun f => f.status = .ready).length := by
  rw [Store.readyCount, List.countP_eq_length_filter]
  refine congrArg List.length (List.filter_congr fun f _ => ?_)
  cases f.status <;> rfl

theorem handleReadStore_outside (h : 31 < byteAt c.payload 0) : handleReadStore c s = s.refuse .badValue 0 :=
  if_pos h

theorem handleReadStore_read (h : byteAt c.payload 0 ≤ 31) :
    handleReadStore c s = s.report (chars1 s.store.mode.code ++ chars1 s.store.lowWater ++ chars2 s.store.freeSlots
      ++ chars2 s.store.readEnd ++ chars2 s.store.writeEnd
      ++ chars1 (s.store.frames.filter fun f => f.status = .ready).length ++ chars1 s.store.frames.length
      ++ chars1 (min 16 (s.store.frames.length - byteAt c.payload 0))
      ++ ((s.store.frames.drop (byteAt c.payload 0)).take 16).flatMap
        fun f => f.chars (decide (s.store.current = some f.id))) := by
  have page : ((s.store.frames.drop (byteAt c.payload 0)).take 16).length
      = min 16 (s.store.frames.length - byteAt c.payload 0) := by
    rw [List.length_take, List.length_drop]
  have current : ∀ f : FrameDesc, (s.store.current == some f.id) = decide (s.store.current = some f.id) :=
    fun f => beq_eq_decide _ _
  refine (if_neg (Nat.not_lt.mpr h)).trans ?_
  rw [page, Store.readyCount_eq]
  simp only [current]

/-! ### READ_SOCKETS (R150) -/

/-- The sockets of a range, in order. -/
def socketsFrom (first n : Nat) : List (Fin 48) :=
  (List.finRange 48).filter fun k => decide (first ≤ k.val) && decide (k.val < first + n)

theorem socketsFrom_val {first n : Nat} (h : first + n ≤ 48) :
    (socketsFrom first n).map Fin.val = List.range' first n := by
  have split : List.range 48
      = List.range' 0 first ++ (List.range' first n ++ List.range' (first + n) (48 - (first + n))) := by
    rw [List.range'_append_1, List.range_eq_range']
    have := List.range'_append_1 (s := 0) (m := first) (n := n + (48 - (first + n)))
    rw [Nat.zero_add] at this
    rw [this]
    congr 1
    omega
  have vals : (socketsFrom first n).map Fin.val
      = (List.range 48).filter fun k => decide (first ≤ k) && decide (k < first + n) := by
    rw [← List.map_coe_finRange_eq_range, List.filter_map]
    rfl
  have below : (List.range' 0 first).filter (fun k => decide (first ≤ k) && decide (k < first + n)) = [] := by
    rw [List.filter_eq_nil_iff]
    intro k hk
    have := List.mem_range'_1.mp hk
    simp
    omega
  have among : (List.range' first n).filter (fun k => decide (first ≤ k) && decide (k < first + n))
      = List.range' first n := by
    rw [List.filter_eq_self]
    intro k hk
    simpa using List.mem_range'_1.mp hk
  have above : (List.range' (first + n) (48 - (first + n))).filter
      (fun k => decide (first ≤ k) && decide (k < first + n)) = [] := by
    rw [List.filter_eq_nil_iff]
    intro k hk
    have := List.mem_range'_1.mp hk
    simp
    omega
  rw [vals, split, List.filter_append, List.filter_append, below, among, above, List.nil_append, List.append_nil]

theorem charsStamp_eq (x : Option Word32) : charsStamp x = chars4 ((x.map BitVec.toNat).getD 0) := by
  cases x <;> rfl

theorem charsStamp_ite (p : Prop) [Decidable p] (x : Option Word32) :
    charsStamp (if p then x else none) = if p then charsStamp x else [0, 0, 0, 0] := by
  split <;> rfl

theorem charsOptWord32_eq (x : Option Word32) :
    charsOptWord32 x = (if x.isSome = true then 1 else 0) :: chars4 ((x.map BitVec.toNat).getD 0) := by
  cases x <;> rfl

theorem State.accountChars_length (s : State) (k : Fin 48) : (s.accountChars k).length = 24 := by
  simp [State.accountChars, markStamp, charsStamp_eq, chars1, chars2, chars3, chars4]

/-- R150: the range that READ_SOCKETS tests. -/
theorem socketRange_iff (first n : Nat) :
    (decide (first ≤ 47) && decide (1 ≤ n) && decide (n ≤ 8) && decide (first + n ≤ 48)) = true
      ↔ first ≤ 47 ∧ 1 ≤ n ∧ n ≤ 8 ∧ first + n ≤ 48 := by
  simp [and_assoc]

theorem handleReadSockets_outside
    (h : ¬ (c.firstSocket ≤ 47 ∧ 1 ≤ byteAt c.payload 0 ∧ byteAt c.payload 0 ≤ 8
      ∧ c.firstSocket + byteAt c.payload 0 ≤ 48)) : handleReadSockets c s = s.refuse .badValue 0 :=
  if_neg (mt (socketRange_iff _ _).mp h)

theorem handleReadSockets_read (h : c.firstSocket ≤ 47 ∧ 1 ≤ byteAt c.payload 0 ∧ byteAt c.payload 0 ≤ 8
    ∧ c.firstSocket + byteAt c.payload 0 ≤ 48) :
    handleReadSockets c s = s.report (s.credit.headerChars
      ++ (socketsFrom c.firstSocket (byteAt c.payload 0)).flatMap s.accountChars) :=
  if_pos ((socketRange_iff _ _).mpr h)

/-! ### READ_CAPTURE (R164) -/

theorem handleReadCapture_outside (h : 1 < byteAt c.payload 0 ∨ 7 < byteAt c.payload 1) :
    handleReadCapture c s = s.refuse .badValue 0 := by
  unfold handleReadCapture
  split
  · next ch hch =>
    have below : byteAt c.payload 0 < 2 := (indexOf_isSome 2 _).mp (by rw [hch]; rfl)
    exact if_neg (by omega)
  · rfl

theorem handleReadCapture_read {ch : Fin 2} (hc : byteAt c.payload 0 = ch.val) (h : byteAt c.payload 1 ≤ 7) :
    handleReadCapture c s = s.report (bindingChars (s.notice.capture.get ch).binding
      ++ chars1 (s.notice.capture.get ch).buffer.length
      ++ (s.notice.capture.get ch).buffer[byteAt c.payload 1]?.elim [0] fun snap => 1 :: snap.chars) := by
  simp only [handleReadCapture, hc, indexOf_val, h, if_true]
  cases (s.notice.capture.get ch).buffer[byteAt c.payload 1]? <;> rfl

end Reads

/-- Settles O38: each kind by what its rule answers, its layouts character by character. -/
theorem pagedReads : Obligations.PagedReads := by
  unfold Obligations.PagedReads
  intro s q n first one flag stamped entry kindOf account header bindingOf copy refused
  have entries : ∀ f : FrameDesc, f.chars (decide (s.store.current = some f.id)) = entry f := by
    rintro ⟨id, start, count, repeats, checked, status⟩
    cases status <;> rfl
  have kinds : ∀ m, markKind m = kindOf m := by
    intro m
    cases m with
    | none => rfl
    | some m =>
      obtain ⟨kind, stamp⟩ := m
      cases kind <;> rfl
  have accounts : ∀ k, s.accountChars k = account k := by
    intro k
    simp only [State.accountChars, charsStamp_ite, markStamp]
    simp only [account, kinds, charsStamp_eq, chars1, List.append_assoc, List.cons_append, List.nil_append]
    cases (s.sock.sockets.get k).cause with
    | none => rfl
    | some cause => cases cause <;> rfl
  have head : s.credit.headerChars = header := by
    simp only [CreditUnit.headerChars, charsOptWord32_eq]
    rfl
  have bindings : ∀ b, bindingChars b = bindingOf b := by
    intro b
    cases b with
    | none => rfl
    | some b =>
      obtain ⟨cls, source, remaining⟩ := b
      cases source <;> rfl
  have copies : ∀ x : Snapshot, x.chars = copy x := by
    rintro ⟨cls, source, unit, stamp, history⟩
    cases source <;> cases history <;> rfl
  refine ⟨fun t => ?_, fun t => ?_, fun t => ?_, fun t => ?_, fun t => ?_⟩
  · intro wide
    exact ⟨fun h => exec_taken rfl t (handleReadIdentity_outside (c := callOf q) h),
      fun h hd => exec_taken rfl t (handleReadIdentity_unread (c := callOf q) (s := s.heard) h hd),
      fun d h hd => exec_taken rfl t (handleReadIdentity_read (c := callOf q) (s := s.heard) h hd)⟩
  · refine ⟨fun h => exec_taken rfl t (handleReadRecipe_nowhere (c := callOf q) h), fun ref h => ?_⟩
    rw [exec_taken rfl t (handleReadRecipe_read (c := callOf q) (s := s.heard) h)]
    have fields : s.heard.recipe.fields ref = s.recipe.fields ref := rfl
    rw [fields]
    cases s.recipe.fields ref <;> rfl
  · refine ⟨fun h => exec_taken rfl t (handleReadStore_outside (c := callOf q) h), fun h => ?_⟩
    rw [← funext entries]
    exact exec_taken rfl t (handleReadStore_read (c := callOf q) (s := s.heard) h)
  · intro wide
    refine ⟨fun h => exec_taken rfl t (handleReadSockets_outside (c := callOf q) h), fun h => ?_⟩
    have ⟨_, _, _, last⟩ := h
    refine ⟨socketsFrom first (n 0), socketsFrom_val last, fun k => ?_, ?_⟩
    · rw [← accounts]
      exact s.accountChars_length k
    · rw [← head, ← funext accounts]
      exact exec_taken rfl t (handleReadSockets_read (c := callOf q) (s := s.heard) h)
  · refine ⟨fun h => exec_taken rfl t (handleReadCapture_outside (c := callOf q) h), fun ch hc h => ?_⟩
    rw [exec_taken rfl t (handleReadCapture_read (c := callOf q) (s := s.heard) hc h), bindings]
    have snapshot : (s.heard.notice.capture.get ch).buffer[byteAt (callOf q).payload 1]?
      = (s.notice.capture.get ch).buffer[n 1]? := rfl
    rw [snapshot]
    simp only [copies]
    cases (s.notice.capture.get ch).buffer[n 1]? <;> rfl

end Sys2Proof.Machine
end

section
/-! The socket supervisor's events (chapter 4): a sample recorded and judged, isolation, retirement and the cooldown. -/

namespace Sys2Proof.Machine

/-! ### One socket's record -/

/-- The state with one socket's supervision record replaced. -/
def State.putSocket (s : State) (k : Fin 48) (r : SocketRec) : State :=
  s.setSock { s.sock with sockets := s.sock.sockets.set k r }

theorem State.modSocket_eq (s : State) (k : Fin 48) (f : SocketRec → SocketRec) :
    s.modSocket k f = s.putSocket k (f (s.sock.sockets.get k)) := rfl

@[simp] theorem State.putSocket_get_self (s : State) (k : Fin 48) (r : SocketRec) :
    (s.putSocket k r).sock.sockets.get k = r :=
  Bank.get_set_self _ _ _

@[simp] theorem State.putSocket_putSocket (s : State) (k : Fin 48) (x y : SocketRec) :
    (s.putSocket k x).putSocket k y = s.putSocket k y := by
  simp [State.putSocket, bank_set_set]

theorem SocketState.powered_iff (x : SocketState) : x.powered = true ↔ x = .active ∨ x = .warned := by
  cases x <;> simp [SocketState.powered]

/-- R62: who is judged. -/
theorem SocketRec.judged_iff (r : SocketRec) :
    r.judged = true ↔ (r.state = .active ∨ r.state = .warned) ∧ r.blanking = none := by
  simp [SocketRec.judged, SocketRec.inBlanking, SocketState.powered_iff]

/-! ### A sample (R61 to R66) -/

/-- R61: a record with a sample taken into it. -/
def SocketRec.sampled (r : SocketRec) (v : Nat) : SocketRec := { r with sample := v, history := r.history.push v }

section Sample

variable {s : State} {k : Fin 48} {r : SocketRec} {v ma : Nat} {w : Wire}

theorem State.socketSampled_unjudged
    (h : ¬ (((s.sock.sockets.get k).state = .active ∨ (s.sock.sockets.get k).state = .warned)
      ∧ (s.sock.sockets.get k).blanking = none)) :
    s.socketSampled k ma = s.putSocket k ((s.sock.sockets.get k).sampled (min 4000 ma)) :=
  if_neg (mt (SocketRec.judged_iff _).mp h)

theorem State.socketSampled_judged
    (h : ((s.sock.sockets.get k).state = .active ∨ (s.sock.sockets.get k).state = .warned)
      ∧ (s.sock.sockets.get k).blanking = none) (hw : s.wire k = some w) :
    s.socketSampled k ma =
      (s.putSocket k ((s.sock.sockets.get k).sampled (min 4000 ma))).judgeSample k (min 4000 ma) w := by
  refine (if_pos ((SocketRec.judged_iff _).mpr h)).trans ?_
  rw [hw]
  rfl

/-- R63: at or above the hard limit. -/
theorem State.judgeSample_hard (h : s.sock.hardLimits.get w.rail ≤ v) :
    (s.putSocket k r).judgeSample k v w =
      ((((s.putSocket k { r with faultCounter := 255, hardTrips := min 255 (r.hardTrips + 1) }).logFailure
        .overcurrentHard (some k) none (BitVec.ofNat 16 v)).notifySocket .b k).isolate k) := by
  refine (if_pos h).trans ?_
  rw [State.hardTrip, State.modSocket_eq, State.putSocket_get_self, State.putSocket_putSocket]
  rfl

/-- R64: below the hard limit the counter moves, then the two stages follow. -/
theorem State.judgeSample_soft (h : v < s.sock.hardLimits.get w.rail) :
    (s.putSocket k r).judgeSample k v w =
      ((s.putSocket k { r with
        faultCounter := if s.sock.softLimits.get w.rail < v then min 255 (r.faultCounter + 8)
          else r.faultCounter - 1 }).warnStage k).tripStage k v := by
  refine (if_neg (Nat.not_le.mpr h)).trans ?_
  rw [State.modSocket_eq, State.putSocket_get_self, State.putSocket_putSocket]
  rfl

/-- R65: the warning stage on an ACTIVE socket. -/
theorem State.warnStage_active (h : r.state = .active) :
    (s.putSocket k r).warnStage k =
      if 96 ≤ r.faultCounter then (s.putSocket k { r with state := .warned }).notifySocket .a k
      else s.putSocket k r := by
  rw [State.warnStage, State.modSocket_eq, State.putSocket_get_self, State.putSocket_putSocket, h]
  rfl

/-- R65: the warning stage on a WARNED socket. -/
theorem State.warnStage_warned (h : r.state = .warned) :
    (s.putSocket k r).warnStage k =
      if r.faultCounter = 0 then s.putSocket k { r with state := .active } else s.putSocket k r := by
  simp only [State.warnStage, State.modSocket_eq, State.putSocket_get_self, State.putSocket_putSocket, h]

/-- R66: without a WARNED socket at 128 there is no soft trip. -/
theorem State.tripStage_passes (h : ¬ ((s.sock.sockets.get k).state = .warned
    ∧ 128 ≤ (s.sock.sockets.get k).faultCounter)) : s.tripStage k v = s :=
  if_neg h

/-- R66: a soft trip. -/
theorem State.tripStage_trips (hs : r.state = .warned) (hc : 128 ≤ r.faultCounter) :
    (s.putSocket k r).tripStage k v =
      (((s.putSocket k { r with softTrips := min 255 (r.softTrips + 1) }).logFailure
        .overcurrentSoft (some k) none (BitVec.ofNat 16 v)).notifySocket .b k).isolate k := by
  rw [State.tripStage, State.putSocket_get_self]
  refine (if_pos ⟨hs, hc⟩).trans ?_
  rw [State.softTrip, State.modSocket_eq, State.putSocket_get_self, State.putSocket_putSocket]
  rfl

end Sample

/-- Settles O22: the judgement by the hard limit, the stages by the state and by where the counter has moved. -/
theorem socketSampleJudged : Obligations.SocketSampleJudged := by
  unfold Obligations.SocketSampleJudged
  intro s k ma w r v y now judged c
  have sampled : ∀ {t}, s.socketSampled k ma = t → exec (.socketSample k ma) s = .next t := fun h => congrArg _ h
  refine ⟨fun h => sampled (State.socketSampled_unjudged h), fun h hw => ⟨fun hard =>
    sampled ((State.socketSampled_judged h hw).trans (State.judgeSample_hard hard)), fun soft => ?_⟩⟩
  let z : SocketRec := { y with faultCounter := c }
  have moved : s.socketSampled k ma = ((s.putSocket k z).warnStage k).tripStage k v :=
    (State.socketSampled_judged h hw).trans (State.judgeSample_soft soft)
  have counted : ∀ {t u}, (s.putSocket k z).warnStage k = u → u.tripStage k v = t →
      exec (.socketSample k ma) s = .next t := fun warn trip =>
    sampled (moved.trans ((congrArg (State.tripStage · k v) warn).trans trip))
  have active : z.state = .active → _ := State.warnStage_active (s := s) (k := k)
  have warned : z.state = .warned → _ := State.warnStage_warned (s := s) (k := k)
  refine ⟨fun hs hc => ?_, fun hs hc h8 => ?_, fun hs hc => ?_, fun hs h0 h8 => ?_, fun hs hc => ?_⟩
  · refine counted ((active hs).trans (if_neg (Nat.not_le.mpr hc))) (State.tripStage_passes ?_)
    simp [z, y, hs]
  · refine counted ((active hs).trans (if_pos hc)) (State.tripStage_passes ?_)
    simpa using h8
  · refine counted ((warned hs).trans (if_pos hc)) ((State.tripStage_passes ?_).trans ?_)
    · simp
    · exact congrArg (fun n => s.putSocket k { z with faultCounter := n, state := .active }) hc
  · refine counted ((warned hs).trans (if_neg h0.ne')) (State.tripStage_passes ?_)
    simp [z, h8]
  · have counts : c ≠ 0 := by omega
    exact counted ((warned hs).trans (if_neg counts)) (State.tripStage_trips hs hc)

/-! ### A socket leaves ACTIVE or WARNED (R56, R57, R76, R137) -/

theorem SocketRec.depart_eq (r : SocketRec) :
    r.depart = if r.state = .active ∨ r.state = .warned then
      { r with switchClosed := false, blanking := none, offCount := r.offCount + 1 } else r :=
  if_congr (SocketState.powered_iff _) rfl rfl

/-- One socket's record replaced as it leaves its state: a powered one's compare window is emptied. -/
def State.left (s : State) (k : Fin 48) (r : SocketRec) : State :=
  (s.putSocket k r).setExer
    (if (s.sock.sockets.get k).state = .active ∨ (s.sock.sockets.get k).state = .warned then
      { s.exer with compare := s.exer.compare.set k (s.exer.compare.get k).clearWindow }
    else s.exer)

/-- A departure with what follows it is one change of the record. -/
theorem State.depart_modSocket (s : State) (k : Fin 48) (f : SocketRec → SocketRec) :
    (s.depart k).modSocket k f = s.left k (f (s.sock.sockets.get k).depart) := by
  have record : (s.depart k).sock.sockets.get k = (s.sock.sockets.get k).depart := by simp [State.depart_get]
  rw [State.modSocket_eq, record]
  by_cases h : (s.sock.sockets.get k).state.powered = true
  · rw [State.depart, if_pos h, State.left, if_pos ((SocketState.powered_iff _).mp h),
      ← State.putSocket_putSocket s k]
    rfl
  · rw [State.depart, if_neg h, State.left, if_neg (mt (SocketState.powered_iff _).mpr h)]
    rfl

/-! ### Isolation and retirement (R67, R68, R74) -/

/-- R16: the run's end is judged in ARMING and RUNNING alone. -/
theorem State.checkRunEnd_eq (s : State) :
    s.checkRunEnd =
      if (s.slot.state = .arming ∨ s.slot.state = .running)
        ∧ ∀ j, (s.sock.sockets.get j).state = .vacant ∨ (s.sock.sockets.get j).state = .retired
          ∨ (s.sock.sockets.get j).state = .completed then s.enterDraining .complete else s :=
  if_congr (by rw [Bool.and_eq_true, SlotState.inRun_iff, State.allFinal_iff]) rfl rfl

/-- R68: a retired socket's record. -/
def SocketRec.retired (r : SocketRec) (cause : RetireCause) : SocketRec :=
  { r.depart with state := .retired, cause := some cause, prior := none, cooldown := none, retryDue := false }

/-- R67: an isolated socket's record. -/
def SocketRec.isolated (r : SocketRec) (cooldown : Nat) : SocketRec :=
  { r.depart with state := .isolated, cooldown := some cooldown, retryDue := false }

/-- R68: a socket retired, the run's end not yet judged. -/
def State.retired (s : State) (k : Fin 48) (cause : RetireCause) : State :=
  ((s.left k ((s.sock.sockets.get k).retired cause)).logFailure .retired (some k) none
    (BitVec.ofNat 16 cause.code)).notify 2 .a

theorem State.retire_eq (s : State) (k : Fin 48) (cause : RetireCause) :
    s.retire k cause = (s.retired k cause).checkRunEnd := by
  rw [State.retire, State.depart_modSocket]
  rfl

@[simp] theorem State.retired_slot (s : State) (k : Fin 48) (cause : RetireCause) :
    (s.retired k cause).slot = s.slot := by
  simp [State.retired, State.left, State.putSocket]

theorem State.isolate_retires {s : State} {k : Fin 48} (h : (s.sock.sockets.get k).retries = s.sock.retryLimit) :
    s.isolate k = s.retire k .electrical :=
  if_pos h

theorem State.isolate_cools {s : State} {k : Fin 48} (h : (s.sock.sockets.get k).retries ≠ s.sock.retryLimit) :
    s.isolate k = s.left k ((s.sock.sockets.get k).isolated s.sock.cooldownTime) :=
  (if_neg h).trans (s.depart_modSocket k _)

theorem SocketState.retirable_iff (x : SocketState) :
    x.retirable = true ↔ x = .off ∨ (x = .active ∨ x = .warned) ∨ x = .heldOff ∨ x = .isolated := by
  cases x <;> simp [SocketState.retirable]

section RetireSocket

variable {c : Call} {s : State}

theorem handleRetireSocket_elsewhere (h : ¬ (s.slot.state = .arming ∨ s.slot.state = .running)) :
    handleRetireSocket c s = s.refuse .wrongState 0 := by
  rw [handleRetireSocket, if_neg (mt (SlotState.inRun_iff _).mp h)]

variable (live : s.slot.state = .arming ∨ s.slot.state = .running)

include live

theorem handleRetireSocket_nowhere (h : 47 < c.index) : handleRetireSocket c s = s.refuse .badValue 0 := by
  rw [handleRetireSocket, if_pos ((SlotState.inRun_iff _).mpr live), indexOf_ge h]

variable {k : Fin 48} (hk : c.index = k.val)

include hk

theorem handleRetireSocket_final
    (h : ¬ (s.sock.sockets.get k).state.retirable = true) : handleRetireSocket c s = s.refuse .badValue 0 := by
  simp only [handleRetireSocket, (SlotState.inRun_iff _).mpr live, if_true, hk, indexOf_val, h]
  rfl

theorem handleRetireSocket_retires (h : (s.sock.sockets.get k).state.retirable = true) :
    handleRetireSocket c s = (s.retire k .operator).ok := by
  simp only [handleRetireSocket, (SlotState.inRun_iff _).mpr live, if_true, hk, indexOf_val, h]

end RetireSocket

/-! ### Blanking and cooldown (R57, R69, R71) -/

theorem exec_cooldownExpiry_stopped {s : State} {k : Fin 48} (h : (s.sock.sockets.get k).cooldown = none) :
    exec (.cooldownExpiry k) s = .next s := by
  simp [exec, execCooldownExpiry, h]

theorem exec_cooldownExpiry_running {s : State} {k : Fin 48}
    (h : (s.sock.sockets.get k).cooldown.isSome = true) :
    exec (.cooldownExpiry k) s = .next (s.cooldownExpires k) := by
  simp [exec, execCooldownExpiry, h]

section Cooldown

variable {s : State} {k : Fin 48} (h : (s.sock.sockets.get k).state = .isolated)

include h

/-- R69, R71: the cooldown of an ISOLATED socket whose retry can be made at once. -/
theorem State.cooldownExpires_retries (now : s.slot.state = .running ∧ s.zoneRegulating k = true) :
    s.cooldownExpires k = s.putSocket k { s.sock.sockets.get k with cooldown := none }.retry := by
  rw [State.cooldownExpires, if_pos h]
  refine (if_pos now).trans ?_
  rw [State.modSocket_eq, State.modSocket_eq, State.putSocket_get_self, State.putSocket_putSocket]

/-- R69: the cooldown of an ISOLATED socket whose retry must wait. -/
theorem State.cooldownExpires_marks (now : ¬ (s.slot.state = .running ∧ s.zoneRegulating k = true)) :
    s.cooldownExpires k = s.putSocket k { s.sock.sockets.get k with cooldown := none, retryDue := true } := by
  rw [State.cooldownExpires, if_pos h]
  refine (if_neg now).trans ?_
  rw [State.modSocket_eq, State.modSocket_eq, State.putSocket_get_self, State.putSocket_putSocket]

end Cooldown

/-- Settles O23: isolation and retirement as one change of the record each, RETIRE_SOCKET by its rule's answers, the
cooldown by whether the retry can be made at once. -/
theorem isolationRetirementAndRetry : Obligations.IsolationRetirementAndRetry := by
  unfold Obligations.IsolationRetirementAndRetry
  constructor
  · intro s k cause q t r on gone emptied left u told inRun
    have departed : r.depart = gone := SocketRec.depart_eq r
    have retired : s.retired k cause = told := by
      have record : r.retired cause = { gone with
          state := .retired, cause := some cause, prior := none, cooldown := none, retryDue := false } := by
        rw [SocketRec.retired, departed]
      rw [State.retired, record]
      cases cause <;> rfl
    have isolated : r.isolated s.sock.cooldownTime =
        { gone with state := .isolated, cooldown := some s.sock.cooldownTime, retryDue := false } := by
      rw [SocketRec.isolated, departed]
    have slot : told.slot = s.slot := by rw [← retired, State.retired_slot]
    refine ⟨State.isolate_retires, fun h => (State.isolate_cools h).trans (congrArg (s.left k) isolated), ?_,
      fun t ht => ⟨fun h => exec_taken rfl t (handleRetireSocket_elsewhere h),
        fun h high => exec_taken rfl t (handleRetireSocket_nowhere h ((callOf_index ht).symm ▸ high)),
        fun h hk => ⟨fun final => ?_, fun open' => ?_⟩⟩⟩
    · rw [State.retire_eq, retired, State.checkRunEnd_eq, slot]
    · have closed : ¬ r.state.retirable = true := by
        rcases final with h | h | h <;> simp [h, SocketState.retirable]
      exact exec_taken rfl t (handleRetireSocket_final (s := s.heard) h ((callOf_index ht).trans hk) closed)
    · exact exec_taken rfl t (handleRetireSocket_retires (s := s.heard) h ((callOf_index ht).trans hk)
        ((SocketState.retirable_iff _).mpr open'))
  · intro s k r now
    refine ⟨rfl, exec_cooldownExpiry_stopped, fun hc hs => ⟨fun hr hz => ?_, fun wait => ?_⟩⟩
    · rw [exec_cooldownExpiry_running hc, State.cooldownExpires_retries hs ⟨hr, hz⟩]
      rfl
    · have waits : ¬ (s.slot.state = .running ∧ s.zoneRegulating k = true) := by
        rintro ⟨hr, hz⟩
        rcases wait with h | h
        · exact h hr
        · simp [hz] at h
      rw [exec_cooldownExpiry_running hc, State.cooldownExpires_marks hs waits]
      rfl

end Sys2Proof.Machine
end

section
/-! Properties kept by every step: what the messages and the line share, settled once for every property that reads
neither the link, nor the notices, nor the queue. -/

namespace Sys2Proof.Machine

/-- A property that stays when link, notices or queue change. -/
structure LinkBlind (P : State → Prop) : Prop where
  link : ∀ {s} x, P s → P (s.setLink x)
  notice : ∀ {s} x, P s → P (s.setNotice x)
  pending : ∀ {s} x, P s → P (s.setPending x)

/-- A property that the rule of every message kind keeps (11.5). -/
def RulesKeep (P : State → Prop) : Prop := ∀ k c s, P s → P (ruleOf k c s).state

/-- The line's own events (R166 to R168), and the frames without a kind. -/
def lineEvent : Instr → Bool
  | .lineCharacter _ | .lineCharacterTimeout | .replyStart | .replyComplete | .unknownKind _ _ => true
  | _ => false

theorem eq_commandOf {i : Instr} {k : Kind} {r : Request} (h : i.message = some (k, r)) : i = commandOf k r := by
  cases i <;> cases h <;> rfl

/-- A message command is its kind's rule, requested. -/
theorem exec_commandOf (k : Kind) (r : Request) (s : State) :
    exec (commandOf k r) s = .next (s.request k r (ruleOf k)) := by
  cases k <;> rfl

section Kept

variable {P : State → Prop} (blind : LinkBlind P) {s : State}

include blind

theorem LinkBlind.conclude {a : Answer} (h : P a.state) (c : Byte) (hit : FilterHit) (b : Bool) :
    P (State.conclude c hit b a) := by
  obtain ⟨l, same⟩ := State.conclude_eq a c hit b
  rw [same]
  exact blind.link l h

theorem LinkBlind.discard (h : P s) (e : LinkError) : P (s.discard e) := blind.notice _ (blind.link _ h)

/-- A valid frame is not heard, waits, is discarded or is executed (R167, R168). -/
theorem LinkBlind.arrive {run : State → State} (runs : ∀ {u}, P u → P (run u)) (h : P s) (hit : FilterHit)
    (body : List Byte) : P (s.arrive hit body run) := by
  unfold State.arrive
  split
  · exact h
  · split
    · split
      · exact blind.discard h _
      · exact blind.link _ h
    · exact runs (blind.link _ h)

variable (rules : RulesKeep P)

include rules

theorem LinkBlind.serve (h : P s) (k : Kind) (r : Request) : P (s.serve k r (ruleOf k)) := by
  refine blind.conclude ?_ _ _ _
  split
  · exact h
  · exact rules k _ _ h

theorem LinkBlind.serveBody (h : P s) (hit : FilterHit) (body : List Byte) : P (s.serveBody hit body) := by
  unfold State.serveBody
  dsimp only
  split
  · exact blind.conclude h _ _ _
  · split
    · exact blind.serve rules h _ _
    · exact blind.conclude h _ _ _

theorem LinkBlind.request (h : P s) (k : Kind) (r : Request) : P (s.request k r (ruleOf k)) :=
  blind.arrive (fun hu => blind.serve rules hu k r) h _ _

theorem LinkBlind.frameEnds (h : P s) (hit : FilterHit) (chars : List Byte) : P (s.frameEnds hit chars) := by
  unfold State.frameEnds
  split
  · exact blind.arrive (fun hu => blind.serveBody rules hu _ _) h _ _
  · exact blind.discard h _

theorem LinkBlind.assemble (h : P s) (hit : FilterHit) (soFar : List Byte) (v : Byte) :
    P (s.assemble hit soFar v) := by
  unfold State.assemble
  dsimp only
  split
  · exact blind.discard h _
  · split
    · exact blind.frameEnds rules h _ _
    · exact blind.link _ h

theorem LinkBlind.hear (h : P s) (c : LineChar) : P (s.hear c) := by
  unfold State.hear
  split
  · split
    · exact blind.link _ h
    · exact h
  · split
    · exact blind.discard h _
    · split
      · exact blind.link _ h
      · exact blind.assemble rules h _ _ _

theorem LinkBlind.replyEnds (h : P s) : P s.replyEnds := by
  unfold State.replyEnds
  dsimp only
  split
  · exact blind.link _ h
  · split
    · exact blind.serveBody rules (blind.link _ (blind.link _ h)) _ _
    · exact blind.link _ h

omit rules in
theorem LinkBlind.replyBegins (h : P s) (x : InHand) : P (s.replyBegins x) := by
  unfold State.replyBegins
  dsimp only
  split
  · exact blind.discard (blind.link _ h) _
  · exact blind.link _ h

/-- The line's events keep what the rules keep. -/
theorem LinkBlind.exec_lineEvent {i : Instr} {t : State} (hi : lineEvent i = true) (h : P s) (ht : exec i s = .next t) :
    P t := by
  cases i with
  | lineCharacter c =>
    cases ht
    split
    · exact h
    · exact blind.hear rules h c
  | lineCharacterTimeout =>
    cases ht
    split
    · split
      · exact h
      · exact blind.discard h _
    · exact h
  | replyStart =>
    cases ht
    split
    · split
      · exact h
      · exact blind.replyBegins h _
    · exact h
  | replyComplete =>
    cases ht
    split
    · exact blind.replyEnds rules h
    · exact h
  | unknownKind hit body =>
    cases ht
    exact blind.arrive (fun hu => blind.serveBody rules hu _ _) h _ _
  | _ => exact (Bool.false_ne_true hi).elim

/-- What the message rules and the part's other events keep, every step keeps. -/
theorem LinkBlind.keptByStep
    (events : ∀ i s t, i.message = none → lineEvent i = false → P s → exec i s = .next t → P t) :
    KeptByStep P := by
  intro s t h ht
  unfold step at ht
  split at ht
  · cases ht
    exact h
  · next i rest _ =>
    have hs := blind.pending rest h
    cases hm : i.message with
    | some m =>
      rw [eq_commandOf hm, exec_commandOf] at ht
      cases ht
      exact blind.request rules hs _ _
    | none =>
      cases hl : lineEvent i with
      | true => exact blind.exec_lineEvent rules hl hs ht
      | false => exact events i _ t hm hl hs ht

end Kept

end Sys2Proof.Machine
end

section
/-! What a step can do to a socket: every change of a supervision record that a command makes is one of a few moves, and
a law of records that the moves keep is kept by every step. -/

namespace Sys2Proof.Machine

/-! ### The moves -/

/-- A socket as its laws see it: its record, whether the slot is in ARMING or RUNNING, and the retry limit in force. -/
structure SocketView where
  inRun : Bool
  limit : Nat
  record : SocketRec

def State.view (s : State) (k : Fin 48) : SocketView :=
  ⟨s.slot.state.inRun, s.sock.retryLimit, s.sock.sockets.get k⟩

/-- The moves of a socket, each where the rules make it. -/
inductive SocketMove : SocketView → SocketView → Prop
  /-- R57, R61, R69: what leaves state, switch and counters alone -/
  | mark (b : Bool) (l : Nat) (r : SocketRec) (sample : Nat) (history : Bank Nat 16) (blanking cooldown : Timer)
      (due : Bool) : SocketMove ⟨b, l, r⟩
        ⟨b, l, { r with
          sample := sample, history := history, blanking := blanking, cooldown := cooldown, retryDue := due }⟩
  /-- R64 -/
  | count (b : Bool) (l : Nat) (r : SocketRec) (c : Nat) (h : c ≤ max 255 r.faultCounter) :
      SocketMove ⟨b, l, r⟩ ⟨b, l, { r with faultCounter := c }⟩
  /-- R63 -/
  | hardTrip (b : Bool) (l : Nat) (r : SocketRec) :
      SocketMove ⟨b, l, r⟩ ⟨b, l, { r with faultCounter := 255, hardTrips := satInc 255 r.hardTrips }⟩
  /-- R66 -/
  | softTrip (b : Bool) (l : Nat) (r : SocketRec) :
      SocketMove ⟨b, l, r⟩ ⟨b, l, { r with softTrips := satInc 255 r.softTrips }⟩
  /-- R65 -/
  | warn (b : Bool) (l : Nat) (r : SocketRec) (x : SocketState) (before : r.state.powered = true)
      (after : x.powered = true) : SocketMove ⟨b, l, r⟩ ⟨b, l, { r with state := x }⟩
  /-- R67 -/
  | isolate (b : Bool) (l : Nat) (r : SocketRec) (cooldown : Nat) (powered : r.state.powered = true)
      (h : r.retries ≠ l) : SocketMove ⟨b, l, r⟩ ⟨b, l, r.isolated cooldown⟩
  /-- R68 -/
  | retire (b : Bool) (l : Nat) (r : SocketRec) (cause : RetireCause) :
      SocketMove ⟨b, l, r⟩ ⟨b, l, r.retired cause⟩
  /-- R75 -/
  | complete (b : Bool) (l : Nat) (r : SocketRec) :
      SocketMove ⟨b, l, r⟩ ⟨b, l, { r.depart with state := .completed }⟩
  /-- R72 -/
  | holdOff (b : Bool) (l : Nat) (r : SocketRec) (powered : r.state.powered = true) :
      SocketMove ⟨b, l, r⟩ ⟨b, l, { r.depart with state := .heldOff, prior := r.state.asPrior }⟩
  /-- R48 -/
  | switchOn (l : Nat) (r : SocketRec) (off : r.state = .off) :
      SocketMove ⟨true, l, r⟩ ⟨true, l, { r.closeSwitch with state := .active }⟩
  /-- R48 -/
  | stayOff (l : Nat) (r : SocketRec) (off : r.state = .off) :
      SocketMove ⟨true, l, r⟩ ⟨true, l, { r with state := .heldOff, prior := some .active }⟩
  /-- R73 -/
  | release (l : Nat) (r : SocketRec) (heldOff : r.state = .heldOff) :
      SocketMove ⟨true, l, r⟩ ⟨true, l, r.release⟩
  /-- R71 -/
  | retry (l : Nat) (r : SocketRec) (isolated : r.state = .isolated) :
      SocketMove ⟨true, l, r⟩ ⟨true, l, r.retry⟩
  /-- R77 -/
  | endRun (b : Bool) (l : Nat) (r : SocketRec) : SocketMove ⟨b, l, r⟩ ⟨false, l, r.endRun⟩
  /-- R60, R148 -/
  | renew (l l' : Nat) (r : SocketRec) (populated : Bool) :
      SocketMove ⟨false, l, r⟩ ⟨true, l', r.clearRun.renew populated⟩
  /-- R60, R149 -/
  | carryOn (l l' : Nat) (r : SocketRec) (reached : Bool) :
      SocketMove ⟨false, l, r⟩ ⟨true, l', r.clearRun.carryOn reached l'⟩
  /-- R24 -/
  | reset (v : SocketView) : SocketMove v ⟨false, 0, SocketRec.atReset⟩
  /-- R59 -/
  | restart (v : SocketView) : SocketMove v ⟨false, 0, v.record.afterRestart⟩

/-- From one state to a later one every socket goes by moves. -/
def State.SocketsMove (s t : State) : Prop := ∀ k, Relation.ReflTransGen SocketMove (s.view k) (t.view k)

section Moves

variable {s t u : State}

theorem State.SocketsMove.trans (h : s.SocketsMove t) (h' : t.SocketsMove u) : s.SocketsMove u :=
  fun k => (h k).trans (h' k)

theorem State.SocketsMove.of_moves (h : ∀ k, SocketMove (s.view k) (t.view k)) : s.SocketsMove t :=
  fun k => .single (h k)

/-- What leaves supervisor and slot state alone moves no socket. -/
theorem State.SocketsMove.still (slot : t.slot.state.inRun = s.slot.state.inRun := by rfl)
    (sock : t.sock = s.sock := by rfl) : s.SocketsMove t := by
  intro k
  have same : t.view k = s.view k := by simp [State.view, slot, sock]
  rw [same]

theorem State.SocketsMove.refl (s : State) : s.SocketsMove s := .still

/-- One socket's record replaced. -/
theorem State.SocketsMove.put (k : Fin 48) {r : SocketRec} (slot : t.slot.state.inRun = s.slot.state.inRun)
    (sock : t.sock = (s.putSocket k r).sock)
    (h : Relation.ReflTransGen SocketMove (s.view k) ⟨s.slot.state.inRun, s.sock.retryLimit, r⟩) :
    s.SocketsMove t := by
  intro j
  by_cases hj : k = j
  · subst hj
    have placed : t.view k = ⟨s.slot.state.inRun, s.sock.retryLimit, r⟩ := by
      simp [State.view, slot, sock, State.putSocket]
    rw [placed]
    exact h
  · have same : t.view j = s.view j := by simp [State.view, slot, sock, State.putSocket, Bank.get_set_ne _ _ hj]
    rw [same]

theorem State.SocketsMove.foldl {α : Type} {f : State → α → State}
    (h : ∀ (t : State) a, t.SocketsMove (f t a)) (l : List α) (s : State) : s.SocketsMove (l.foldl f s) := by
  induction l generalizing s with
  | nil => exact .refl s
  | cons a rest ih => exact (h s a).trans (ih _)

end Moves

/-! ### The shared operations -/

section Operations

variable (s : State) (k : Fin 48)

theorem State.enterDraining_moves (c : EndCause) : s.SocketsMove (s.enterDraining c) := by
  refine .of_moves fun k => ?_
  have ended : (s.enterDraining c).view k = ⟨false, s.sock.retryLimit, (s.sock.sockets.get k).endRun⟩ := by
    simp [State.view, SlotState.inRun]
  rw [ended]
  exact .endRun _ _ _

theorem State.enterSafe_moves (c : EndCause) (f : FailureKind) (n : Fin 12) (x : Source) :
    s.SocketsMove (s.enterSafe c f n x) := by
  refine .of_moves fun k => ?_
  have ended : (s.enterSafe c f n x).view k = ⟨false, s.sock.retryLimit, (s.sock.sockets.get k).endRun⟩ := by
    simp [State.view, SlotState.inRun]
  rw [ended]
  exact .endRun _ _ _

theorem State.checkRunEnd_moves : s.SocketsMove s.checkRunEnd := by
  unfold State.checkRunEnd
  split
  · exact s.enterDraining_moves _
  · exact .refl s

@[simp] theorem State.left_slot (r : SocketRec) : (s.left k r).slot = s.slot := rfl

@[simp] theorem State.left_sock (r : SocketRec) : (s.left k r).sock = (s.putSocket k r).sock := rfl

theorem State.retire_moves (cause : RetireCause) : s.SocketsMove (s.retire k cause) := by
  rw [State.retire_eq]
  refine .trans ?_ (State.checkRunEnd_moves _)
  exact .put k (by simp) (by simp [State.retired]) (.single (.retire _ _ _ cause))

theorem State.complete_moves : s.SocketsMove (s.complete k) := by
  unfold State.complete
  dsimp only
  rw [State.depart_modSocket]
  refine .trans ?_ (State.checkRunEnd_moves _)
  exact .put k rfl rfl (.single (.complete _ _ _))

/-- R67: only a powered socket is isolated. -/
theorem State.isolate_moves (h : (s.sock.sockets.get k).state.powered = true) : s.SocketsMove (s.isolate k) := by
  by_cases hr : (s.sock.sockets.get k).retries = s.sock.retryLimit
  · rw [State.isolate_retires hr]
    exact s.retire_moves k _
  · rw [State.isolate_cools hr]
    exact .put k rfl rfl (.single (.isolate _ _ _ _ h hr))

theorem State.holdOff_moves (z : Fin 6) : s.SocketsMove (s.holdOff z) := by
  unfold State.holdOff
  refine .foldl (fun t k => ?_) _ _
  dsimp only
  split
  · next h =>
    rw [State.depart_modSocket]
    exact .put k rfl rfl (.single (.holdOff _ _ _ (Bool.and_eq_true _ _ ▸ h).2))
  · exact .refl t

theorem State.releaseZone_moves (z : Fin 6) : s.SocketsMove (s.releaseZone z) := by
  unfold State.releaseZone
  split
  · next live =>
    intro k
    simp only [State.view, State.setSock_slot, State.setSock_sock, Bank.get_ofFn, live]
    split
    · split
      · next h => exact .single (.release _ _ h)
      · split
        · next h =>
          simp only [SocketRec.due, Bool.and_eq_true, beq_iff_eq] at h
          exact .single (.retry _ _ h.1.1)
        · rfl
    · rfl
  · exact .refl s

theorem State.switchOn_moves (live : s.slot.state.inRun = true) : s.SocketsMove s.switchOn := by
  intro k
  simp only [State.switchOn, State.view, State.setSock_slot, State.setSock_sock, Bank.get_ofFn, live]
  split
  · next off =>
    split
    · exact .single (.stayOff _ _ off)
    · exact .single (.switchOn _ _ off)
  · rfl

theorem State.armingTest_moves : s.SocketsMove s.armingTest := by
  unfold State.armingTest
  split
  · next h =>
    rw [State.enterRunning_eq]
    have underway : s.SocketsMove s.underway := by
      intro k
      have entered : s.underway.view k = ⟨true, s.sock.retryLimit, s.underway.sock.sockets.get k⟩ := by
        simp [State.view, State.underway, State.running, SlotState.inRun, State.retryDue]
      have before : s.view k = ⟨true, s.sock.retryLimit, s.sock.sockets.get k⟩ := by
        simp [State.view, h.1, SlotState.inRun]
      rw [entered, before, State.underway_get]
      split
      · next due => exact .single (.retry _ _ due.1)
      · rfl
    split
    · exact underway.trans (State.enterDraining_moves _ _)
    · exact underway
  · exact .refl s

theorem State.railFault_moves (r : Fin 4) (mv : Nat) : s.SocketsMove (s.railFault r mv) := by
  unfold State.railFault
  dsimp only
  split
  · exact .trans (.still (by simp) (by simp)) (State.enterDraining_moves _ _)
  · exact .still (by simp) (by simp)

end Operations

end Sys2Proof.Machine
end

section
/-! The sockets in every event and in every message rule, and the laws that their moves keep: the retries' bundle. -/

namespace Sys2Proof.Machine

-- One proof at a time: a proof per thread, each with its own stack, would pass the memory limit of the check.
set_option Elab.async false

/-! ### The supervisor's events (R61 to R71) -/

section Supervisor

variable (s : State) (k : Fin 48) (v : Nat)

theorem State.hardTrip_moves (h : (s.sock.sockets.get k).state.powered = true) : s.SocketsMove (s.hardTrip k v) := by
  unfold State.hardTrip
  refine .trans (.put k (by simp) (by simp [State.modSocket_eq]) (.single (.hardTrip _ _ _)))
    (State.isolate_moves _ _ ?_)
  simp [h]

theorem State.softTrip_moves (h : (s.sock.sockets.get k).state.powered = true) : s.SocketsMove (s.softTrip k v) := by
  unfold State.softTrip
  refine .trans (.put k (by simp) (by simp [State.modSocket_eq]) (.single (.softTrip _ _ _)))
    (State.isolate_moves _ _ ?_)
  simp [h]

theorem moveCounter_le (counter soft : Nat) : moveCounter counter v soft ≤ max 255 counter := by
  unfold moveCounter
  split <;> omega

theorem State.warnStage_moves : s.SocketsMove (s.warnStage k) := by
  unfold State.warnStage
  dsimp only
  split
  · next active =>
    split
    · refine .put k rfl rfl (.single (.warn _ _ _ .warned ?_ rfl))
      simp [active, SocketState.powered]
    · exact .refl s
  · next warned =>
    split
    · refine .put k rfl rfl (.single (.warn _ _ _ .active ?_ rfl))
      simp [warned, SocketState.powered]
    · exact .refl s
  · exact .refl s

theorem State.tripStage_moves : s.SocketsMove (s.tripStage k v) := by
  unfold State.tripStage
  dsimp only
  split
  · next h => exact s.softTrip_moves k v (by simp [h.1, SocketState.powered])
  · exact .refl s

theorem State.judgeSample_moves (w : Wire) (h : (s.sock.sockets.get k).state.powered = true) :
    s.SocketsMove (s.judgeSample k v w) := by
  unfold State.judgeSample
  dsimp only
  split
  · exact s.hardTrip_moves k v h
  · refine .trans (.trans ?_ (State.warnStage_moves _ k)) (State.tripStage_moves _ k v)
    exact .put k rfl rfl (.single (.count _ _ _ _ (moveCounter_le _ _ _)))

theorem State.socketSampled_moves (ma : Nat) : s.SocketsMove (s.socketSampled k ma) := by
  have sampled (f : SocketRec → SocketRec) (hf : ∀ r, f r = r.sampled (min 4000 ma)) :
      s.SocketsMove (s.modSocket k f) := by
    rw [State.modSocket_eq, hf]
    exact .put k rfl rfl (.single (.mark _ _ _ _ _ _ _ _))
  unfold State.socketSampled
  dsimp only
  split
  · next judged =>
    split
    · refine (sampled _ fun _ => rfl).trans (State.judgeSample_moves _ _ _ _ ?_)
      rw [SocketRec.judged, Bool.and_eq_true] at judged
      simpa [SocketRec.sampled] using judged.1
    · exact sampled _ fun _ => rfl
  · exact sampled _ fun _ => rfl

theorem State.cooldownExpires_moves : s.SocketsMove (s.cooldownExpires k) := by
  by_cases h : (s.sock.sockets.get k).state = .isolated
  · by_cases now : s.slot.state = .running ∧ s.zoneRegulating k = true
    · rw [State.cooldownExpires_retries h now]
      refine .put k rfl rfl ?_
      have live : s.slot.state.inRun = true := by simp [now.1, SlotState.inRun]
      rw [State.view, live]
      exact .tail (.single (.mark _ _ _ _ _ _ none _)) (.retry _ _ h)
    · rw [State.cooldownExpires_marks h now]
      exact .put k rfl rfl (.single (.mark _ _ _ _ _ _ none true))
  · rw [State.cooldownExpires, if_neg h]
    exact .put k rfl rfl (.single (.mark _ _ _ _ _ _ none _))

end Supervisor

/-! ### Rails, zones, credit and play -/

section Events

variable (s : State)

theorem State.sequenceStep_moves (r : Fin 4) : s.SocketsMove (s.sequenceStep r) := by
  unfold State.sequenceStep
  split
  · next arming =>
    split
    · exact .still
    · split
      · exact .trans .still (State.switchOn_moves _ (by simp [arming, SlotState.inRun]))
      · exact .refl s
  · exact .refl s

theorem State.judgeRegulated_moves (r : Fin 4) : s.SocketsMove (s.judgeRegulated r) := by
  unfold State.judgeRegulated
  dsimp only
  split
  · exact .still
  · split
    · refine .trans ?_ (State.railFault_moves _ _ _)
      split <;> exact .still
    · split <;> exact .still

theorem State.judgeRail_moves (r : Fin 4) : s.SocketsMove (s.judgeRail r) := by
  unfold State.judgeRail
  dsimp only
  split
  · exact .refl s
  · exact .refl s
  · split
    · exact .trans .still ((State.sequenceStep_moves _ _).trans (State.armingTest_moves _))
    · exact .still
  · split
    · exact .still
    · exact .trans .still (State.judgeRegulated_moves _ _)

theorem State.railSampled_moves (readings : Bank RailReading 4) : s.SocketsMove (s.railSampled readings) := by
  unfold State.railSampled
  refine .trans .still (.foldl (fun t r => ?_) _ _)
  split
  · exact .refl t
  · exact t.judgeRail_moves r

theorem State.settleExpires_moves (r : Fin 4) : s.SocketsMove (s.settleExpires r) := by
  unfold State.settleExpires
  dsimp only
  split
  · exact s.railFault_moves _ _
  · exact .still

theorem State.modZone_moves (z : Fin 6) (f : ZoneRec → ZoneRec) : s.SocketsMove (s.modZone z f) := .still

theorem State.sensorFails_moves (z : Fin 6) : s.SocketsMove (s.sensorFails z) := by
  unfold State.sensorFails
  dsimp only
  split
  · exact .trans (.still (by simp) (by simp)) (State.holdOff_moves _ _)
  · exact .still (by simp) (by simp)

theorem State.zoneTrips_moves (z : Fin 6) (t : Int) : s.SocketsMove (s.zoneTrips z t) := by
  unfold State.zoneTrips
  dsimp only
  split
  · exact .trans (.still (by simp) (by simp)) (State.holdOff_moves _ _)
  · exact .still (by simp) (by simp)

theorem State.zoneReturns_moves (z : Fin 6) (t : Int) (c : ZoneCapture) : s.SocketsMove (s.zoneReturns z t c) := by
  unfold State.zoneReturns
  exact .trans (.trans (State.modZone_moves _ z _) (State.releaseZone_moves _ z)) (State.modZone_moves _ z _)

theorem State.classifyInvalid_moves (z : Fin 6) : s.SocketsMove (s.classifyInvalid z) := by
  unfold State.classifyInvalid
  dsimp only
  split
  · split
    · exact s.sensorFails_moves z
    · exact .still
  · split
    · exact s.sensorFails_moves z
    · exact .still
  · exact .refl s

theorem State.classifyValid_moves (z : Fin 6) (t : Int) (c : ZoneCapture) (b : ZoneBoard) :
    s.SocketsMove (s.classifyValid z t c b) := by
  unfold State.classifyValid
  split
  · split
    · exact s.zoneTrips_moves z t
    · exact .still
  · split
    · exact s.zoneReturns_moves z t c
    · exact .refl s
  · split
    · exact s.zoneTrips_moves z t
    · exact s.zoneReturns_moves z t c
  · exact .refl s

theorem State.classify_moves (z : Fin 6) (code : Nat) (c : ZoneCapture) (board : Option ZoneBoard) :
    s.SocketsMove (s.classify z code c board) := by
  unfold State.classify
  split
  · exact s.classifyInvalid_moves z
  · split
    · exact s.classifyValid_moves z _ _ _
    · exact .still

theorem State.zoneStep_moves (cap : PassCapture) (code : Nat) (computing : Bool) (z : Fin 6) :
    s.SocketsMove (s.zoneStep cap code computing z) := by
  unfold State.zoneStep
  dsimp only
  split
  · exact .trans .still (State.classify_moves _ z _ _ _)
  · exact .still

theorem State.controlStep_moves (cap : PassCapture) (computing : Bool) (z : Fin 6) :
    s.SocketsMove (s.controlStep cap computing z) := by
  unfold State.controlStep
  split <;> exact .still

theorem State.grantStage_moves (cap : PassCapture) : s.SocketsMove (s.grantStage cap) := by
  unfold State.grantStage
  dsimp only
  split <;> exact .still

theorem State.holdStage_moves (cap : PassCapture) : s.SocketsMove (s.holdStage cap) := by
  unfold State.holdStage State.setBudgetRec
  dsimp only
  split
  · split <;> exact .still (by simp) (by simp)
  · split <;> exact .still (by simp) (by simp)

theorem State.passCompletes_moves (cap : PassCapture) (codes : Bank Nat 6) :
    s.SocketsMove (s.passCompletes cap codes) := by
  have read := State.SocketsMove.foldl
    (fun t z => t.zoneStep_moves cap (codes.get z) (s.computing cap z) z) (List.finRange 6)
    (s.setTherm { s.therm with pass := none })
  have controlled := State.SocketsMove.foldl
    (fun t z => t.controlStep_moves cap (s.computing cap z) z) (List.finRange 6)
  unfold State.passCompletes
  refine .trans (.trans .still (read.trans (controlled _))) (.trans ?_ (State.armingTest_moves _))
  split
  · exact (State.grantStage_moves _ _).trans (State.holdStage_moves _ _)
  · exact .refl _

theorem State.advanceSeconds_moves : s.SocketsMove s.advanceSeconds := by
  unfold State.advanceSeconds
  dsimp only
  split <;> exact .still

theorem State.completeAll_moves (credited : Fin 48 → Bool) : s.SocketsMove (s.completeAll credited) := by
  refine .foldl (fun t k => ?_) _ _
  split
  · exact t.complete_moves k
  · exact .refl t

theorem State.nextInterval_moves : s.SocketsMove s.nextInterval := by
  unfold State.nextInterval
  split
  · split
    · exact s.enterDraining_moves _
    · exact .still
  · exact .refl s

theorem State.creditExpires_moves : s.SocketsMove s.creditExpires := by
  unfold State.creditExpires
  exact .trans (s.advanceSeconds_moves.trans (.trans .still (State.completeAll_moves _ _))) (State.nextInterval_moves _)

theorem State.judgeSocket_moves (k : Fin 48) : s.SocketsMove (s.judgeSocket k) := by
  have logged : ∀ t : State, t.SocketsMove (t.logFunctional k) := by
    intro t
    unfold State.logFunctional
    dsimp only
    split <;> exact .still (by simp) (by simp)
  unfold State.judgeSocket
  dsimp only
  split
  · split
    · exact .trans .still (logged _)
    · exact .trans .still ((logged _).trans (State.retire_moves _ k _))
  · exact .refl s

theorem State.streamEnd_moves (f : FrameDesc) : s.SocketsMove (s.streamEnd f) := by
  unfold State.streamEnd
  split <;> exact .still (by simp) (by simp)

theorem State.loopEnd_moves (f : FrameDesc) : s.SocketsMove (s.loopEnd f) := by
  unfold State.loopEnd
  dsimp only
  split <;> exact .still (by simp) (by simp)

theorem State.tailEnd_moves (f : FrameDesc) : s.SocketsMove (s.tailEnd f) := by
  unfold State.tailEnd
  split
  · exact .still (by simp) (by simp)
  · split <;> exact .still

theorem State.storePassEnd_moves (wasTail : Bool) : s.SocketsMove (s.storePassEnd wasTail) := by
  unfold State.storePassEnd
  split
  · exact .refl s
  · next f _ =>
    split
    · split
      · exact .refl s
      · split
        · split
          · exact s.streamEnd_moves f
          · exact s.loopEnd_moves f
        · exact .still
    · exact s.tailEnd_moves f
    · exact .refl s

theorem State.passEnd_moves (checked wasTail : Bool) : s.SocketsMove (s.passEnd checked wasTail) := by
  have judged : s.SocketsMove (if checked then s.judgePass else s) := by
    split
    · exact .foldl (fun t k => t.judgeSocket_moves k) _ _
    · exact .refl s
  have cleared : ∀ t : State, t.SocketsMove (if checked then t.setExer t.exer.clearWindows else t).applyStaged := by
    intro t
    split <;> exact .still (by simp) (by simp)
  refine judged.trans ?_
  unfold State.passEnd
  generalize (if checked = true then s.judgePass else s) = t
  dsimp only
  split
  · exact .trans ((cleared t).trans (State.storePassEnd_moves _ wasTail)) .still
  · exact .refl t

theorem State.vectorFollows_moves : s.SocketsMove s.vectorFollows := by
  unfold State.vectorFollows
  split
  · exact .still
  · split
    · exact .still
    · split
      · exact .still
      · exact .still (by simp) (by simp)

theorem State.vectorEnds_moves : s.SocketsMove s.vectorEnds := by
  have applied : s.SocketsMove (s.setExer s.exer.advanceClocks).applyBoundary := .still (by simp) (by simp)
  have followed : ∀ t : State, t.SocketsMove (if t.exer.state.isPlaying then t.vectorFollows else t) := by
    intro t
    split
    · exact t.vectorFollows_moves
    · exact .refl t
  refine applied.trans ?_
  unfold State.vectorEnds
  generalize (s.setExer s.exer.advanceClocks).applyBoundary = t
  dsimp only
  split
  · refine .trans ?_ (followed _)
    split
    · exact t.passEnd_moves _ _
    · exact .still
  · exact .refl t

theorem State.strobes_moves (lines : BitVec 48) : s.SocketsMove (s.strobes lines) := by
  unfold State.strobes
  (repeat' split) <;> exact .still

/-! ### The slot state machine and the resets -/

/-- Outside a run the slot moves without its sockets. -/
theorem State.moveTo_moves (x : SlotState) (before : s.slot.state.inRun = false) (after : x.inRun = false) :
    s.SocketsMove (s.moveTo x) :=
  .still (by simp [before, after]) rfl

theorem SlotRec.contactsChange_state (r : SlotRec) (a b : Bool) : (r.contactsChange a b).state = r.state := by
  unfold SlotRec.contactsChange
  (repeat' split) <;> rfl

theorem State.enterIdentifying_moves (before : s.slot.state.inRun = false) : s.SocketsMove s.enterIdentifying :=
  .still (by rw [before]; rfl) rfl

theorem SlotState.inRun_of_not_live {x : SlotState} (h : ¬ x.live = true) : x.inRun = false := by
  cases x <;> simp [SlotState.live, SlotState.inRun] at h ⊢

theorem State.unseat_moves : s.SocketsMove s.unseat := by
  unfold State.unseat
  dsimp only
  split
  · exact .trans .still (State.enterSafe_moves _ _ _ _ _)
  · next idle =>
    have before : s.slot.state.inRun = false := SlotState.inRun_of_not_live idle
    split
    · exact .trans .still (State.moveTo_moves _ _ before rfl)
    · exact .trans .still (State.moveTo_moves _ _ before rfl)
    · exact .trans .still (State.moveTo_moves _ _ before rfl)
    · exact .still

theorem State.seatFound_moves : s.SocketsMove s.seatFound := by
  unfold State.seatFound
  dsimp only
  split
  · next empty =>
    exact .trans .still (State.enterIdentifying_moves _ (by simp [empty, SlotState.inRun]))
  · exact .still

theorem State.chainOpens_moves : s.SocketsMove s.chainOpens := by
  unfold State.chainOpens
  dsimp only
  split
  · exact .trans .still (State.enterSafe_moves _ _ _ _ _)
  · exact .still

theorem State.silenceExpires_moves : s.SocketsMove s.silenceExpires := by
  unfold State.silenceExpires
  dsimp only
  split
  · exact .trans .still (State.enterSafe_moves _ _ _ _ _)
  · exact .still

theorem State.attempting_inRun {s : State} (h : s.attempting = true) : s.slot.state.inRun = false := by
  simp only [State.attempting, Bool.and_eq_true, beq_iff_eq] at h
  simp [h.2, SlotState.inRun]

theorem State.attemptFails_moves (h : s.attempting = true) : s.SocketsMove s.attemptFails := by
  unfold State.attemptFails
  split
  · exact .still
  · exact .trans .still (State.moveTo_moves _ _ (State.attempting_inRun (s := s) h) rfl)

theorem State.attemptEnds_moves (h : s.attempting = true) (read : BusRead) : s.SocketsMove (s.attemptEnds read) := by
  unfold State.attemptEnds
  split
  · exact s.attemptFails_moves h
  · split
    · exact .trans .still (State.moveTo_moves _ _ (State.attempting_inRun (s := s) h) rfl)
    · exact s.attemptFails_moves h

theorem State.drainEnds_moves (h : s.slot.state = .draining) : s.SocketsMove s.drainEnds := by
  refine .trans .still (State.moveTo_moves _ _ (by simp [h, SlotState.inRun]) ?_)
  split <;> rfl

theorem State.fullReset_moves (straps : Straps) (cause : RestartCause) : s.SocketsMove (s.fullReset straps cause) := by
  refine .of_moves fun k => ?_
  have reset : (s.fullReset straps cause).view k = ⟨false, 0, SocketRec.atReset⟩ :=
    congrArg (SocketView.mk false 0) (Bank.get_replicate _ k)
  rw [reset]
  exact .reset _

theorem State.restartReset_moves (straps : Straps) : s.SocketsMove (s.restartReset straps) := by
  refine .of_moves fun k => ?_
  have restarted : (s.restartReset straps).view k = ⟨false, 0, (s.sock.sockets.get k).afterRestart⟩ :=
    congrArg (SocketView.mk false 0) (Bank.get_map _ _ k)
  rw [restarted]
  exact .restart _

end Events

/-! ### The message rules (11.5) -/

section Rules

variable (c : Call) (s : State)

@[simp] theorem State.ok_state : s.ok.state = s := rfl

@[simp] theorem State.report_state (data : List Byte) : (s.report data).state = s := rfl

@[simp] theorem State.stored_state (clamped : Bool) : (s.stored clamped).state = s := rfl

@[simp] theorem State.refuse_state (r : Result) (detail : Nat) : (s.refuse r detail).state = s := rfl

theorem handleRelease_moves : s.SocketsMove (handleRelease c s).state := by
  unfold handleRelease
  split
  · next hold =>
    exact .trans .still (State.moveTo_moves _ _ (by rw [State.setSlot_slot, SlotRec.watchMake_eq, hold]; rfl) rfl)
  · exact .refl s

theorem handleReidentify_moves : s.SocketsMove (handleReidentify c s).state := by
  unfold handleReidentify
  split
  · next h => exact s.enterIdentifying_moves (by rw [h]; rfl)
  · next h => exact s.enterIdentifying_moves (by rw [h]; rfl)
  · exact .refl s

theorem State.startRun_moves (choice : StartChoice) (g : General) (d : Identity) (ready : s.slot.state = .ready) :
    s.SocketsMove (s.startRun choice g d) := by
  refine .of_moves fun k => ?_
  have limit : (s.startRun choice g d).sock.retryLimit = g.retryLimit := by
    rw [State.startRun_sock, ((s.copied g d).setAccounts_copies choice d).1]
    rfl
  have before : s.view k = ⟨false, s.sock.retryLimit, s.sock.sockets.get k⟩ := by rw [State.view, ready]; rfl
  have begun : (s.startRun choice g d).view k =
      ⟨true, g.retryLimit, (s.startRun choice g d).sock.sockets.get k⟩ := by
    rw [State.view, State.startRun_slot, limit]
    rfl
  rw [before, begun]
  match choice with
  | .new =>
    rw [State.startNew_socket]
    exact .renew _ _ _ _
  | .continue =>
    rw [State.startContinue_socket]
    exact .carryOn _ _ _ _

theorem handleStart_moves : s.SocketsMove (handleStart c s).state := by
  have tried : ∀ choice, s.slot.state = .ready → s.SocketsMove (s.tryStart choice).state := by
    intro choice ready
    unfold State.tryStart
    split
    · exact .refl s
    · split
      · exact .refl s
      · split
        · exact .refl s
        · exact .refl s
        · split
          · exact .refl s
          · exact s.startRun_moves _ _ _ ready
  unfold handleStart
  split
  · exact .refl s
  · split
    · next ready => exact tried _ ready
    · exact .refl s
    · exact .refl s

theorem handleGo_moves : s.SocketsMove (handleGo c s).state := by
  unfold handleGo
  split
  · exact .trans .still (State.armingTest_moves _)
  · exact .refl s
  · exact .refl s
  · exact .refl s

theorem handleStop_moves : s.SocketsMove (handleStop c s).state := by
  unfold handleStop
  split
  · exact s.enterDraining_moves _
  · exact s.enterDraining_moves _
  · exact .refl s
  · exact .refl s

theorem handleClearSafe_moves : s.SocketsMove (handleClearSafe c s).state := by
  unfold handleClearSafe
  split
  · next safe =>
    have before : s.slot.state.inRun = false := by rw [safe]; rfl
    split
    · exact .refl s
    · change s.SocketsMove s.clearSafe
      unfold State.clearSafe
      split
      · split
        · exact s.moveTo_moves _ before rfl
        · exact s.enterIdentifying_moves before
      · exact .trans .still (State.moveTo_moves _ _ before rfl)
  · exact .refl s
  · exact .refl s

theorem handleRetireSocket_moves : s.SocketsMove (handleRetireSocket c s).state := by
  unfold handleRetireSocket
  split
  · split
    · split
      · exact s.retire_moves _ _
      · exact .refl s
    · exact .refl s
  · exact .refl s

theorem State.setPaused_moves (p : Bool) : s.SocketsMove (s.setPaused p) :=
  .still (by simp [State.setPaused]) (by simp [State.setPaused])

theorem State.deliver_moves (f : FrameDesc) (start : Nat) (vectors : List StimVector) :
    s.SocketsMove (s.deliver f start vectors) := by
  unfold State.deliver State.frameReady
  dsimp only
  split
  · split <;> exact .still (by simp) (by simp)
  · exact .still

theorem State.startPlay_moves : s.SocketsMove s.startPlay := by
  unfold State.startPlay State.restartPlay
  split
  · exact .still
  · split <;> exact .still (by simp) (by simp)
  all_goals exact .refl s

theorem State.stopPlay_moves : s.SocketsMove s.stopPlay := by
  unfold State.stopPlay
  split <;> exact .still

theorem handlePause_moves : s.SocketsMove (handlePause c s).state := by
  unfold handlePause
  split
  · rw [State.ok_state]
    split
    · exact .refl s
    · exact s.setPaused_moves true
  · exact .refl s

theorem handleResume_moves : s.SocketsMove (handleResume c s).state := by
  unfold handleResume
  split
  · rw [State.ok_state]
    split
    · exact s.setPaused_moves false
    · exact .refl s
  · exact .refl s

theorem handleExerciseStart_moves : s.SocketsMove (handleExerciseStart c s).state := by
  unfold handleExerciseStart
  split
  · rw [State.ok_state]
    split
    · exact s.startPlay_moves
    · exact .refl s
  · exact .refl s

theorem handleExerciseStop_moves : s.SocketsMove (handleExerciseStop c s).state := by
  unfold handleExerciseStop
  split
  · rw [State.ok_state]
    split
    · exact s.stopPlay_moves
    · exact .refl s
  · exact .refl s

theorem handleFrameData_moves : s.SocketsMove (handleFrameData c s).state := by
  unfold handleFrameData
  dsimp only
  split
  · exact .refl s
  · split
    · exact .refl s
    · exact s.deliver_moves _ _ _

theorem State.retargetRail_moves (r : Fin 4) (x : RailSection) (mv : Nat) :
    s.SocketsMove (s.retargetRail r x mv) := by
  unfold State.retargetRail
  dsimp only
  split <;> exact .still

theorem handleSetRail_moves : s.SocketsMove (handleSetRail c s).state := by
  unfold handleSetRail
  split
  · split
    · exact .refl s
    · split
      · exact .refl s
      · dsimp only
        split
        · exact s.retargetRail_moves _ _ _
        · exact .refl s
  · exact .refl s

/-- No message rule moves a socket otherwise than by the moves. -/
theorem ruleOf_moves (k : Kind) : s.SocketsMove (ruleOf k c s).state := by
  cases k with
  | release => exact handleRelease_moves c s
  | reidentify => exact handleReidentify_moves c s
  | start => exact handleStart_moves c s
  | go => exact handleGo_moves c s
  | stop => exact handleStop_moves c s
  | pause => exact handlePause_moves c s
  | resume => exact handleResume_moves c s
  | clearSafe => exact handleClearSafe_moves c s
  | retireSocket => exact handleRetireSocket_moves c s
  | frameData => exact handleFrameData_moves c s
  | exerciseStart => exact handleExerciseStart_moves c s
  | exerciseStop => exact handleExerciseStop_moves c s
  | ping | status | restart | readZones | readRails => exact .still
  | purgeFrames => exact .still (by simp [ruleOf, handlePurgeFrames]) (by simp [ruleOf, handlePurgeFrames])
  | setLink =>
    simp only [ruleOf, handleSetLink]
    split <;> exact .still
  | setClass =>
    simp only [ruleOf, handleSetClass]
    split <;> split <;> exact .still
  | ackClasses =>
    simp only [ruleOf, handleAckClasses]
    split <;> exact .still
  | readUnanswered =>
    simp only [ruleOf, handleReadUnanswered]
    split <;> exact .still
  | linkStats =>
    simp only [ruleOf, handleLinkStats]
    split
    · split <;> exact .still
    · exact .still
  | readIdentity =>
    simp only [ruleOf, handleReadIdentity]
    (repeat' split) <;> exact .still
  | loadRecipe =>
    simp only [ruleOf, handleLoadRecipe]
    (repeat' split) <;> exact .still
  | readRecipe =>
    simp only [ruleOf, handleReadRecipe]
    (repeat' split) <;> exact .still
  | setZone =>
    simp only [ruleOf, handleSetZone]
    (repeat' split) <;> exact .still
  | setRail => exact handleSetRail_moves c s
  | setBudget =>
    simp only [ruleOf, handleSetBudget]
    (repeat' split) <;> exact .still
  | setTiming =>
    simp only [ruleOf, handleSetTiming]
    (repeat' split) <;> exact .still (by simp) (by simp)
  | setChannel =>
    simp only [ruleOf, handleSetChannel]
    (repeat' split) <;> exact .still (by simp) (by simp)
  | setPlay =>
    simp only [ruleOf, handleSetPlay]
    (repeat' split) <;> exact .still (by simp) (by simp)
  | frameOpen =>
    simp only [ruleOf, handleFrameOpen]
    (repeat' split) <;> exact .still
  | frameCancel =>
    simp only [ruleOf, handleFrameCancel]
    (repeat' split) <;> exact .still
  | readStore =>
    simp only [ruleOf, handleReadStore]
    split <;> exact .still
  | readSockets =>
    simp only [ruleOf, handleReadSockets]
    split <;> exact .still
  | fetchFailures =>
    simp only [ruleOf, handleFetchFailures]
    (repeat' split) <;> exact .still
  | armCapture =>
    simp only [ruleOf, handleArmCapture]
    (repeat' split) <;> exact .still
  | readCapture =>
    simp only [ruleOf, handleReadCapture]
    (repeat' split) <;> exact .still

end Rules

/-! ### Every step -/

/-- Where the sockets have moved to does not show in the link, the notices or the queue. -/
theorem State.socketsMove_blind (s : State) : LinkBlind s.SocketsMove where
  link _ h := h.trans .still
  notice _ h := h.trans .still
  pending _ h := h.trans .still

/-- The part's own events, one by one. -/
theorem exec_event_moves (i : Instr) {s t : State} (message : i.message = none) (line : lineEvent i = false)
    (h : exec i s = .next t) : s.SocketsMove t := by
  cases i with
  | powerOn straps => cases h; exact s.fullReset_moves straps _
  | pinReset straps => cases h; exact s.fullReset_moves straps _
  | restartShutOff straps =>
    cases h
    split
    · exact s.restartReset_moves straps
    · exact .refl s
  | seatContactChange a b =>
    cases h
    exact .still (by rw [State.setSlot_slot, SlotRec.contactsChange_state]) rfl
  | seatMakeTimerExpiry =>
    cases h
    split
    · exact s.seatFound_moves
    · exact .refl s
  | seatOpenTimerExpiry =>
    cases h
    split
    · exact s.unseat_moves
    · exact .refl s
  | safetyChainOpen level =>
    cases h
    split
    · exact s.chainOpens_moves
    · exact .still
  | identityAttemptEnd read =>
    cases h
    split
    · next attempting => exact s.attemptEnds_moves attempting read
    · exact .refl s
  | identityAttemptTimeout =>
    cases h
    split
    · next attempting => exact s.attemptFails_moves attempting
    · exact .refl s
  | identityRetryWaitExpiry =>
    cases h
    split <;> exact .still
  | armTimerExpiry =>
    cases h
    split
    · exact s.enterDraining_moves _
    · exact .refl s
  | drainTimerExpiry =>
    cases h
    split
    · next draining =>
      rw [Bool.and_eq_true, beq_iff_eq] at draining
      exact s.drainEnds_moves draining.2
    · exact .refl s
  | railDrainStep =>
    cases h
    split <;> exact .still
  | linkSilenceExpiry =>
    cases h
    split
    · exact s.silenceExpires_moves
    · exact .refl s
  | railSample readings => cases h; exact s.railSampled_moves readings
  | settleTimerExpiry rail =>
    cases h
    split
    · exact s.settleExpires_moves rail
    · exact .refl s
  | socketSample k ma => cases h; exact s.socketSampled_moves k ma
  | blankingExpiry k => cases h; exact .put k rfl rfl (.single (.mark _ _ _ _ _ none _ _))
  | cooldownExpiry k =>
    cases h
    split
    · exact s.cooldownExpires_moves k
    · exact .refl s
  | controlPassStart => cases h; exact .still
  | controlPassComplete codes =>
    cases h
    split
    · exact s.passCompletes_moves _ codes
    · exact .refl s
  | heaterPwmFrameStart => cases h; exact .still
  | creditIntervalExpiry =>
    cases h
    split
    · exact s.creditExpires_moves
    · exact .refl s
  | vectorEnd =>
    cases h
    split
    · exact s.vectorEnds_moves
    · exact .refl s
  | vectorStrobe lines =>
    cases h
    split
    · exact s.strobes_moves lines
    · exact .refl s
  | lineCharacter | lineCharacterTimeout | replyStart | replyComplete | unknownKind =>
    exact (Bool.false_ne_true line.symm).elim
  | _ => cases message

/-- What a step can do to the sockets. -/
theorem step_moves {s t : State} (h : step s = .next t) : s.SocketsMove t :=
  s.socketsMove_blind.keptByStep (fun k c u hu => hu.trans (ruleOf_moves c u k))
    (fun i _ _ message line hu hi => hu.trans (exec_event_moves i message line hi)) s t (.refl s) h

/-! ### The retries' bundle (R64, R71, R56) -/

/-- What the retries' bundle asks of one socket. -/
structure SocketView.Sound (v : SocketView) : Prop where
  switch : v.record.switchClosed = v.record.state.powered
  resting : v.inRun = false → v.record.state.resting = true
  counter : v.record.faultCounter ≤ 255
  softTrips : v.record.softTrips ≤ 255
  hardTrips : v.record.hardTrips ≤ 255
  retries : v.inRun = true → v.record.retries ≤ v.limit
  isolated : v.inRun = true → v.record.state = .isolated → v.record.retries < v.limit

theorem State.retriesSound_iff (s : State) : s.RetriesSound ↔ ∀ k, (s.view k).Sound := by
  constructor
  · rintro ⟨switches, retries⟩ k
    obtain ⟨switch, resting⟩ := switches k
    obtain ⟨counter, soft, hard, limit⟩ := retries k
    exact ⟨switch, resting, counter, soft, hard, fun live => (limit live).1, fun live => (limit live).2⟩
  · intro sound
    refine ⟨fun k => ⟨(sound k).switch, (sound k).resting⟩, fun k => ⟨(sound k).counter, (sound k).softTrips,
      (sound k).hardTrips, fun live => ⟨(sound k).retries live, (sound k).isolated live⟩⟩⟩

/-- R56: a powered socket's slot is in a run. -/
theorem SocketView.Sound.live {b : Bool} {l : Nat} {r : SocketRec} (h : SocketView.Sound ⟨b, l, r⟩)
    (powered : r.state.powered = true) : b = true := by
  by_contra idle
  have resting := h.resting (Bool.eq_false_of_not_eq_true idle)
  change r.state.resting = true at resting
  cases hs : r.state <;> simp [hs, SocketState.powered, SocketState.resting] at powered resting

theorem SocketState.not_powered {x : SocketState} (h : x.resting = true) : x.powered = false := by
  cases x with
  | off | heldOff | isolated | retired | completed | vacant => rfl
  | active | warned => cases h

/-- R56: a powered socket in a run is sound with its switch closed. -/
theorem SocketView.Sound.of_powered {l : Nat} {r : SocketRec} (powered : r.state.powered = true)
    (switch : r.switchClosed = true) (counter : r.faultCounter ≤ 255) (soft : r.softTrips ≤ 255)
    (hard : r.hardTrips ≤ 255) (retries : r.retries ≤ l) : SocketView.Sound ⟨true, l, r⟩ := by
  refine ⟨switch.trans powered.symm, nofun, counter, soft, hard, fun _ => retries, fun _ isolated => ?_⟩
  change r.state = .isolated at isolated
  rw [isolated] at powered
  cases powered

/-- R56, R77: a resting socket is sound with its switch open, in a run within the retry limit. -/
theorem SocketView.Sound.of_resting {b : Bool} {l : Nat} {r : SocketRec} (resting : r.state.resting = true)
    (switch : r.switchClosed = false) (counter : r.faultCounter ≤ 255) (soft : r.softTrips ≤ 255)
    (hard : r.hardTrips ≤ 255) (retries : b = true → r.retries ≤ l) : SocketView.Sound ⟨b, l, r⟩ := by
  refine ⟨switch.trans (SocketState.not_powered resting).symm, fun _ => resting, counter, soft, hard, retries,
    fun _ isolated => ?_⟩
  change r.state = .isolated at isolated
  rw [isolated] at resting
  cases resting

section Kept

variable {b : Bool} {l : Nat} {r : SocketRec} (h : SocketView.Sound ⟨b, l, r⟩)

include h

/-- R56: a departed socket's switch is open. -/
theorem SocketView.Sound.departed : r.depart.switchClosed = false := by
  have switch : r.switchClosed = r.state.powered := h.switch
  unfold SocketRec.depart
  split
  · rfl
  · next off => rw [switch, Bool.eq_false_of_not_eq_true off]

/-- R56: outside a run every switch is open. -/
theorem SocketView.Sound.switch_open (idle : b = false) : r.switchClosed = false :=
  h.switch.trans (SocketState.not_powered (h.resting idle))

/-- A departed socket in a state that is not powered. -/
theorem SocketView.Sound.leaves {r' : SocketRec} (kept : r' = { r.depart with
      state := r'.state, prior := r'.prior, cause := r'.cause, cooldown := r'.cooldown, retryDue := r'.retryDue })
    (off : r'.state.powered = false) (resting : b = false → r'.state.resting = true)
    (isolated : b = true → r'.state = .isolated → r.retries < l) : SocketView.Sound ⟨b, l, r'⟩ := by
  have counts : r.depart.faultCounter = r.faultCounter ∧ r.depart.softTrips = r.softTrips
      ∧ r.depart.hardTrips = r.hardTrips ∧ r.depart.retries = r.retries := by
    unfold SocketRec.depart
    split <;> exact ⟨rfl, rfl, rfl, rfl⟩
  obtain ⟨counter, soft, hard, retries⟩ := counts
  have switch : r'.switchClosed = r.depart.switchClosed := by rw [kept]
  refine ⟨(switch.trans h.departed).trans off.symm, resting, ?_, ?_, ?_, fun live => ?_, fun live hs => ?_⟩
  · rw [kept]
    exact counter.le.trans h.counter
  · rw [kept]
    exact soft.le.trans h.softTrips
  · rw [kept]
    exact hard.le.trans h.hardTrips
  · rw [kept]
    exact retries.le.trans (h.retries live)
  · rw [kept]
    exact retries.le.trans_lt (isolated live hs)

end Kept

theorem SocketRec.endRun_resting (r : SocketRec) : r.endRun.state.resting = true := by
  unfold SocketRec.endRun
  cases r.state <;> rfl

theorem SocketRec.afterRestart_resting (r : SocketRec) : r.afterRestart.state.resting = true := by
  unfold SocketRec.afterRestart
  cases r.state <;> rfl

theorem SocketState.continued_resting {x : SocketState} (h : x.resting = true) (reached : Bool) :
    (x.continued reached).resting = true := by
  cases x with
  | off | completed => cases reached <;> rfl
  | vacant | retired => rfl
  | active | warned | heldOff | isolated => cases h

theorem PriorState.toSocket_powered (p : PriorState) : p.toSocket.powered = true := by cases p <;> rfl

/-- The bundle is kept by every move. -/
theorem SocketMove.sound {v w : SocketView} (move : SocketMove v w) (h : v.Sound) : w.Sound := by
  cases move with
  | mark => exact ⟨h.switch, h.resting, h.counter, h.softTrips, h.hardTrips, h.retries, h.isolated⟩
  | count b l r c hc =>
    exact ⟨h.switch, h.resting, hc.trans (max_le le_rfl h.counter), h.softTrips, h.hardTrips, h.retries, h.isolated⟩
  | hardTrip => exact ⟨h.switch, h.resting, le_rfl, h.softTrips, min_le_left _ _, h.retries, h.isolated⟩
  | softTrip => exact ⟨h.switch, h.resting, h.counter, min_le_left _ _, h.hardTrips, h.retries, h.isolated⟩
  | warn b l r x before after =>
    obtain rfl := h.live before
    exact .of_powered after (h.switch.trans before) h.counter h.softTrips h.hardTrips (h.retries rfl)
  | isolate b l r cooldown powered below =>
    obtain rfl := h.live powered
    exact h.leaves rfl rfl nofun fun live _ => lt_of_le_of_ne (h.retries live) below
  | retire => exact h.leaves rfl rfl (fun _ => rfl) nofun
  | complete => exact h.leaves rfl rfl (fun _ => rfl) nofun
  | holdOff b l r powered =>
    obtain rfl := h.live powered
    exact h.leaves rfl rfl nofun nofun
  | switchOn => exact .of_powered rfl rfl h.counter h.softTrips h.hardTrips (h.retries rfl)
  | stayOff l r off =>
    refine ⟨h.switch.trans ?_, nofun, h.counter, h.softTrips, h.hardTrips, h.retries, nofun⟩
    rw [off]
    rfl
  | release l r =>
    unfold SocketRec.release
    split
    · next p _ =>
      exact .of_powered p.toSocket_powered rfl h.counter h.softTrips h.hardTrips (h.retries rfl)
    · exact .of_powered rfl rfl h.counter h.softTrips h.hardTrips (h.retries rfl)
  | retry l r isolated =>
    exact .of_powered rfl rfl (show 64 ≤ 255 by decide) h.softTrips h.hardTrips (h.isolated rfl isolated)
  | endRun b l r =>
    rw [SocketRec.endRun_eq]
    exact .of_resting (r.endRun_eq ▸ r.endRun_resting) rfl h.counter h.softTrips h.hardTrips nofun
  | renew l l' r populated =>
    exact .of_resting (by cases populated <;> rfl) (h.switch_open rfl) (Nat.zero_le _) (Nat.zero_le _) (Nat.zero_le _)
      fun _ => Nat.zero_le _
  | carryOn l l' r reached =>
    exact .of_resting (SocketState.continued_resting (h.resting rfl) reached) (h.switch_open rfl) (Nat.zero_le _)
      h.softTrips h.hardTrips fun _ => min_le_left _ _
  | reset => exact .of_resting rfl rfl (Nat.zero_le _) (Nat.zero_le _) (Nat.zero_le _) nofun
  | restart v => exact .of_resting v.record.afterRestart_resting rfl (Nat.zero_le _) h.softTrips h.hardTrips nofun

theorem SocketView.Sound.moves {v w : SocketView} (h : v.Sound) (moves : Relation.ReflTransGen SocketMove v w) :
    w.Sound := by
  induction moves with
  | refl => exact h
  | tail _ move ih => exact move.sound ih

/-- Settles O60: the bundle socket by socket, which goes by moves in every step. -/
theorem retriesStaySound : Obligations.RetriesStaySound := by
  unfold Obligations.RetriesStaySound
  intro s t sound h
  rw [State.retriesSound_iff] at sound ⊢
  exact fun k => (sound k).moves (step_moves h k)

end Sys2Proof.Machine
end

section
/-! The conversion of a thermometer's code to a temperature (R84, R85). -/

namespace Sys2Proof

/-! ### Clamps and banks (00_scope.md 3.2, 3.3) -/

/-- A value that lies in the range stays as it is (00_scope.md 3.2). -/
theorem clampInt_of_mem {lo hi v : Int} (low : lo ≤ v) (high : v ≤ hi) : clampInt lo hi v = v := by
  rw [clampInt, if_neg (not_lt.mpr low), if_neg (not_lt.mpr high)]

theorem clampInt_eq {lo hi : Int} (h : lo ≤ hi) (v : Int) : clampInt lo hi v = max lo (min hi v) := by
  unfold clampInt
  split
  · omega
  · split <;> omega

theorem Bank.getD_cells {α : Type} {n : Nat} (b : Bank α n) (i : Fin n) (v : α) : b.cells.getD i.val v = b.get i := by
  have inside : i.val < b.cells.length := b.size_eq.symm ▸ i.isLt
  rw [List.getD_eq_getElem _ _ inside]
  rfl

theorem Bank.set_set {α : Type} {n : Nat} (b : Bank α n) (i : Fin n) (v w : α) : (b.set i v).set i w = b.set i w := by
  simp [Bank.set]

end Sys2Proof

namespace Sys2Proof.Machine

/-! ### The conversion of a code (R84, R85) -/

theorem codeInvalid_iff (code : Nat) : codeInvalid code = true ↔ code < 16 ∨ 4079 < code := by
  simp [codeInvalid]

/-- A step of `d` of 256 parts along a segment, floored, stays within the segment's rise or fall. -/
theorem segment_step_mem (rise : Int) {d : Nat} (hd : d ≤ 256) :
    min 0 rise ≤ rise * d / 256 ∧ rise * d / 256 ≤ max 0 rise := by
  have part : (0 : Int) ≤ d ∧ (d : Int) ≤ 256 := by omega
  rcases le_total 0 rise with up | down
  · have low : 0 ≤ rise * d := mul_nonneg up part.1
    have high : rise * d ≤ rise * 256 := mul_le_mul_of_nonneg_left part.2 up
    omega
  · have low : rise * d ≤ 0 := mul_nonpos_of_nonpos_of_nonneg down part.1
    have high : rise * 256 ≤ rise * d := mul_le_mul_of_nonpos_left part.2 down
    omega

/-- Settles O28: the floored step stays between the segment's points, and these lie within the clamp. -/
theorem interpolationIsR85 : Obligations.InterpolationIsR85 := by
  unfold Obligations.InterpolationIsR85
  intro table code low high points
  refine ⟨code / 256, code - 256 * (code / 256), by omega, by omega, by omega, ?_⟩
  intro t0 t1
  have here : -640 ≤ t0 ∧ t0 ≤ 4000 := points _
  have next : -640 ≤ t1 ∧ t1 ≤ 4000 := points _
  have step := segment_step_mem (t1 - t0) (d := code - 256 * (code / 256)) (by omega)
  have between : min t0 t1 ≤ t0 + (t1 - t0) * (code - 256 * (code / 256) : Nat) / 256
      ∧ t0 + (t1 - t0) * (code - 256 * (code / 256) : Nat) / 256 ≤ max t0 t1 := by omega
  have value : interpolate table code = t0 + (t1 - t0) * (code - 256 * (code / 256) : Nat) / 256 := by
    have first : table.cells.getD (code / 256) 0 = t0 := Bank.getD_cells table ⟨code / 256, by omega⟩ 0
    have second : table.cells.getD (code / 256 + 1) 0 = t1 := Bank.getD_cells table ⟨code / 256 + 1, by omega⟩ 0
    unfold interpolate
    dsimp only
    rw [first, second]
    exact clampInt_of_mem (by omega) (by omega)
  rw [value]
  exact ⟨rfl, between.1, between.2, by omega, by omega⟩

end Sys2Proof.Machine
end

section
/-! A control pass zone by zone (R82): what a zone's turn, its controller and the grants make of its own record, and
what they leave of everything else. -/

namespace Sys2Proof.Machine

/-! ### One zone's record replaced -/

/-- One zone's record replaced. -/
def State.putZone (s : State) (z : Fin 6) (y : ZoneRec) : State :=
  s.setTherm { s.therm with zones := s.therm.zones.set z y }

theorem State.modZone_eq (s : State) (z : Fin 6) (f : ZoneRec → ZoneRec) :
    s.modZone z f = s.putZone z (f (s.therm.zones.get z)) := rfl

@[simp] theorem State.putZone_get_self (s : State) (z : Fin 6) (y : ZoneRec) :
    (s.putZone z y).therm.zones.get z = y := by
  simp [State.putZone]

theorem State.putZone_modZone (s : State) (z : Fin 6) (y : ZoneRec) (f : ZoneRec → ZoneRec) :
    (s.putZone z y).modZone z f = s.putZone z (f y) := by
  rw [State.modZone_eq, State.putZone_get_self]
  simp [State.putZone, Bank.set_set]

/-! ### What a zone's turn makes of its record (R84 to R91) -/

/-- A zone whose heater is shut on its way to a state (R86, R89). -/
def ZoneRec.shutTo (x : ZoneRec) (st : ZoneState) : ZoneRec := { x.shutHeater with state := st }

/-- A zone back at REGULATING (R87, R91), tested against its window. -/
def ZoneRec.returned (x : ZoneRec) (t : Int) (c : ZoneCapture) : ZoneRec :=
  { x with state := .regulating, integrator := 0 }.judgeWindow t c

/-- R86 -/
def ZoneRec.classifiedInvalid (x : ZoneRec) : ZoneRec :=
  match x.state with
  | .regulating | .tripped => if x.invalidRun = 3 then x.shutTo .sensorFailed else { x with inWindow := false }
  | .sensorFailed | .idle => x

/-- R87, R89 to R91 -/
def ZoneRec.classifiedValid (x : ZoneRec) (t : Int) (c : ZoneCapture) (b : ZoneBoard) : ZoneRec :=
  match x.state with
  | .regulating => if tripTest t c b then x.shutTo .tripped else x.judgeWindow t c
  | .tripped => if returnTest t c b then x.returned t c else x
  | .sensorFailed => if tripTest t c b then x.shutTo .tripped else x.returned t c
  | .idle => x

def ZoneRec.classified (x : ZoneRec) (code : Nat) (c : ZoneCapture) (board : Option ZoneBoard) : ZoneRec :=
  if codeInvalid code then x.classifiedInvalid
  else match x.temperature, board with
    | some t, some b => x.classifiedValid t c b
    | _, _ => { x with inWindow := false }

/-- R82: a computing zone is read and classified, a converting one is read and asks for nothing. -/
def ZoneRec.turned (x : ZoneRec) (code : Nat) (c : ZoneCapture) (board : Option ZoneBoard) (usable computing : Bool) :
    ZoneRec :=
  if computing then (x.read code board usable).classified code c board
  else { x.read code board usable with u := 0, granted := 0 }

section Turn

variable (s : State) (z : Fin 6)

/-- R86 -/
theorem State.sensorFails_get (j : Fin 6) : (s.sensorFails z).therm.zones.get j =
    if z = j then (s.therm.zones.get j).shutTo .sensorFailed else s.therm.zones.get j := by
  unfold State.sensorFails
  dsimp only
  split <;> simp [ZoneRec.shutTo]

/-- R89 -/
theorem State.zoneTrips_get (t : Int) (j : Fin 6) : (s.zoneTrips z t).therm.zones.get j =
    if z = j then (s.therm.zones.get j).shutTo .tripped else s.therm.zones.get j := by
  unfold State.zoneTrips
  dsimp only
  split <;> simp [ZoneRec.shutTo]

/-- R87, R91 -/
theorem State.zoneReturns_get (t : Int) (c : ZoneCapture) (j : Fin 6) : (s.zoneReturns z t c).therm.zones.get j =
    if z = j then (s.therm.zones.get j).returned t c else s.therm.zones.get j := by
  unfold State.zoneReturns
  by_cases own : z = j <;> simp [ZoneRec.returned, own]

theorem State.classifyInvalid_get (j : Fin 6) : (s.classifyInvalid z).therm.zones.get j =
    if z = j then (s.therm.zones.get j).classifiedInvalid else s.therm.zones.get j := by
  by_cases own : z = j
  · subst own
    unfold State.classifyInvalid ZoneRec.classifiedInvalid
    dsimp only
    cases was : (s.therm.zones.get z).state with
    | regulating | tripped =>
      by_cases third : (s.therm.zones.get z).invalidRun = 3 <;> simp [third, was, State.sensorFails_get]
    | sensorFailed | idle => simp
  · rw [if_neg own]
    unfold State.classifyInvalid
    dsimp only
    (repeat' split) <;> simp [State.sensorFails_get, own]

theorem State.classifyValid_get (t : Int) (c : ZoneCapture) (b : ZoneBoard) (j : Fin 6) :
    (s.classifyValid z t c b).therm.zones.get j =
      if z = j then (s.therm.zones.get j).classifiedValid t c b else s.therm.zones.get j := by
  by_cases own : z = j
  · subst own
    unfold State.classifyValid ZoneRec.classifiedValid
    cases (s.therm.zones.get z).state with
    | regulating => by_cases trips : tripTest t c b = true <;> simp [trips, State.zoneTrips_get]
    | tripped => by_cases back : returnTest t c b = true <;> simp [back, State.zoneReturns_get]
    | sensorFailed =>
      by_cases trips : tripTest t c b = true <;> simp [trips, State.zoneTrips_get, State.zoneReturns_get]
    | idle => simp
  · rw [if_neg own]
    unfold State.classifyValid
    (repeat' split) <;> simp [State.zoneTrips_get, State.zoneReturns_get, own]

theorem State.classify_get (code : Nat) (c : ZoneCapture) (board : Option ZoneBoard) (j : Fin 6) :
    (s.classify z code c board).therm.zones.get j =
      if z = j then (s.therm.zones.get j).classified code c board else s.therm.zones.get j := by
  unfold State.classify ZoneRec.classified
  by_cases bad : codeInvalid code = true
  · simp [bad, State.classifyInvalid_get]
  · by_cases own : z = j
    · subst own
      rw [if_neg bad, if_neg bad, if_pos rfl]
      cases held : (s.therm.zones.get z).temperature with
      | none => simp [held]
      | some t =>
        cases board with
        | none => simp [held]
        | some b => simp [State.classifyValid_get]
    · rw [if_neg bad, if_neg own]
      split <;> simp [State.classifyValid_get, own]

/-- R82: a zone's turn in a completion, seen on the records. -/
theorem State.zoneStep_get (cap : PassCapture) (code : Nat) (computing : Bool) (j : Fin 6) :
    (s.zoneStep cap code computing z).therm.zones.get j =
      if z = j then
        (s.therm.zones.get j).turned code (cap.zones.get z) (boardOf cap z) s.ident.record.isSome computing
      else s.therm.zones.get j := by
  unfold State.zoneStep ZoneRec.turned
  dsimp only
  cases computing <;> by_cases own : z = j <;> simp [own, State.classify_get]

theorem State.sensorFails_frame : (s.sensorFails z).slot = s.slot ∧ (s.sensorFails z).ident = s.ident := by
  unfold State.sensorFails
  dsimp only
  split <;> simp

theorem State.zoneTrips_frame (t : Int) : (s.zoneTrips z t).slot = s.slot ∧ (s.zoneTrips z t).ident = s.ident := by
  unfold State.zoneTrips
  dsimp only
  split <;> simp

theorem State.zoneReturns_frame (t : Int) (c : ZoneCapture) :
    (s.zoneReturns z t c).slot = s.slot ∧ (s.zoneReturns z t c).ident = s.ident := by
  simp [State.zoneReturns]

theorem State.classify_frame (code : Nat) (c : ZoneCapture) (board : Option ZoneBoard) :
    (s.classify z code c board).slot = s.slot ∧ (s.classify z code c board).ident = s.ident := by
  have invalid : (s.classifyInvalid z).slot = s.slot ∧ (s.classifyInvalid z).ident = s.ident := by
    unfold State.classifyInvalid
    dsimp only
    (repeat' split) <;> simp [State.sensorFails_frame]
  have valid (t : Int) (b : ZoneBoard) :
      (s.classifyValid z t c b).slot = s.slot ∧ (s.classifyValid z t c b).ident = s.ident := by
    unfold State.classifyValid
    (repeat' split) <;> simp [State.zoneTrips_frame, State.zoneReturns_frame]
  unfold State.classify
  split
  · exact invalid
  · split
    · exact valid _ _
    · exact ⟨rfl, rfl⟩

/-- A zone's turn leaves the slot record and the identity as they were. -/
theorem State.zoneStep_frame (cap : PassCapture) (code : Nat) (computing : Bool) :
    (s.zoneStep cap code computing z).slot = s.slot ∧ (s.zoneStep cap code computing z).ident = s.ident := by
  unfold State.zoneStep
  dsimp only
  split
  · exact State.classify_frame _ z _ _ _
  · exact ⟨rfl, rfl⟩

end Turn

/-! ### What the rest of a completion makes of a zone's record (R92 to R94, R102) -/

section Completion

variable (s : State) (cap : PassCapture)

/-- R92: the controller of a computing zone that is REGULATING. -/
def ZoneRec.controlled (x : ZoneRec) (c : ZoneCapture) (computing : Bool) : ZoneRec :=
  if computing && x.state == .regulating then x.control c else x

theorem State.controlStep_get (computing : Bool) (z j : Fin 6) :
    (s.controlStep cap computing z).therm.zones.get j =
      if z = j then (s.therm.zones.get j).controlled (cap.zones.get z) computing else s.therm.zones.get j := by
  unfold State.controlStep ZoneRec.controlled
  by_cases own : z = j
  · subst own
    split <;> simp
  · split <;> simp [own]

theorem State.controlStep_frame (computing : Bool) (z : Fin 6) :
    (s.controlStep cap computing z).slot = s.slot ∧ (s.controlStep cap computing z).ident = s.ident := by
  unfold State.controlStep
  split <;> exact ⟨rfl, rfl⟩

/-- R102: the grants, with the allowance and the demand of the stage. -/
theorem State.grantStage_get (z : Fin 6) :
    (s.grantStage cap).therm.zones.get z =
      (s.therm.zones.get z).grant (cap.budget - s.pDut) (totalDemand s.therm.zones cap.board) := by
  unfold State.grantStage
  dsimp only
  split <;> simp

theorem State.grantStage_slot : (s.grantStage cap).slot = s.slot := by
  unfold State.grantStage
  dsimp only
  split <;> rfl

theorem State.holdStage_zones : (s.holdStage cap).therm.zones = s.therm.zones := by
  unfold State.holdStage State.setBudgetRec
  dsimp only
  split
  · split <;> simp
  · split <;> simp

theorem State.holdStage_slot : (s.holdStage cap).slot = s.slot := by
  unfold State.holdStage State.setBudgetRec
  dsimp only
  split
  · split <;> simp
  · split <;> simp

end Completion

/-! ### Every zone in its turn (R82) -/

/-- Turns that each move one zone's record, by what is the same at every turn, move each zone's record once. -/
theorem foldl_zones_get {F : State → Prop} {f : State → Fin 6 → State} {g : Fin 6 → ZoneRec → ZoneRec}
    (step : ∀ t z, F t → F (f t z) ∧ ∀ j, (f t z).therm.zones.get j =
      if z = j then g z (t.therm.zones.get j) else t.therm.zones.get j)
    {l : List (Fin 6)} (once : l.Nodup) {s : State} (h : F s) :
    F (l.foldl f s) ∧ ∀ j, (l.foldl f s).therm.zones.get j =
      if j ∈ l then g j (s.therm.zones.get j) else s.therm.zones.get j := by
  induction l generalizing s with
  | nil => exact ⟨h, fun j => rfl⟩
  | cons z rest ih =>
    obtain ⟨fresh, rest_once⟩ := List.nodup_cons.mp once
    obtain ⟨kept, turned⟩ := step s z h
    obtain ⟨all_kept, all_turned⟩ := ih rest_once kept
    refine ⟨all_kept, fun j => ?_⟩
    rw [List.foldl_cons, all_turned, turned]
    by_cases own : z = j
    · subst own
      simp [fresh]
    · simp [own, Ne.symm own]

section Turns

variable (s : State) (cap : PassCapture) (codes : Bank Nat 6) (comp : Fin 6 → Bool)

/-- R82: the readings and classifications of a completion. -/
def State.zonesTurn : State :=
  (List.finRange 6).foldl (fun t z => t.zoneStep cap (codes.get z) (comp z) z) s

/-- R82: the controllers of a completion. -/
def State.zonesControl : State := (List.finRange 6).foldl (fun t z => t.controlStep cap (comp z) z) s

theorem State.zonesTurn_get (z : Fin 6) :
    (s.zonesTurn cap codes comp).therm.zones.get z =
      (s.therm.zones.get z).turned (codes.get z) (cap.zones.get z) (boardOf cap z) s.ident.record.isSome (comp z) := by
  have turns := foldl_zones_get (F := fun t => t.ident = s.ident)
    (f := fun t z => t.zoneStep cap (codes.get z) (comp z) z)
    (g := fun z x =>
      x.turned (codes.get z) (cap.zones.get z) (boardOf cap z) s.ident.record.isSome (comp z))
    (fun t z same => ⟨(t.zoneStep_frame z _ _ _).2.trans same, fun j => same ▸ t.zoneStep_get z _ _ _ j⟩)
    (List.nodup_finRange 6) (rfl : s.ident = s.ident)
  exact (turns.2 z).trans (if_pos (List.mem_finRange z))

theorem State.zonesTurn_slot : (s.zonesTurn cap codes comp).slot = s.slot :=
  foldl_frame State.slot _ (fun t z => (t.zoneStep_frame z _ _ _).1) _ _

theorem State.zonesControl_get (z : Fin 6) :
    (s.zonesControl cap comp).therm.zones.get z = (s.therm.zones.get z).controlled (cap.zones.get z) (comp z) := by
  have turns := foldl_zones_get (F := fun _ => True) (f := fun t z => t.controlStep cap (comp z) z)
    (g := fun z x => x.controlled (cap.zones.get z) (comp z))
    (fun t z _ => ⟨trivial, t.controlStep_get cap _ z⟩) (List.nodup_finRange 6) (s := s) trivial
  exact (turns.2 z).trans (if_pos (List.mem_finRange z))

theorem State.zonesControl_slot : (s.zonesControl cap comp).slot = s.slot :=
  foldl_frame State.slot _ (fun t z => (t.controlStep_frame cap _ z).1) _ _

/-- R100: one budget stage, made with any computing zone. -/
def State.budgetStage : State :=
  if (List.finRange 6).any comp then (s.grantStage cap).holdStage cap else s

theorem State.budgetStage_slot : (s.budgetStage cap comp).slot = s.slot := by
  unfold State.budgetStage
  split
  · rw [State.holdStage_slot, State.grantStage_slot]
  · rfl

/-- A computing zone's record after the budget stage. -/
theorem State.budgetStage_get {z : Fin 6} (computing : comp z = true) :
    (s.budgetStage cap comp).therm.zones.get z =
      (s.therm.zones.get z).grant (cap.budget - s.pDut) (totalDemand s.therm.zones cap.board) := by
  have some_computing : (List.finRange 6).any comp = true :=
    List.any_eq_true.mpr ⟨z, List.mem_finRange z, computing⟩
  rw [State.budgetStage, if_pos some_computing, State.holdStage_zones, State.grantStage_get]

end Turns

/-- R82: a completion but for the arming test. -/
def State.passJudged (s : State) (cap : PassCapture) (codes : Bank Nat 6) : State :=
  (((s.setTherm { s.therm with pass := none }).zonesTurn cap codes (s.computing cap)).zonesControl cap
    (s.computing cap)).budgetStage cap (s.computing cap)

theorem State.passJudged_slot (s : State) (cap : PassCapture) (codes : Bank Nat 6) :
    (s.passJudged cap codes).slot = s.slot := by
  rw [State.passJudged, State.budgetStage_slot, State.zonesControl_slot, State.zonesTurn_slot]
  rfl

theorem exec_controlPassComplete {s : State} {cap : PassCapture} (h : s.therm.pass = some cap) (codes : Bank Nat 6) :
    exec (.controlPassComplete codes) s = .next (s.passJudged cap codes).armingTest := by
  change Host.Outcome.next _ = _
  rw [h]
  rfl

end Sys2Proof.Machine
end

section
/-! The start of a pass, its completion in order, converting zones and the PWM frame (R81, R82, R84, R88, R95, R100). -/

namespace Sys2Proof.Machine

/-! ### Computing and converting zones (R82) -/

theorem State.computing_eq (s : State) (cap : PassCapture) (z : Fin 6) :
    s.computing cap z = decide ((cap.zones.get z).state ≠ .idle ∧ (s.therm.zones.get z).state ≠ .idle) := by
  rw [Bool.eq_iff_iff, decide_eq_true_iff]
  simp [State.computing]

/-- R84, R85: the temperature after a reading. -/
theorem ZoneRec.read_temperature (x : ZoneRec) (code : Nat) (board : Option ZoneBoard) (usable : Bool) :
    (x.read code board usable).temperature =
      match board with
      | some b => if code < 16 ∨ 4079 < code ∨ usable = false then x.temperature
          else some (interpolate b.table code)
      | none => x.temperature := by
  cases board with
  | none => rfl
  | some b => simp [ZoneRec.read, codeInvalid_iff, or_assoc]

/-- R84, R88: a reading, by the temperature it leaves. -/
theorem ZoneRec.read_eq (x : ZoneRec) (code : Nat) (board : Option ZoneBoard) (usable : Bool) :
    x.read code board usable = { x with
      code := code
      invalidRun := if code < 16 ∨ 4079 < code then min 3 (x.invalidRun + 1) else 0
      temperature := (x.read code board usable).temperature
      history := x.history.push (x.read code board usable).temperature } := by
  simp only [ZoneRec.read, codeInvalid_iff]

/-- A converting zone's turn moves its own record alone. -/
theorem State.zoneStep_converting (s : State) (cap : PassCapture) (code : Nat) (z : Fin 6) :
    s.zoneStep cap code false z = s.putZone z
      ((s.therm.zones.get z).turned code (cap.zones.get z) (boardOf cap z) s.ident.record.isSome false) := by
  change (s.modZone z _).modZone z _ = _
  rw [State.modZone_eq s, State.putZone_modZone]
  rfl

/-- With every zone converting a completion only reads. -/
theorem State.zonesTurn_converting (s : State) (cap : PassCapture) (codes : Bank Nat 6) {comp : Fin 6 → Bool}
    (converting : ∀ z, comp z = false) :
    s.zonesTurn cap codes comp = s.setTherm { s.therm with
      zones := Bank.ofFn fun z => (s.therm.zones.get z).turned (codes.get z) (cap.zones.get z) (boardOf cap z)
        s.ident.record.isSome false } := by
  have frame := foldl_zones_get (F := fun t => t = s.setTherm { s.therm with zones := t.therm.zones })
    (f := fun t z => t.zoneStep cap (codes.get z) (comp z) z)
    (g := fun z x => x.turned (codes.get z) (cap.zones.get z) (boardOf cap z) s.ident.record.isSome (comp z))
    (fun t z same => by
      have ident : t.ident = s.ident := by rw [same]; rfl
      refine ⟨?_, fun j => ident ▸ t.zoneStep_get z _ _ _ j⟩
      rw [converting, State.zoneStep_converting]
      generalize ZoneRec.turned _ _ _ _ _ _ = y
      rw [same]
      rfl)
    (List.nodup_finRange 6) (rfl : s = s.setTherm { s.therm with zones := s.therm.zones })
  refine frame.1.trans (congrArg (fun b => s.setTherm { s.therm with zones := b }) (Bank.ext_get fun z => ?_))
  rw [Bank.get_ofFn, ← converting z]
  exact s.zonesTurn_get cap codes comp z

theorem State.zonesControl_converting (s : State) (cap : PassCapture) {comp : Fin 6 → Bool}
    (converting : ∀ z, comp z = false) : s.zonesControl cap comp = s := by
  have none_controlled : comp = fun _ => false := funext converting
  subst none_controlled
  rfl

theorem State.budgetStage_converting (s : State) (cap : PassCapture) {comp : Fin 6 → Bool}
    (converting : ∀ z, comp z = false) : s.budgetStage cap comp = s := by
  have none_computing : comp = fun _ => false := funext converting
  subst none_computing
  rfl

/-! ### The pass start, the completion and the PWM frame -/

/-- Settles O25: the capture field by field, the completion as its stages stand, a converting zone by its reading. -/
theorem passCaptureConversionAndPwm : Obligations.PassCaptureConversionAndPwm := by
  unfold Obligations.PassCaptureConversionAndPwm
  intro s u codes cap zone comp order read controlled measured
  have computing : s.computing cap = comp := funext (s.computing_eq cap)
  have measured_eq (v : State) (z : Fin 6) :
      (v.therm.zones.get z).turned (codes.get z) (cap.zones.get z) (boardOf cap z) v.ident.record.isSome false
        = measured v z := by
    have temperature : ((v.therm.zones.get z).read (codes.get z) (boardOf cap z) v.ident.record.isSome).temperature
        = (measured v z).temperature := by
      rw [ZoneRec.read_temperature]
      change _ = (match cap.board with | some b => _ | none => _)
      unfold boardOf
      cases cap.board with
      | none => rfl
      | some b => simp [or_assoc]
    rw [ZoneRec.turned, if_neg Bool.false_ne_true, ZoneRec.read_eq, temperature]
  refine ⟨⟨s.capture, rfl, rfl, fun z => Bank.get_map _ _ z, fun absent => ?_, fun d present => ?_⟩, rfl,
    fun idle => ?_, fun flight => ?_, ?_, fun flight converting => ?_⟩
  · rw [State.capture, absent]
    rfl
  · refine ⟨Bank.ofFn d.zoneBoard, by rw [State.capture, present]; rfl, fun z => ?_⟩
    rw [Bank.get_ofFn]
    exact ⟨rfl, rfl, fun i => Bank.get_ofFn _ i⟩
  · change Host.Outcome.next _ = _
    rw [idle]
  · rw [exec_controlPassComplete flight, State.passJudged, computing]
    change Host.Outcome.next (controlled.budgetStage cap comp).armingTest = _
    rw [State.budgetStage]
    refine congrArg (fun t : State => Host.Outcome.next t.armingTest) (if_congr ?_ rfl rfl)
    simp
  · rw [State.zoneStep_converting, measured_eq]
    rfl
  · rw [exec_controlPassComplete flight, State.passJudged, computing,
      State.budgetStage_converting _ _ converting, State.zonesControl_converting _ _ converting,
      State.zonesTurn_converting _ _ _ converting]
    exact congrArg (fun b : Bank ZoneRec 6 => Host.Outcome.next
      (s.setTherm { s.therm with pass := none, zones := b }).armingTest)
      (congrArg Bank.ofFn (funext fun z => measured_eq s z))

end Sys2Proof.Machine
end

section
/-! The heaters in every event and in every message rule: R80's law zone by zone, kept by every step. -/

namespace Sys2Proof.Machine

-- One proof at a time: a proof per thread, each with its own stack, would pass the memory limit of the check.
set_option Elab.async false

/-! ### One zone's record -/

/-- R80's law of one zone, by whether the slot is in ARMING or RUNNING. -/
def ZoneRec.Lawful (live : Bool) (x : ZoneRec) : Prop :=
  (x.state ≠ .regulating → x.u = 0 ∧ x.granted = 0 ∧ x.appliedDuty = 0) ∧ (live = false → x.state = .idle)

theorem State.heaterLaw_iff (s : State) :
    s.HeaterLaw ↔ ∀ z, (s.therm.zones.get z).Lawful s.slot.state.inRun := Iff.rfl

/-- A zone at rest is lawful in every slot state. -/
theorem ZoneRec.Lawful.at_rest {live : Bool} {x : ZoneRec} (state : x.state = .idle) (u : x.u = 0)
    (granted : x.granted = 0) (applied : x.appliedDuty = 0) : x.Lawful live :=
  ⟨fun _ => ⟨u, granted, applied⟩, fun _ => state⟩

/-- R79: a zone at START is REGULATING. -/
theorem ZoneRec.begin_lawful (x : ZoneRec) (y : Option ZoneSection) : (x.begin y).Lawful true := by
  have on : (x.begin y).state = .regulating := by cases y <;> rfl
  exact ⟨fun off => absurd on off, nofun⟩

theorem ZoneRec.ite_lawful {live : Bool} {p : Prop} [Decidable p] {x y : ZoneRec} (then_lawful : x.Lawful live)
    (else_lawful : y.Lawful live) : (if p then x else y).Lawful live := by
  split
  · exact then_lawful
  · exact else_lawful

section Record

variable {live : Bool} {x : ZoneRec} (h : x.Lawful live)

include h

/-- R86, R89: a zone that is not IDLE is in a run, and its heater is shut. -/
theorem ZoneRec.Lawful.shutTo (active : x.state ≠ .idle) (st : ZoneState) : (x.shutTo st).Lawful live :=
  ⟨fun _ => ⟨rfl, rfl, rfl⟩, fun off => absurd (h.2 off) active⟩

theorem ZoneRec.Lawful.judgeWindow (t : Int) (c : ZoneCapture) : (x.judgeWindow t c).Lawful live := by
  unfold ZoneRec.judgeWindow
  split <;> exact h

theorem ZoneRec.Lawful.returned (active : x.state ≠ .idle) (t : Int) (c : ZoneCapture) :
    (x.returned t c).Lawful live := by
  have back : ({ x with state := .regulating, integrator := 0 } : ZoneRec).Lawful live :=
    ⟨fun off => absurd rfl off, fun off => absurd (h.2 off) active⟩
  exact back.judgeWindow t c

theorem ZoneRec.Lawful.classifiedInvalid : x.classifiedInvalid.Lawful live := by
  have marked : ({ x with inWindow := false } : ZoneRec).Lawful live := h
  unfold ZoneRec.classifiedInvalid
  split
  · next was => exact ZoneRec.ite_lawful (h.shutTo (by simp [was]) _) marked
  · next was => exact ZoneRec.ite_lawful (h.shutTo (by simp [was]) _) marked
  · exact h
  · exact h

theorem ZoneRec.Lawful.classifiedValid (t : Int) (c : ZoneCapture) (b : ZoneBoard) :
    (x.classifiedValid t c b).Lawful live := by
  unfold ZoneRec.classifiedValid
  split
  · next was => exact ZoneRec.ite_lawful (h.shutTo (by simp [was]) _) (h.judgeWindow t c)
  · next was => exact ZoneRec.ite_lawful (h.returned (by simp [was]) t c) h
  · next was => exact ZoneRec.ite_lawful (h.shutTo (by simp [was]) _) (h.returned (by simp [was]) t c)
  · exact h

theorem ZoneRec.Lawful.classified (code : Nat) (c : ZoneCapture) (board : Option ZoneBoard) :
    (x.classified code c board).Lawful live := by
  unfold ZoneRec.classified
  split
  · exact h.classifiedInvalid
  · split
    · exact h.classifiedValid _ _ _
    · exact h

/-- R82: reading, and classification or no demand. -/
theorem ZoneRec.Lawful.turned (code : Nat) (c : ZoneCapture) (board : Option ZoneBoard) (usable computing : Bool) :
    (x.turned code c board usable computing).Lawful live := by
  have read : (x.read code board usable).Lawful live := h
  unfold ZoneRec.turned
  split
  · exact read.classified code c board
  · exact ⟨fun off => ⟨rfl, rfl, (h.1 off).2.2⟩, h.2⟩

/-- R92: only a REGULATING zone is controlled. -/
theorem ZoneRec.Lawful.controlled (c : ZoneCapture) (computing : Bool) : (x.controlled c computing).Lawful live := by
  unfold ZoneRec.controlled
  split
  · next on =>
    rw [Bool.and_eq_true, beq_iff_eq] at on
    have same : (x.control c).state = x.state := by
      unfold ZoneRec.control
      split <;> rfl
    exact ⟨fun off => absurd (same.trans on.2) off, fun off => same.trans (h.2 off)⟩
  · exact h

/-- R102: a zone that asks for nothing is granted nothing. -/
theorem ZoneRec.Lawful.grant (allowance demand : Nat) : (x.grant allowance demand).Lawful live := by
  refine ⟨fun off => ?_, h.2⟩
  obtain ⟨u, -, applied⟩ := h.1 off
  refine ⟨u, ?_, applied⟩
  simp [ZoneRec.grant, u]

end Record

/-! ### The shared operations -/

section Operations

variable {s t : State}

theorem State.HeaterLaw.still (h : s.HeaterLaw) (therm : t.therm = s.therm := by rfl)
    (slot : t.slot.state.inRun = s.slot.state.inRun := by rfl) : t.HeaterLaw := by
  rw [State.heaterLaw_iff, therm, slot]
  exact h

/-- Each zone's record goes lawfully from one state to the next. -/
theorem State.HeaterLaw.zones (h : s.HeaterLaw) (slot : t.slot.state.inRun = s.slot.state.inRun)
    (kept : ∀ z live, (s.therm.zones.get z).Lawful live → (t.therm.zones.get z).Lawful live) : t.HeaterLaw := by
  rw [State.heaterLaw_iff, slot]
  exact fun z => kept z _ (h z)

theorem State.HeaterLaw.foldl {α : Type} {f : State → α → State} (h : s.HeaterLaw)
    (turn : ∀ (u : State) a, u.HeaterLaw → (f u a).HeaterLaw) (l : List α) : (l.foldl f s).HeaterLaw :=
  List.foldlRecOn l f h fun u hu a _ => turn u a hu

/-- R80: at a run's end every zone is IDLE with its heater shut. -/
theorem State.HeaterLaw.of_ended (ended : t.therm.zones = s.therm.zones.map ZoneRec.endRun) : t.HeaterLaw := by
  intro z
  rw [ended, Bank.get_map]
  exact ZoneRec.Lawful.at_rest rfl rfl rfl rfl

theorem State.enterDraining_lawful (s : State) (c : EndCause) : (s.enterDraining c).HeaterLaw :=
  .of_ended (congrArg Thermal.zones (s.enterDraining_therm c))

theorem State.enterSafe_lawful (s : State) (c : EndCause) (f : FailureKind) (n : Fin 12) (x : Source) :
    (s.enterSafe c f n x).HeaterLaw :=
  .of_ended (congrArg Thermal.zones (s.enterSafe_therm c f n x))

/-- R26: the identity discarded takes temperatures alone. -/
theorem State.HeaterLaw.discardIdentity (h : s.HeaterLaw) : s.discardIdentity.HeaterLaw :=
  h.zones rfl fun z _ hz => by
    have held : s.discardIdentity.therm.zones.get z = { s.therm.zones.get z with temperature := none } :=
      Bank.get_map _ _ z
    rw [held]
    exact hz

variable (h : s.HeaterLaw)

include h

theorem State.HeaterLaw.checkRunEnd : s.checkRunEnd.HeaterLaw := by
  unfold State.checkRunEnd
  split
  · exact s.enterDraining_lawful _
  · exact h

theorem State.HeaterLaw.retire (k : Fin 48) (cause : RetireCause) : (s.retire k cause).HeaterLaw :=
  State.HeaterLaw.checkRunEnd (h.still (by simp) (by simp))

theorem State.HeaterLaw.complete (k : Fin 48) : (s.complete k).HeaterLaw :=
  State.HeaterLaw.checkRunEnd (h.still (by simp) (by simp))

theorem State.HeaterLaw.isolate (k : Fin 48) : (s.isolate k).HeaterLaw := by
  unfold State.isolate
  split
  · exact h.retire k _
  · exact h.still (by simp) (by simp)

/-- R12: the entry to RUNNING is made from ARMING, with the zones as they are. -/
theorem State.HeaterLaw.armingTest : s.armingTest.HeaterLaw := by
  unfold State.armingTest
  split
  · next armed =>
    rw [State.enterRunning_eq]
    split
    · exact State.enterDraining_lawful _ _
    · exact h.still (by simp [State.underway, State.running])
        (by simp [State.underway, State.running, armed.1, SlotState.inRun])
  · exact h

theorem State.HeaterLaw.railFault (r : Fin 4) (mv : Nat) : (s.railFault r mv).HeaterLaw := by
  unfold State.railFault
  dsimp only
  split
  · exact State.enterDraining_lawful _ _
  · exact h.still (by simp) (by simp)

/-! ### Sockets and rails -/

theorem State.HeaterLaw.hardTrip (k : Fin 48) (v : Nat) : (s.hardTrip k v).HeaterLaw :=
  State.HeaterLaw.isolate (h.still (by simp) (by simp)) k

theorem State.HeaterLaw.softTrip (k : Fin 48) (v : Nat) : (s.softTrip k v).HeaterLaw :=
  State.HeaterLaw.isolate (h.still (by simp) (by simp)) k

theorem State.HeaterLaw.warnStage (k : Fin 48) : (s.warnStage k).HeaterLaw := by
  unfold State.warnStage
  dsimp only
  (repeat' split) <;> exact h.still

theorem State.HeaterLaw.tripStage (k : Fin 48) (v : Nat) : (s.tripStage k v).HeaterLaw := by
  unfold State.tripStage
  dsimp only
  split
  · exact h.softTrip k v
  · exact h

theorem State.HeaterLaw.judgeSample (k : Fin 48) (v : Nat) (w : Wire) : (s.judgeSample k v w).HeaterLaw := by
  unfold State.judgeSample
  split
  · exact h.hardTrip k v
  · exact ((h.still : (s.modSocket k _).HeaterLaw).warnStage k).tripStage k v

theorem State.HeaterLaw.socketSampled (k : Fin 48) (ma : Nat) : (s.socketSampled k ma).HeaterLaw := by
  have sampled (f : SocketRec → SocketRec) : (s.modSocket k f).HeaterLaw := h.still
  unfold State.socketSampled
  dsimp only
  split
  · split
    · exact (sampled _).judgeSample k _ _
    · exact sampled _
  · exact sampled _

theorem State.HeaterLaw.cooldownExpires (k : Fin 48) : (s.cooldownExpires k).HeaterLaw := by
  unfold State.cooldownExpires
  (repeat' split) <;> exact h.still

theorem State.HeaterLaw.sequenceStep (r : Fin 4) : (s.sequenceStep r).HeaterLaw := by
  unfold State.sequenceStep
  (repeat' split) <;> exact h.still

theorem State.HeaterLaw.judgeRegulated (r : Fin 4) : (s.judgeRegulated r).HeaterLaw := by
  unfold State.judgeRegulated
  dsimp only
  split
  · exact h.still
  · split
    · refine State.HeaterLaw.railFault ?_ _ _
      split <;> exact h.still
    · split <;> exact h.still

theorem State.HeaterLaw.judgeRail (r : Fin 4) : (s.judgeRail r).HeaterLaw := by
  have judged : (s.modRail r fun y => { y with inWindow := railInWindow y }).HeaterLaw := h.still
  unfold State.judgeRail
  dsimp only
  split
  · exact h
  · exact h
  · split
    · exact ((judged.still : (State.modRail _ r _).HeaterLaw).sequenceStep r).armingTest
    · exact judged
  · split
    · exact judged
    · exact judged.judgeRegulated r

theorem State.HeaterLaw.railSampled (readings : Bank RailReading 4) : (s.railSampled readings).HeaterLaw := by
  refine State.HeaterLaw.foldl (h.still : (s.setRail _).HeaterLaw) (fun u r hu => ?_) _
  split
  · exact hu
  · exact hu.judgeRail r

theorem State.HeaterLaw.settleExpires (r : Fin 4) : (s.settleExpires r).HeaterLaw := by
  unfold State.settleExpires
  dsimp only
  split
  · exact h.railFault r _
  · exact h.still

/-! ### The control pass -/

theorem State.HeaterLaw.zoneStep (cap : PassCapture) (code : Nat) (computing : Bool) (z : Fin 6) :
    (s.zoneStep cap code computing z).HeaterLaw := by
  refine h.zones (by rw [(s.zoneStep_frame z cap code computing).1]) fun j live hj => ?_
  rw [State.zoneStep_get]
  split
  · exact hj.turned _ _ _ _ _
  · exact hj

theorem State.HeaterLaw.controlStep (cap : PassCapture) (computing : Bool) (z : Fin 6) :
    (s.controlStep cap computing z).HeaterLaw := by
  refine h.zones (by rw [(s.controlStep_frame cap computing z).1]) fun j live hj => ?_
  rw [State.controlStep_get]
  split
  · exact hj.controlled _ _
  · exact hj

theorem State.HeaterLaw.budgetStage (cap : PassCapture) (comp : Fin 6 → Bool) : (s.budgetStage cap comp).HeaterLaw := by
  refine h.zones (by rw [State.budgetStage_slot]) fun z live hz => ?_
  unfold State.budgetStage
  split
  · rw [State.holdStage_zones, State.grantStage_get]
    exact hz.grant _ _
  · exact hz

theorem State.HeaterLaw.passCompletes (cap : PassCapture) (codes : Bank Nat 6) :
    (s.passCompletes cap codes).HeaterLaw := by
  have begun : (s.setTherm { s.therm with pass := none }).HeaterLaw := h.zones rfl fun _ _ hz => hz
  have turned : ((s.setTherm { s.therm with pass := none }).zonesTurn cap codes (s.computing cap)).HeaterLaw :=
    begun.foldl (fun _ z hu => hu.zoneStep cap _ _ z) _
  have controlled := turned.foldl (fun _ z hu => hu.controlStep cap (s.computing cap z) z) (List.finRange 6)
  exact (State.HeaterLaw.budgetStage controlled cap _).armingTest

/-- R95: a zone without a grant takes no duty. -/
theorem State.HeaterLaw.takeGrants : (s.setTherm { s.therm with
    zones := s.therm.zones.map fun z => { z with appliedDuty := z.granted } }).HeaterLaw := by
  refine h.zones rfl fun z live hz => ?_
  rw [State.setTherm_therm, Bank.get_map]
  refine ⟨fun off => ?_, hz.2⟩
  obtain ⟨u, granted, -⟩ := hz.1 off
  exact ⟨u, granted, granted⟩

/-! ### Credit and play -/

theorem State.HeaterLaw.nextInterval : s.nextInterval.HeaterLaw := by
  unfold State.nextInterval
  split
  · split
    · exact s.enterDraining_lawful _
    · exact h.still
  · exact h

theorem State.HeaterLaw.completeAll (credited : Fin 48 → Bool) : (s.completeAll credited).HeaterLaw := by
  refine h.foldl (fun u k hu => ?_) _
  split
  · exact hu.complete k
  · exact hu

theorem State.HeaterLaw.creditExpires : s.creditExpires.HeaterLaw := by
  have advanced : s.advanceSeconds.grantCredit.note.HeaterLaw := by
    unfold State.advanceSeconds
    dsimp only
    split <;> exact h.still
  exact (advanced.completeAll _).nextInterval

theorem State.HeaterLaw.judgeSocket (k : Fin 48) : (s.judgeSocket k).HeaterLaw := by
  have logged (f : CompareRec → CompareRec) : ((s.modCompare k f).logFunctional k).HeaterLaw := by
    unfold State.logFunctional
    dsimp only
    split <;> exact h.still (by simp) (by simp)
  unfold State.judgeSocket
  dsimp only
  split
  · split
    · exact logged _
    · exact (logged _).retire k _
  · exact h

theorem State.HeaterLaw.storePassEnd (wasTail : Bool) : (s.storePassEnd wasTail).HeaterLaw := by
  unfold State.storePassEnd State.streamEnd State.loopEnd State.tailEnd
  dsimp only
  (repeat' split) <;> exact h.still (by simp) (by simp)

theorem State.HeaterLaw.passEnd (checked wasTail : Bool) : (s.passEnd checked wasTail).HeaterLaw := by
  have judged : (if checked then s.judgePass else s).HeaterLaw := by
    split
    · exact h.foldl (fun _ k hu => hu.judgeSocket k) _
    · exact h
  unfold State.passEnd
  generalize (if checked = true then s.judgePass else s) = u at judged
  dsimp only
  split
  · have cleared : (if checked then u.setExer u.exer.clearWindows else u).applyStaged.HeaterLaw := by
      split <;> exact judged.still (by simp) (by simp)
    exact (cleared.storePassEnd wasTail).still
  · exact judged

theorem State.HeaterLaw.vectorFollows : s.vectorFollows.HeaterLaw := by
  unfold State.vectorFollows
  (repeat' split) <;> exact h.still (by simp) (by simp)

theorem State.HeaterLaw.vectorEnds : s.vectorEnds.HeaterLaw := by
  have applied : (s.setExer s.exer.advanceClocks).applyBoundary.HeaterLaw := h.still (by simp) (by simp)
  have followed (u : State) (hu : u.HeaterLaw) : (if u.exer.state.isPlaying then u.vectorFollows else u).HeaterLaw := by
    split
    · exact hu.vectorFollows
    · exact hu
  unfold State.vectorEnds
  generalize (s.setExer s.exer.advanceClocks).applyBoundary = u at applied
  dsimp only
  split
  · refine followed _ ?_
    split
    · exact applied.passEnd _ _
    · exact applied.still
  · exact applied

theorem State.HeaterLaw.strobes (lines : BitVec 48) : (s.strobes lines).HeaterLaw := by
  unfold State.strobes
  (repeat' split) <;> exact h.still

/-! ### The slot state machine and the resets -/

/-- Outside a run the slot moves without its zones. -/
theorem State.HeaterLaw.moveTo (x : SlotState) (before : s.slot.state.inRun = false) (after : x.inRun = false) :
    (s.moveTo x).HeaterLaw :=
  h.still rfl (by simp [before, after])

theorem State.HeaterLaw.enterIdentifying (before : s.slot.state.inRun = false) : s.enterIdentifying.HeaterLaw :=
  State.HeaterLaw.moveTo (s := s.discardIdentity.setIdent _) h.discardIdentity.still .identifying before rfl

theorem State.HeaterLaw.unseat : s.unseat.HeaterLaw := by
  unfold State.unseat
  dsimp only
  split
  · exact State.enterSafe_lawful _ _ _ _ _
  · next idle =>
    have before : s.slot.state.inRun = false := SlotState.inRun_of_not_live idle
    have unseated (x : SlotRec) (same : x.state = s.slot.state) : (s.setSlot x).discardIdentity.HeaterLaw :=
      (h.still rfl (by rw [State.setSlot_slot, same]) : (s.setSlot x).HeaterLaw).discardIdentity
    split
    · exact State.HeaterLaw.moveTo (unseated _ rfl).still _ before rfl
    · exact State.HeaterLaw.moveTo (unseated _ rfl).still _ before rfl
    · exact State.HeaterLaw.moveTo (unseated _ rfl).still _ before rfl
    · exact (unseated _ rfl).still

theorem State.HeaterLaw.seatFound : s.seatFound.HeaterLaw := by
  have seated (x : SlotRec) (same : x.state = s.slot.state) : (s.setSlot x).HeaterLaw :=
    h.still rfl (by rw [State.setSlot_slot, same])
  unfold State.seatFound
  dsimp only
  split
  · next empty => exact (seated _ rfl).enterIdentifying (by simp [empty, SlotState.inRun])
  · exact seated _ rfl

theorem State.HeaterLaw.chainOpens : s.chainOpens.HeaterLaw := by
  unfold State.chainOpens
  dsimp only
  split
  · exact State.enterSafe_lawful _ _ _ _ _
  · exact h.still

theorem State.HeaterLaw.silenceExpires : s.silenceExpires.HeaterLaw := by
  unfold State.silenceExpires
  dsimp only
  split
  · exact State.enterSafe_lawful _ _ _ _ _
  · exact h.still

theorem State.HeaterLaw.attemptFails (attempting : s.attempting = true) : s.attemptFails.HeaterLaw := by
  unfold State.attemptFails
  split
  · exact h.still
  · exact State.HeaterLaw.moveTo h.still _ (State.attempting_inRun (s := s) attempting) rfl

theorem State.HeaterLaw.attemptEnds (attempting : s.attempting = true) (read : BusRead) :
    (s.attemptEnds read).HeaterLaw := by
  unfold State.attemptEnds
  split
  · exact h.attemptFails attempting
  · split
    · exact State.HeaterLaw.moveTo h.still _ (State.attempting_inRun (s := s) attempting) rfl
    · exact h.attemptFails attempting

theorem State.HeaterLaw.drainEnds (draining : s.slot.state = .draining) : s.drainEnds.HeaterLaw := by
  refine State.HeaterLaw.moveTo (h.still : (s.setSlot _).HeaterLaw) _ (by simp [draining, SlotState.inRun]) ?_
  split <;> rfl

omit h in
theorem State.fullReset_lawful (s : State) (straps : Straps) (cause : RestartCause) :
    (s.fullReset straps cause).HeaterLaw := by
  intro z
  have rested : (s.fullReset straps cause).therm.zones.get z = ZoneRec.atReset := Bank.get_replicate _ z
  rw [rested]
  exact ZoneRec.Lawful.at_rest rfl rfl rfl rfl

end Operations

/-! ### The message rules (11.5) -/

section Rules

variable (c : Call)

/-- R79: a run begins with every zone REGULATING. -/
theorem State.startRun_lawful (s : State) (choice : StartChoice) (g : General) (d : Identity) :
    (s.startRun choice g d).HeaterLaw := by
  rw [State.heaterLaw_iff, State.startRun_slot, State.startRun_therm]
  intro z
  rw [Bank.get_ofFn]
  exact ZoneRec.begin_lawful _ _

variable {s : State} (h : s.HeaterLaw)

include h

/-- R39, R97: the run copies written, each zone's state and duty stay. -/
theorem State.HeaterLaw.writeZones (x : ZoneSection) (addressed : Fin 6 → Bool) :
    (s.writeZones x addressed).HeaterLaw := by
  refine h.zones rfl fun z live hz => ?_
  change ZoneRec.Lawful live ((Bank.ofFn _).get z)
  rw [Bank.get_ofFn]
  split <;> exact hz

theorem handleRelease_lawful : (handleRelease c s).state.HeaterLaw := by
  unfold handleRelease
  split
  · next hold =>
    exact State.HeaterLaw.moveTo h.still _ (by rw [State.setSlot_slot, SlotRec.watchMake_eq, hold]; rfl) rfl
  · exact h

theorem handleReidentify_lawful : (handleReidentify c s).state.HeaterLaw := by
  unfold handleReidentify
  split
  · next was => exact h.enterIdentifying (by rw [was]; rfl)
  · next was => exact h.enterIdentifying (by rw [was]; rfl)
  · exact h

theorem handleStart_lawful : (handleStart c s).state.HeaterLaw := by
  have tried (choice : StartChoice) : (s.tryStart choice).state.HeaterLaw := by
    unfold State.tryStart
    split
    · exact h
    · split
      · exact h
      · split
        · exact h
        · exact h
        · split
          · exact h
          · exact s.startRun_lawful _ _ _
  unfold handleStart
  split
  · exact h
  · split
    · exact tried _
    · exact h
    · exact h

theorem handleGo_lawful : (handleGo c s).state.HeaterLaw := by
  unfold handleGo
  split
  · exact State.HeaterLaw.armingTest h.still
  · exact h
  · exact h
  · exact h

theorem handleStop_lawful : (handleStop c s).state.HeaterLaw := by
  unfold handleStop
  split
  · exact s.enterDraining_lawful _
  · exact s.enterDraining_lawful _
  · exact h
  · exact h

theorem handleClearSafe_lawful : (handleClearSafe c s).state.HeaterLaw := by
  unfold handleClearSafe
  split
  · next safe =>
    have before : s.slot.state.inRun = false := by rw [safe]; rfl
    split
    · exact h
    · change s.clearSafe.HeaterLaw
      unfold State.clearSafe
      split
      · split
        · exact h.moveTo _ before rfl
        · exact h.enterIdentifying before
      · exact State.HeaterLaw.moveTo h.still _ before rfl
  · exact h
  · exact h

theorem handleRetireSocket_lawful : (handleRetireSocket c s).state.HeaterLaw := by
  unfold handleRetireSocket
  split
  · split
    · split
      · exact h.retire _ _
      · exact h
    · exact h
  · exact h

theorem handlePause_lawful : (handlePause c s).state.HeaterLaw := by
  unfold handlePause
  split
  · rw [State.ok_state]
    split
    · exact h
    · exact h.still (by simp [State.setPaused]) (by simp [State.setPaused])
  · exact h

theorem handleResume_lawful : (handleResume c s).state.HeaterLaw := by
  unfold handleResume
  split
  · rw [State.ok_state]
    split
    · exact h.still (by simp [State.setPaused]) (by simp [State.setPaused])
    · exact h
  · exact h

theorem handleSetZone_lawful : (handleSetZone c s).state.HeaterLaw := by
  unfold handleSetZone
  split
  · split
    · exact h
    · split
      · exact h
      · exact h.writeZones _ _
  · exact h

theorem handleSetRail_lawful : (handleSetRail c s).state.HeaterLaw := by
  unfold handleSetRail State.retargetRail
  dsimp only
  (repeat' split) <;> exact h.still

theorem handleSetBudget_lawful : (handleSetBudget c s).state.HeaterLaw := by
  unfold handleSetBudget
  (repeat' split) <;> exact h

theorem handleExerciseStart_lawful : (handleExerciseStart c s).state.HeaterLaw := by
  unfold handleExerciseStart
  split
  · rw [State.ok_state]
    split
    · unfold State.startPlay State.restartPlay
      (repeat' split) <;> exact h.still (by simp) (by simp)
    · exact h
  · exact h

theorem handleExerciseStop_lawful : (handleExerciseStop c s).state.HeaterLaw := by
  unfold handleExerciseStop
  split
  · rw [State.ok_state]
    split
    · unfold State.stopPlay
      split <;> exact h.still
    · exact h
  · exact h

theorem handleFrameData_lawful : (handleFrameData c s).state.HeaterLaw := by
  unfold handleFrameData
  dsimp only
  split
  · exact h
  · split
    · exact h
    · change (State.deliver _ _ _ _).HeaterLaw
      unfold State.deliver State.frameReady
      dsimp only
      (repeat' split) <;> exact h.still (by simp) (by simp)

/-- Every message rule keeps the heaters' law. -/
theorem ruleOf_lawful (k : Kind) : (ruleOf k c s).state.HeaterLaw := by
  cases k with
  | release => exact handleRelease_lawful c h
  | reidentify => exact handleReidentify_lawful c h
  | start => exact handleStart_lawful c h
  | go => exact handleGo_lawful c h
  | stop => exact handleStop_lawful c h
  | pause => exact handlePause_lawful c h
  | resume => exact handleResume_lawful c h
  | clearSafe => exact handleClearSafe_lawful c h
  | retireSocket => exact handleRetireSocket_lawful c h
  | setZone => exact handleSetZone_lawful c h
  | setRail => exact handleSetRail_lawful c h
  | setBudget => exact handleSetBudget_lawful c h
  | frameData => exact handleFrameData_lawful c h
  | exerciseStart => exact handleExerciseStart_lawful c h
  | exerciseStop => exact handleExerciseStop_lawful c h
  | ping | status | restart | readZones | readRails => exact h
  | purgeFrames => exact h.still (by simp [ruleOf, handlePurgeFrames]) (by simp [ruleOf, handlePurgeFrames])
  | setLink =>
    simp only [ruleOf, handleSetLink]
    split <;> exact h.still
  | setClass =>
    simp only [ruleOf, handleSetClass]
    split <;> split <;> exact h.still
  | ackClasses =>
    simp only [ruleOf, handleAckClasses]
    split <;> exact h.still
  | readUnanswered =>
    simp only [ruleOf, handleReadUnanswered]
    split <;> exact h.still
  | linkStats =>
    simp only [ruleOf, handleLinkStats]
    (repeat' split) <;> exact h.still
  | readIdentity =>
    simp only [ruleOf, handleReadIdentity]
    (repeat' split) <;> exact h.still
  | loadRecipe =>
    simp only [ruleOf, handleLoadRecipe]
    (repeat' split) <;> exact h.still
  | readRecipe =>
    simp only [ruleOf, handleReadRecipe]
    (repeat' split) <;> exact h.still
  | setTiming =>
    simp only [ruleOf, handleSetTiming]
    (repeat' split) <;> exact h.still (by simp) (by simp)
  | setChannel =>
    simp only [ruleOf, handleSetChannel]
    (repeat' split) <;> exact h.still (by simp) (by simp)
  | setPlay =>
    simp only [ruleOf, handleSetPlay]
    (repeat' split) <;> exact h.still (by simp) (by simp)
  | frameOpen =>
    simp only [ruleOf, handleFrameOpen]
    (repeat' split) <;> exact h.still
  | frameCancel =>
    simp only [ruleOf, handleFrameCancel]
    (repeat' split) <;> exact h.still
  | readStore =>
    simp only [ruleOf, handleReadStore]
    split <;> exact h.still
  | readSockets =>
    simp only [ruleOf, handleReadSockets]
    split <;> exact h.still
  | fetchFailures =>
    simp only [ruleOf, handleFetchFailures]
    (repeat' split) <;> exact h.still
  | armCapture =>
    simp only [ruleOf, handleArmCapture]
    (repeat' split) <;> exact h.still
  | readCapture =>
    simp only [ruleOf, handleReadCapture]
    (repeat' split) <;> exact h.still

end Rules

/-! ### Every step -/

/-- Link, notices and queue do not show in the heaters' law. -/
theorem State.heaterLaw_blind : LinkBlind State.HeaterLaw where
  link _ h := h.still
  notice _ h := h.still
  pending _ h := h.still

/-- The part's own events, one by one. -/
theorem exec_event_lawful (i : Instr) {s t : State} (message : i.message = none) (line : lineEvent i = false)
    (h : s.HeaterLaw) (ran : exec i s = .next t) : t.HeaterLaw := by
  cases i with
  | powerOn straps => cases ran; exact s.fullReset_lawful straps _
  | pinReset straps => cases ran; exact s.fullReset_lawful straps _
  | restartShutOff straps =>
    cases ran
    split
    · exact s.fullReset_lawful straps .command
    · exact h
  | seatContactChange a b =>
    cases ran
    exact h.still rfl (by rw [State.setSlot_slot, SlotRec.contactsChange_state])
  | seatMakeTimerExpiry =>
    cases ran
    split
    · exact h.seatFound
    · exact h
  | seatOpenTimerExpiry =>
    cases ran
    split
    · exact h.unseat
    · exact h
  | safetyChainOpen level =>
    cases ran
    split
    · exact h.chainOpens
    · exact h.still
  | identityAttemptEnd read =>
    cases ran
    split
    · next attempting => exact h.attemptEnds attempting read
    · exact h
  | identityAttemptTimeout =>
    cases ran
    split
    · next attempting => exact h.attemptFails attempting
    · exact h
  | identityRetryWaitExpiry =>
    cases ran
    split <;> exact h.still
  | armTimerExpiry =>
    cases ran
    split
    · exact s.enterDraining_lawful _
    · exact h
  | drainTimerExpiry =>
    cases ran
    split
    · next draining =>
      rw [Bool.and_eq_true, beq_iff_eq] at draining
      exact h.drainEnds draining.2
    · exact h
  | railDrainStep =>
    cases ran
    split <;> exact h.still
  | linkSilenceExpiry =>
    cases ran
    split
    · exact h.silenceExpires
    · exact h
  | railSample readings => cases ran; exact h.railSampled readings
  | settleTimerExpiry rail =>
    cases ran
    split
    · exact h.settleExpires rail
    · exact h
  | socketSample k ma => cases ran; exact h.socketSampled k ma
  | blankingExpiry k => cases ran; exact h.still
  | cooldownExpiry k =>
    cases ran
    split
    · exact h.cooldownExpires k
    · exact h
  | controlPassStart => cases ran; exact h
  | controlPassComplete codes =>
    cases ran
    split
    · exact h.passCompletes _ codes
    · exact h
  | heaterPwmFrameStart => cases ran; exact h.takeGrants
  | creditIntervalExpiry =>
    cases ran
    split
    · exact h.creditExpires
    · exact h
  | vectorEnd =>
    cases ran
    split
    · exact h.vectorEnds
    · exact h
  | vectorStrobe lines =>
    cases ran
    split
    · exact h.strobes lines
    · exact h
  | lineCharacter | lineCharacterTimeout | replyStart | replyComplete | unknownKind =>
    exact (Bool.false_ne_true line.symm).elim
  | _ => cases message

/-- Settles O55: the line's events by what the rules keep, the part's own events one by one. -/
theorem heatersStayLawful : Obligations.HeatersStayLawful := by
  unfold Obligations.HeatersStayLawful
  exact State.heaterLaw_blind.keptByStep (fun k c _ h => ruleOf_lawful c h k)
    (fun i _ _ message line h ran => exec_event_lawful i message line h ran)

end Sys2Proof.Machine
end

section
/-! A computing zone (R84 to R94): its turn by the state it is in and the code it reads, and its record at the end of
the completion. -/

namespace Sys2Proof.Machine

/-! ### The reading (R84, R85, R88) -/

/-- A zone's record after a reading that leaves it at a temperature. -/
def ZoneRec.readAt (x : ZoneRec) (code : Nat) (temp : Option Int) : ZoneRec :=
  { x with
    code := code, invalidRun := if code < 16 ∨ 4079 < code then min 3 (x.invalidRun + 1) else 0
    temperature := temp, history := x.history.push temp }

section Reading

variable {code : Nat} (x : ZoneRec)

theorem ZoneRec.read_readAt (board : Option ZoneBoard) (usable : Bool) :
    x.read code board usable = x.readAt code (x.read code board usable).temperature :=
  x.read_eq code board usable

/-- An invalid code holds the temperature. -/
theorem ZoneRec.read_invalid (bad : code < 16 ∨ 4079 < code) (board : Option ZoneBoard) (usable : Bool) :
    x.read code board usable = x.readAt code x.temperature := by
  have held : (x.read code board usable).temperature = x.temperature := by
    rw [ZoneRec.read_temperature]
    cases board with
    | none => rfl
    | some b => exact if_pos (or_assoc.mp (.inl bad))
  rw [ZoneRec.read_readAt, held]

/-- A valid code is converted by the captured table. -/
theorem ZoneRec.read_valid (good : ¬ (code < 16 ∨ 4079 < code)) (b : ZoneBoard) :
    x.read code (some b) true = x.readAt code (some (interpolate b.table code)) := by
  have converted : (x.read code (some b) true).temperature = some (interpolate b.table code) := by
    rw [ZoneRec.read_temperature]
    exact if_neg (by simpa using good)
  rw [ZoneRec.read_readAt, converted]

theorem ZoneRec.turned_invalid (bad : code < 16 ∨ 4079 < code) (c : ZoneCapture) (board : Option ZoneBoard)
    (usable : Bool) : x.turned code c board usable true = (x.readAt code x.temperature).classifiedInvalid := by
  rw [ZoneRec.turned, if_pos rfl, ZoneRec.read_invalid x bad]
  exact if_pos ((codeInvalid_iff code).mpr bad)

theorem ZoneRec.turned_valid (good : ¬ (code < 16 ∨ 4079 < code)) (c : ZoneCapture) (b : ZoneBoard) :
    x.turned code c (some b) true true =
      (x.readAt code (some (interpolate b.table code))).classifiedValid (interpolate b.table code) c b := by
  rw [ZoneRec.turned, if_pos rfl, ZoneRec.read_valid x good]
  exact if_neg (mt (codeInvalid_iff code).mp good)

end Reading

/-! ### The tests of a temperature (R87, R89 to R91) -/

theorem tripTest_iff (t : Int) (c : ZoneCapture) (b : ZoneBoard) :
    tripTest t c b = true ↔ c.setpoint + c.margin ≤ t ∨ b.absLimit ≤ t := by
  simp [tripTest]

theorem returnTest_iff (t : Int) (c : ZoneCapture) (b : ZoneBoard) :
    returnTest t c b = true ↔ t ≤ c.setpoint + c.window ∧ t < b.absLimit := by
  simp [returnTest]

theorem windowTest_iff (t : Int) (c : ZoneCapture) :
    windowTest t c = true ↔ t ≤ c.setpoint + c.window ∧ c.setpoint ≤ t + c.window := by
  simp [windowTest]

/-- R90 -/
theorem ZoneRec.judgeWindow_eq (x : ZoneRec) (t : Int) (c : ZoneCapture) :
    x.judgeWindow t c = { x with
      inWindow := decide (t ≤ c.setpoint + c.window ∧ c.setpoint ≤ t + c.window)
      breaches := if t ≤ c.setpoint + c.window ∧ c.setpoint ≤ t + c.window then x.breaches else x.breaches + 1 } := by
  unfold ZoneRec.judgeWindow
  by_cases fits : t ≤ c.setpoint + c.window ∧ c.setpoint ≤ t + c.window
  · rw [if_pos ((windowTest_iff t c).mpr fits)]
    simp [fits]
  · rw [if_neg (mt (windowTest_iff t c).mp fits)]
    simp [fits]

/-! ### The turn, by the state of the zone as it has been read -/

/-- A zone out of its window, with no breach (R86). -/
def ZoneRec.outOfWindow (x : ZoneRec) : ZoneRec := { x with inWindow := false }

section Turn

variable {s : State} {z : Fin 6} {y : ZoneRec}

/-- R86: the third invalid reading in a row. -/
theorem State.classifyInvalid_fails (active : y.state = .regulating ∨ y.state = .tripped) (third : y.invalidRun = 3) :
    (s.putZone z y).classifyInvalid z = (s.putZone z y).sensorFails z := by
  unfold State.classifyInvalid
  rcases active with was | was <;> simp [was, third]

/-- R86: an invalid reading before the third. -/
theorem State.classifyInvalid_marks (active : y.state = .regulating ∨ y.state = .tripped)
    (before : y.invalidRun ≠ 3) :
    (s.putZone z y).classifyInvalid z = s.putZone z y.outOfWindow := by
  unfold State.classifyInvalid
  rcases active with was | was <;> simp [was, before, State.putZone_modZone, ZoneRec.outOfWindow]

theorem State.classifyInvalid_stays (off : y.state = .sensorFailed ∨ y.state = .idle) :
    (s.putZone z y).classifyInvalid z = s.putZone z y := by
  unfold State.classifyInvalid
  rcases off with was | was <;> simp [was]

variable {t : Int} {c : ZoneCapture} {b : ZoneBoard}

/-- R87, R89 -/
theorem State.classifyValid_trips (active : y.state = .regulating ∨ y.state = .sensorFailed)
    (trips : c.setpoint + c.margin ≤ t ∨ b.absLimit ≤ t) :
    (s.putZone z y).classifyValid z t c b = (s.putZone z y).zoneTrips z t := by
  have test := (tripTest_iff t c b).mpr trips
  unfold State.classifyValid
  rcases active with was | was <;> simp [was, test]

/-- R90 -/
theorem State.classifyValid_judges (was : y.state = .regulating)
    (holds : ¬ (c.setpoint + c.margin ≤ t ∨ b.absLimit ≤ t)) :
    (s.putZone z y).classifyValid z t c b = s.putZone z (y.judgeWindow t c) := by
  have test := mt (tripTest_iff t c b).mp holds
  unfold State.classifyValid
  simp [was, test, State.putZone_modZone]

/-- R87, R91 -/
theorem State.classifyValid_returns
    (back : y.state = .tripped ∧ (t ≤ c.setpoint + c.window ∧ t < b.absLimit)
      ∨ y.state = .sensorFailed ∧ ¬ (c.setpoint + c.margin ≤ t ∨ b.absLimit ≤ t)) :
    (s.putZone z y).classifyValid z t c b =
      ((s.putZone z { y with state := .regulating, integrator := 0 }).releaseZone z).modZone z
        fun x => x.judgeWindow t c := by
  have returns : (s.putZone z y).classifyValid z t c b = (s.putZone z y).zoneReturns z t c := by
    unfold State.classifyValid
    rcases back with ⟨was, cool⟩ | ⟨was, holds⟩
    · simp [was, (returnTest_iff t c b).mpr cool]
    · simp [was, mt (tripTest_iff t c b).mp holds]
  rw [returns, State.zoneReturns, State.putZone_modZone]

/-- R91: a TRIPPED zone that is still too hot, or one that is IDLE. -/
theorem State.classifyValid_stays
    (stays : y.state = .tripped ∧ ¬ (t ≤ c.setpoint + c.window ∧ t < b.absLimit) ∨ y.state = .idle) :
    (s.putZone z y).classifyValid z t c b = s.putZone z y := by
  unfold State.classifyValid
  rcases stays with ⟨was, hot⟩ | was
  · simp [was, mt (returnTest_iff t c b).mp hot]
  · simp [was]

variable (s z) (cap : PassCapture) {code : Nat}

theorem State.zoneStep_invalid (bad : code < 16 ∨ 4079 < code) :
    s.zoneStep cap code true z =
      (s.putZone z ((s.therm.zones.get z).readAt code (s.therm.zones.get z).temperature)).classifyInvalid z := by
  change State.classify (s.putZone z ((s.therm.zones.get z).read _ _ _)) z _ _ _ = _
  rw [ZoneRec.read_invalid _ bad]
  exact if_pos ((codeInvalid_iff code).mpr bad)

theorem State.zoneStep_valid (good : ¬ (code < 16 ∨ 4079 < code)) {b : Bank ZoneBoard 6} (board : cap.board = some b)
    (present : s.ident.record.isSome = true) :
    s.zoneStep cap code true z =
      (s.putZone z ((s.therm.zones.get z).readAt code (some (interpolate (b.get z).table code)))).classifyValid z
        (interpolate (b.get z).table code) (cap.zones.get z) (b.get z) := by
  have captured : boardOf cap z = some (b.get z) := by rw [boardOf, board]; rfl
  change State.classify (s.putZone z ((s.therm.zones.get z).read _ _ _)) z _ _ _ = _
  rw [captured, present, ZoneRec.read_valid _ good]
  unfold State.classify
  rw [if_neg (mt (codeInvalid_iff code).mp good), State.putZone_get_self]
  rfl

end Turn

/-! ### The turn seen on the record alone -/

section Outcome

variable {x : ZoneRec} {t : Int} {c : ZoneCapture} {b : ZoneBoard}

theorem ZoneRec.classifiedInvalid_fails (active : x.state = .regulating ∨ x.state = .tripped)
    (third : x.invalidRun = 3) : x.classifiedInvalid = x.shutTo .sensorFailed := by
  unfold ZoneRec.classifiedInvalid
  rcases active with was | was <;> simp [was, third]

theorem ZoneRec.classifiedInvalid_marks (active : x.state = .regulating ∨ x.state = .tripped)
    (before : x.invalidRun ≠ 3) : x.classifiedInvalid = { x with inWindow := false } := by
  unfold ZoneRec.classifiedInvalid
  rcases active with was | was <;> simp [was, before]

theorem ZoneRec.classifiedInvalid_stays (off : x.state = .sensorFailed) : x.classifiedInvalid = x := by
  unfold ZoneRec.classifiedInvalid
  simp [off]

theorem ZoneRec.classifiedValid_trips (active : x.state = .regulating ∨ x.state = .sensorFailed)
    (trips : tripTest t c b = true) : x.classifiedValid t c b = x.shutTo .tripped := by
  unfold ZoneRec.classifiedValid
  rcases active with was | was <;> simp [was, trips]

theorem ZoneRec.classifiedValid_judges (was : x.state = .regulating) (holds : ¬ tripTest t c b = true) :
    x.classifiedValid t c b = x.judgeWindow t c := by
  unfold ZoneRec.classifiedValid
  simp [was, holds]

theorem ZoneRec.classifiedValid_returns
    (back : x.state = .tripped ∧ returnTest t c b = true ∨ x.state = .sensorFailed ∧ ¬ tripTest t c b = true) :
    x.classifiedValid t c b = x.returned t c := by
  unfold ZoneRec.classifiedValid
  rcases back with ⟨was, test⟩ | ⟨was, test⟩ <;> simp [was, test]

theorem ZoneRec.classifiedValid_stays (was : x.state = .tripped) (out : ¬ returnTest t c b = true) :
    x.classifiedValid t c b = x := by
  unfold ZoneRec.classifiedValid
  simp [was, out]

/-- A classification leaves what the reading wrote. -/
theorem ZoneRec.classified_reading (x : ZoneRec) (code : Nat) (c : ZoneCapture) (board : Option ZoneBoard) :
    (x.classified code c board).code = x.code ∧ (x.classified code c board).invalidRun = x.invalidRun := by
  have window (y : ZoneRec) (t : Int) :
      (y.judgeWindow t c).code = y.code ∧ (y.judgeWindow t c).invalidRun = y.invalidRun := by
    rw [ZoneRec.judgeWindow_eq]
    exact ⟨rfl, rfl⟩
  unfold ZoneRec.classified ZoneRec.classifiedInvalid ZoneRec.classifiedValid
  (repeat' split) <;> simp [window, ZoneRec.returned, ZoneRec.shutTo, ZoneRec.shutHeater]

end Outcome

/-! ### The controller and the grant (R92 to R94, R102) -/

/-- A zone's record after the controllers and the grants. -/
def ZoneRec.finished (x : ZoneRec) (c : ZoneCapture) (allowance demand : Nat) : ZoneRec :=
  (x.controlled c true).grant allowance demand

/-- R92 to R94: the controller's integrator and output at a temperature, from an integrator and from the output and the
limited mark of the pass before. -/
def ZoneRec.ControlledAt (x y : ZoneRec) (c : ZoneCapture) (temp start : Int) : Prop :=
  let e := max (-2048) (min 2047 (c.setpoint - temp))
  let frozen := (0 < e ∧ (x.u = 1000 ∨ x.limited = true)) ∨ (e < 0 ∧ x.u = 0)
  (frozen → (y.integrator : Int) = start)
    ∧ (¬ frozen → (y.integrator : Int) = max 0 (min 64000 (start + c.ki * e)))
    ∧ (y.u : Int) = max 0 (min 1000 (c.kp * e / 64 + (y.integrator : Int) / 64))

section Controller

variable (x : ZoneRec) (c : ZoneCapture) (a q : Nat)

theorem ZoneRec.frozen_iff (e : Int) :
    x.frozen e = true ↔ (0 < e ∧ (x.u = 1000 ∨ x.limited = true)) ∨ (e < 0 ∧ x.u = 0) := by
  simp [ZoneRec.frozen]

theorem ZoneRec.control_controlledAt {temp : Int} (held : x.temperature = some temp) :
    x.ControlledAt (x.control c) c temp x.integrator := by
  have error : controlError c.setpoint temp = max (-2048) (min 2047 (c.setpoint - temp)) := clampInt_eq (by decide) _
  unfold ZoneRec.ControlledAt ZoneRec.control
  rw [held]
  dsimp only
  rw [error]
  generalize max (-2048) (min 2047 (c.setpoint - temp)) = e
  rw [clampInt_eq (by decide), clampInt_eq (by decide)]
  refine ⟨fun frozen => ?_, fun moves => ?_, ?_⟩
  · rw [if_pos ((x.frozen_iff e).mpr frozen)]
  · rw [if_neg (mt (x.frozen_iff e).mp moves)]
    omega
  · rw [Int.toNat_of_nonneg (le_max_left _ _), Int.natCast_ediv]
    rfl

/-- Controller and grant move the integrator, the output, the granted duty and the limited mark. -/
theorem ZoneRec.finished_eq :
    x.finished c a q = { x with
      integrator := (x.finished c a q).integrator, u := (x.finished c a q).u
      granted := (x.finished c a q).granted, limited := (x.finished c a q).limited } := by
  unfold ZoneRec.finished ZoneRec.controlled ZoneRec.control
  dsimp only
  (repeat' split) <;> rfl

@[simp] theorem ZoneRec.finished_state : (x.finished c a q).state = x.state := by
  rw [ZoneRec.finished_eq]

@[simp] theorem ZoneRec.finished_temperature : (x.finished c a q).temperature = x.temperature := by
  rw [ZoneRec.finished_eq]

@[simp] theorem ZoneRec.finished_inWindow : (x.finished c a q).inWindow = x.inWindow := by
  rw [ZoneRec.finished_eq]

@[simp] theorem ZoneRec.finished_breaches : (x.finished c a q).breaches = x.breaches := by
  rw [ZoneRec.finished_eq]

/-- Only a REGULATING zone is controlled. -/
theorem ZoneRec.finished_off (off : x.state ≠ .regulating) : x.finished c a q = x.grant a q := by
  simp [ZoneRec.finished, ZoneRec.controlled, off]

theorem ZoneRec.finished_off_held (off : x.state ≠ .regulating) :
    (x.finished c a q).u = x.u ∧ (x.finished c a q).integrator = x.integrator := by
  rw [x.finished_off c a q off]
  exact ⟨rfl, rfl⟩

/-- A zone whose heater is shut is granted nothing. -/
theorem ZoneRec.finished_shutTo {st : ZoneState} (off : st ≠ .regulating) :
    (x.shutTo st).finished c a q = x.shutTo st := by
  rw [ZoneRec.finished_off (x.shutTo st) c a q off]
  simp [ZoneRec.grant, ZoneRec.shutTo, ZoneRec.shutHeater]

theorem ZoneRec.finished_on (on : x.state = .regulating) : x.finished c a q = (x.control c).grant a q := by
  simp [ZoneRec.finished, ZoneRec.controlled, on]

/-- R86: without a temperature the output is 0 and the integrator stays. -/
theorem ZoneRec.finished_blind (on : x.state = .regulating) (none_held : x.temperature = none) :
    (x.finished c a q).u = 0 ∧ (x.finished c a q).integrator = x.integrator := by
  rw [ZoneRec.finished_on x c a q on]
  unfold ZoneRec.control
  rw [none_held]
  exact ⟨rfl, rfl⟩

theorem ZoneRec.finished_controlledAt (on : x.state = .regulating) {temp : Int} (held : x.temperature = some temp) :
    x.ControlledAt (x.finished c a q) c temp x.integrator := by
  rw [ZoneRec.finished_on x c a q on]
  exact x.control_controlledAt c held

end Controller

/-- A computing zone's record once the completion has judged it. -/
theorem State.passJudged_get (s : State) (cap : PassCapture) (codes : Bank Nat 6) {z : Fin 6}
    (computing : s.computing cap z = true) :
    ∃ a q, (s.passJudged cap codes).therm.zones.get z =
      ((s.therm.zones.get z).turned (codes.get z) (cap.zones.get z) (boardOf cap z) s.ident.record.isSome
        true).finished (cap.zones.get z) a q := by
  have judged := State.budgetStage_get (((s.setTherm { s.therm with pass := none }).zonesTurn cap codes
    (s.computing cap)).zonesControl cap (s.computing cap)) cap _ computing
  rw [State.zonesControl_get, State.zonesTurn_get, computing] at judged
  exact ⟨_, _, judged⟩

/-- A zone found REGULATING and judged at T, once controlled and granted. -/
theorem ZoneRec.judged_finished (x : ZoneRec) (c : ZoneCapture) (a q : Nat) {t : Int} (on : x.state = .regulating)
    (held : x.temperature = some t) :
    ((x.judgeWindow t c).finished c a q).state = .regulating
      ∧ (((x.judgeWindow t c).finished c a q).inWindow = true ↔
          t ≤ c.setpoint + c.window ∧ c.setpoint ≤ t + c.window)
      ∧ (t ≤ c.setpoint + c.window ∧ c.setpoint ≤ t + c.window →
          ((x.judgeWindow t c).finished c a q).breaches = x.breaches)
      ∧ (¬ (t ≤ c.setpoint + c.window ∧ c.setpoint ≤ t + c.window) →
          ((x.judgeWindow t c).finished c a q).breaches = x.breaches + 1)
      ∧ x.ControlledAt ((x.judgeWindow t c).finished c a q) c t x.integrator := by
  have controlled := (x.judgeWindow t c).finished_controlledAt c a q (temp := t)
  rw [ZoneRec.judgeWindow_eq] at controlled ⊢
  refine ⟨?_, ?_, fun fits => ?_, fun out => ?_, controlled on held⟩
  · exact (ZoneRec.finished_state _ c a q).trans on
  · rw [ZoneRec.finished_inWindow]
    exact decide_eq_true_iff
  · exact (ZoneRec.finished_breaches _ c a q).trans (if_pos fits)
  · exact (ZoneRec.finished_breaches _ c a q).trans (if_neg out)

/-! ### A computing zone's record at the end of a completion -/

theorem ZoneState.of_ne_idle {st : ZoneState} (h : st ≠ .idle) :
    st = .regulating ∨ st = .tripped ∨ st = .sensorFailed := by
  cases st <;> simp at h ⊢

/-- A zone that is REGULATING after its tests, not yet judged against its window: a return starts at integrator 0. -/
def ZoneRec.regained (x : ZoneRec) : ZoneRec :=
  { x with state := .regulating, integrator := if x.state = .regulating then x.integrator else 0 }

theorem ZoneRec.regained_of_regulating {x : ZoneRec} (on : x.state = .regulating) : x.regained = x := by
  rw [ZoneRec.regained, if_pos on, ← on]

theorem ZoneRec.returned_eq {x : ZoneRec} (off : x.state ≠ .regulating) (t : Int) (c : ZoneCapture) :
    x.returned t c = x.regained.judgeWindow t c := by
  rw [ZoneRec.regained, if_neg off]
  rfl

section Completed

variable {x : ZoneRec} {code : Nat} (c : ZoneCapture) (a q : Nat)

section Invalid

variable (bad : code < 16 ∨ 4079 < code) (board : Option ZoneBoard) (usable : Bool)

include bad

/-- R86: the third invalid reading in a row. -/
theorem ZoneRec.completed_fails (active : x.state = .regulating ∨ x.state = .tripped)
    (third : (x.readAt code x.temperature).invalidRun = 3) :
    (x.turned code c board usable true).finished c a q = (x.readAt code x.temperature).shutTo .sensorFailed := by
  rw [x.turned_invalid bad, ZoneRec.classifiedInvalid_fails (x := x.readAt code x.temperature) active third,
    ZoneRec.finished_shutTo _ c a q (st := .sensorFailed) nofun]

/-- R86: an invalid reading before the third. -/
theorem ZoneRec.completed_marks (active : x.state = .regulating ∨ x.state = .tripped)
    (before : (x.readAt code x.temperature).invalidRun ≠ 3) :
    (x.turned code c board usable true).finished c a q =
      (x.readAt code x.temperature).outOfWindow.finished c a q := by
  rw [x.turned_invalid bad, ZoneRec.classifiedInvalid_marks (x := x.readAt code x.temperature) active before]
  rfl

theorem ZoneRec.completed_stays_failed (failed : x.state = .sensorFailed) :
    (x.turned code c board usable true).finished c a q = (x.readAt code x.temperature).finished c a q := by
  rw [x.turned_invalid bad, ZoneRec.classifiedInvalid_stays (x := x.readAt code x.temperature) failed]

end Invalid

section Valid

variable (good : ¬ (code < 16 ∨ 4079 < code)) {b : ZoneBoard} {t : Int} (converted : t = interpolate b.table code)

include good converted

/-- R87, R89 -/
theorem ZoneRec.completed_trips (alive : x.state ≠ .idle) (other : x.state ≠ .tripped)
    (trips : c.setpoint + c.margin ≤ t ∨ b.absLimit ≤ t) :
    (x.turned code c (some b) true true).finished c a q = (x.readAt code (some t)).shutTo .tripped := by
  subst converted
  have active : x.state = .regulating ∨ x.state = .sensorFailed :=
    (ZoneState.of_ne_idle alive).imp_right fun rest => rest.resolve_left other
  rw [x.turned_valid good, ZoneRec.classifiedValid_trips (x := x.readAt code _) active
    ((tripTest_iff _ _ _).mpr trips), ZoneRec.finished_shutTo _ c a q (st := .tripped) nofun]

/-- R91: a TRIPPED zone that is still too hot. -/
theorem ZoneRec.completed_stays_tripped (was : x.state = .tripped)
    (hot : ¬ (t ≤ c.setpoint + c.window ∧ t < b.absLimit)) :
    (x.turned code c (some b) true true).finished c a q = (x.readAt code (some t)).finished c a q := by
  subst converted
  rw [x.turned_valid good, ZoneRec.classifiedValid_stays (x := x.readAt code _) was
    (mt (returnTest_iff _ _ _).mp hot)]

/-- R87, R90, R91: a zone that stays REGULATING or returns to it. -/
theorem ZoneRec.completed_regulates (alive : x.state ≠ .idle)
    (regulates : (x.state ≠ .tripped ∧ ¬ (c.setpoint + c.margin ≤ t ∨ b.absLimit ≤ t))
      ∨ (x.state = .tripped ∧ (t ≤ c.setpoint + c.window ∧ t < b.absLimit))) :
    (x.turned code c (some b) true true).finished c a q =
      ((x.readAt code (some t)).regained.judgeWindow t c).finished c a q := by
  subst converted
  rw [x.turned_valid good]
  rcases regulates with ⟨other, holds⟩ | ⟨was, cool⟩
  · have holds := mt (tripTest_iff _ _ _).mp holds
    rcases ZoneState.of_ne_idle alive with was | was | was
    · rw [ZoneRec.classifiedValid_judges (x := x.readAt code _) was holds,
        ZoneRec.regained_of_regulating (x := x.readAt code _) was]
    · exact absurd was other
    · rw [ZoneRec.classifiedValid_returns (x := x.readAt code _) (.inr ⟨was, holds⟩),
        ZoneRec.returned_eq (x := x.readAt code _) (was.trans_ne nofun)]
  · rw [ZoneRec.classifiedValid_returns (x := x.readAt code _) (.inl ⟨was, (returnTest_iff _ _ _).mpr cool⟩),
      ZoneRec.returned_eq (x := x.readAt code _) (was.trans_ne nofun)]

end Valid

/-- Code and run of invalid readings are those of the reading, whatever follows. -/
theorem ZoneRec.completed_reading (x : ZoneRec) (code : Nat) (board : Option ZoneBoard) (usable : Bool) :
    ((x.turned code c board usable true).finished c a q).code = code
      ∧ ((x.turned code c board usable true).finished c a q).invalidRun =
          if code < 16 ∨ 4079 < code then min 3 (x.invalidRun + 1) else 0 := by
  obtain ⟨kept_code, kept_run⟩ := (x.read code board usable).classified_reading code c board
  rw [ZoneRec.finished_eq]
  exact ⟨kept_code, kept_run.trans (congrArg ZoneRec.invalidRun (x.read_eq code board usable))⟩

end Completed

/-- Settles O27: the turn by the zone's state and its tests, the completion by the record that the turn leaves. -/
theorem computingZoneIsJudgedAndControlled : Obligations.ComputingZoneIsJudgedAndControlled := by
  unfold Obligations.ComputingZoneIsJudgedAndControlled
  intro s v codes cap z c bad
  refine ⟨?_, fun flight captured now => ?_⟩
  · intro x turn put run read
    refine ⟨fun invalid => ?_, fun valid b temp board present converted => ?_⟩
    · intro y
      have turned : turn = (put v y).classifyInvalid z := v.zoneStep_invalid z cap invalid
      rw [turned]
      exact ⟨fun active => ⟨fun third => State.classifyInvalid_fails active third,
        fun before => State.classifyInvalid_marks active before.ne⟩, fun off => State.classifyInvalid_stays off⟩
    · subst converted
      intro trips back fits y judged freed returned
      have turned : turn = (put v y).classifyValid z _ c (b.get z) := v.zoneStep_valid z cap valid board present
      have window : ∀ y : ZoneRec, y.judgeWindow (interpolate (b.get z).table (codes.get z)) c = judged y :=
        fun y => y.judgeWindow_eq _ c
      have freed_judged : freed.modZone z (fun x => x.judgeWindow _ c) = returned :=
        congrArg (freed.putZone z) (window _)
      rw [turned]
      refine ⟨fun was => ⟨fun trip => State.classifyValid_trips (.inl was) trip, fun holds => ?_⟩,
        fun was => ⟨fun cool => ?_, fun hot => State.classifyValid_stays (.inl ⟨was, hot⟩)⟩,
        fun was => ⟨fun trip => State.classifyValid_trips (.inr was) trip, fun holds => ?_⟩,
        fun was => State.classifyValid_stays (.inr was)⟩
      · exact (State.classifyValid_judges (y := y) was holds).trans (congrArg (v.putZone z) (window y))
      · exact (State.classifyValid_returns (y := y) (.inl ⟨was, cool⟩)).trans freed_judged
      · exact (State.classifyValid_returns (y := y) (.inr ⟨was, holds⟩)).trans freed_judged
  · have computing : s.computing cap z = true := by
      rw [State.computing_eq]
      exact decide_eq_true ⟨captured, now⟩
    obtain ⟨a, q, done⟩ := s.passJudged_get cap codes computing
    refine ⟨s.passJudged cap codes, exec_controlPassComplete flight codes, s.passJudged_slot cap codes, ?_⟩
    intro x y run shut control
    have judged : y = (x.turned (codes.get z) c (boardOf cap z) s.ident.record.isSome true).finished c a q := done
    obtain ⟨code_read, run_read⟩ := x.completed_reading c a q (codes.get z) (boardOf cap z) s.ident.record.isSome
    have alive : x.state ≠ .idle := now
    clear_value y x
    refine ⟨judged ▸ code_read, judged ▸ run_read, fun invalid => ?_, fun valid b temp board present converted => ?_⟩
    · by_cases failed : x.state = .sensorFailed
      · rw [ZoneRec.completed_stays_failed c a q invalid _ _ failed] at judged
        subst judged
        exact ⟨ZoneRec.finished_temperature _ c a q, ZoneRec.finished_breaches _ c a q,
          fun _ other => absurd failed other, fun _ on => absurd (failed.symm.trans on) nofun,
          fun _ off => absurd (failed.symm.trans off) nofun, fun _ other => absurd failed other, fun _ => (ZoneRec.finished_state _ c a q).trans failed⟩
      · have active : x.state = .regulating ∨ x.state = .tripped :=
          (ZoneState.of_ne_idle alive).imp_right fun rest => rest.resolve_right failed
        by_cases third : run = 3
        · rw [ZoneRec.completed_fails c a q invalid _ _ active third] at judged
          subst judged
          have late : ¬ run < 3 := by omega
          exact ⟨rfl, rfl, fun before => absurd before late, fun before => absurd before late,
            fun before => absurd before late, fun _ _ => ⟨rfl, rfl, rfl, rfl, rfl, rfl, rfl, rfl⟩,
            fun other => absurd other failed⟩
        · rw [ZoneRec.completed_marks c a q invalid _ _ active third] at judged
          subst judged
          refine ⟨ZoneRec.finished_temperature _ c a q, ZoneRec.finished_breaches _ c a q,
            fun _ _ => ⟨ZoneRec.finished_state _ c a q, ZoneRec.finished_inWindow _ c a q⟩,
            fun _ on => ⟨fun temp held => ?_, fun blind => ?_⟩, fun _ off => ?_, fun same => absurd same third,
            fun other => absurd other failed⟩
          · exact (x.readAt (codes.get z) x.temperature).outOfWindow.finished_controlledAt c a q on held
          · exact ZoneRec.finished_blind _ c a q on blind
          · exact ZoneRec.finished_off_held _ c a q (off.trans_ne nofun)
    · have captured_board : boardOf cap z = some (b.get z) := by rw [boardOf, board]; rfl
      rw [captured_board, present] at judged
      intro trips back fits
      by_cases regulates : (x.state ≠ .tripped ∧ ¬ trips) ∨ (x.state = .tripped ∧ back)
      · rw [ZoneRec.completed_regulates c a q valid converted alive regulates] at judged
        have start : ((x.readAt (codes.get z) (some temp)).regained.integrator : Int)
            = if x.state = .regulating then (x.integrator : Int) else 0 := Nat.cast_ite _ _ _
        obtain ⟨on, window, fitting, breach, controlled⟩ :=
          (x.readAt (codes.get z) (some temp)).regained.judged_finished c a q (t := temp) rfl rfl
        rw [start] at controlled
        subst judged
        refine ⟨?_, fun other trip => ?_, fun was hot => ?_, fun _ => ⟨on, window, fitting, breach, controlled⟩⟩
        · rw [ZoneRec.finished_temperature, ZoneRec.judgeWindow_eq]
          rfl
        · exact absurd trip (regulates.resolve_right fun back => other back.1).2
        · exact absurd (regulates.resolve_left fun stays => stays.1 was).2 hot
      · by_cases was : x.state = .tripped
        · have hot : ¬ back := fun cool => regulates (.inr ⟨was, cool⟩)
          rw [ZoneRec.completed_stays_tripped c a q valid converted was hot] at judged
          subst judged
          exact ⟨ZoneRec.finished_temperature _ c a q, fun other => absurd was other,
            fun _ _ => ⟨(ZoneRec.finished_state _ c a q).trans was, ZoneRec.finished_breaches _ c a q⟩,
            fun other => absurd other regulates⟩
        · have trip : trips := not_not.mp fun holds => regulates (.inl ⟨was, holds⟩)
          rw [ZoneRec.completed_trips c a q valid converted alive was trip] at judged
          subst judged
          exact ⟨rfl, fun _ _ => ⟨rfl, rfl, rfl, rfl, rfl, rfl, rfl, rfl⟩, fun other => absurd other was,
            fun other => absurd other regulates⟩

end Sys2Proof.Machine
end

section
/-! The budget stage's parts one by one: the grants (R101, R102), C6A when scaling begins (R105), the budget hold (R106)
and the hold set through which it acts (R130). -/

namespace Sys2Proof.Machine

/-! ### The grants (R101, R102, R105) -/

/-- R101, R102: demand, allowance and grants, without the notice of R105. -/
def State.grants (s : State) (cap : PassCapture) : State :=
  let q := totalDemand s.therm.zones cap.board
  let a := cap.budget - s.pDut
  s.setTherm { s.therm with
    zones := s.therm.zones.map fun z => z.grant a q
    slotBudget := { s.therm.slotBudget with pDutUsed := s.pDut, demand := q, allowance := a, scaled := decide (a < q) } }

section Grants

variable (s : State) (cap : PassCapture)

/-- R105: C6A goes with the rise of the scaled flag. -/
theorem State.grantStage_eq :
    s.grantStage cap =
      if (s.grants cap).therm.slotBudget.scaled = true ∧ s.therm.slotBudget.scaled = false then
        (s.grants cap).notify 6 .a
      else s.grants cap := by
  unfold State.grantStage
  refine if_congr ?_ rfl rfl
  rw [Bool.and_eq_true, Bool.not_eq_true']
  rfl

theorem State.grantStage_therm : (s.grantStage cap).therm = (s.grants cap).therm := by
  rw [State.grantStage_eq]
  split <;> rfl

end Grants

/-! ### The hold set (R130) -/

/-- The hold set moved, before it acts. -/
def State.withHolds (s : State) (budget pause : Bool) : State :=
  s.setExer { s.exer with holdBudget := budget, holdPause := pause }

theorem ExerState.ne_playing_of_held {x : ExerState} (held : x = .held) : x ≠ .playing := held.trans_ne nofun

section HoldSet

variable {s : State} {budget pause : Bool}

/-- R130: the hold set acts when its emptiness changes, on play that runs (by the hold-requested mark) or is held (play
goes on). -/
theorem State.setHolds_eq :
    s.setHolds budget pause =
      if s.exer.holdSet = (budget || pause) then s.withHolds budget pause
      else if s.exer.state = .playing then
        (s.withHolds budget pause).setExer
          { (s.withHolds budget pause).exer with holdRequested := budget || pause }
      else if s.exer.state = .held ∧ s.exer.holdSet = true then (s.withHolds budget pause).enterPlaying
      else s.withHolds budget pause := by
  have is : ({ s.exer with holdBudget := budget, holdPause := pause } : Exerciser).holdSet = (budget || pause) := rfl
  unfold State.setHolds
  simp only [State.setExer_exer, is]
  split
  · next playing was now =>
    rw [was, now, if_neg Bool.false_ne_true, if_pos playing]
    rfl
  · next playing was now =>
    rw [was, now, if_neg Bool.false_ne_true.symm, if_pos playing]
    rfl
  · next held was now =>
    rw [was, now, if_neg Bool.false_ne_true.symm, if_neg (ExerState.ne_playing_of_held held), if_pos ⟨held, rfl⟩]
    rfl
  · next requests withdraws resumes =>
    have idle (changes : s.exer.holdSet ≠ (budget || pause)) :
        s.exer.state ≠ .playing ∧ ¬ (s.exer.state = .held ∧ s.exer.holdSet = true) := by
      cases was : s.exer.holdSet with
      | false =>
        have now : (budget || pause) = true := Bool.eq_true_of_not_eq_false fun now => changes (was.trans now.symm)
        exact ⟨fun playing => requests playing was now, fun h => Bool.false_ne_true h.2⟩
      | true =>
        have now : (budget || pause) = false := Bool.eq_false_of_not_eq_true fun now => changes (was.trans now.symm)
        exact ⟨fun playing => withdraws playing was now, fun h => resumes h.1 was now⟩
    by_cases same : s.exer.holdSet = (budget || pause)
    · exact (if_pos same).symm
    · rw [if_neg same, if_neg (idle same).1, if_neg (idle same).2]
      rfl

/-- R130: the request to stop at the next frame boundary comes and goes with the hold set. -/
theorem State.setHolds_playing {now : Bool} (playing : s.exer.state = .playing) (was : s.exer.holdSet = !now)
    (is : (budget || pause) = now) :
    s.setHolds budget pause =
      (s.withHolds budget pause).setExer { (s.withHolds budget pause).exer with holdRequested := now } := by
  rw [State.setHolds_eq, was, is, if_neg (Bool.not_ne_self now), if_pos playing]

/-- R130: held play goes on. -/
theorem State.setHolds_resumes (held : s.exer.state = .held) (was : s.exer.holdSet = true)
    (is : (budget || pause) = false) : s.setHolds budget pause = (s.withHolds budget pause).enterPlaying := by
  rw [State.setHolds_eq, was, is, if_neg Bool.false_ne_true.symm, if_neg (ExerState.ne_playing_of_held held),
    if_pos ⟨held, rfl⟩]

theorem State.setHolds_quiet
    (quiet : s.exer.holdSet = (budget || pause) ∨ (s.exer.state ≠ .playing ∧ s.exer.state ≠ .held)
      ∨ (s.exer.state = .held ∧ (budget || pause) = true)) :
    s.setHolds budget pause = s.withHolds budget pause := by
  rw [State.setHolds_eq]
  by_cases same : s.exer.holdSet = (budget || pause)
  · exact if_pos same
  · rw [if_neg same]
    rcases quiet.resolve_left same with ⟨not_playing, not_held⟩ | ⟨held, is⟩
    · rw [if_neg not_playing, if_neg fun h => not_held h.1]
    · rw [if_neg (ExerState.ne_playing_of_held held), if_neg fun h => same (h.2.trans is.symm)]

/-- Entry to PLAYING at the play position: the vector's timing and contents are taken, every clock starts again. -/
theorem State.enterPlaying_eq {f : FrameDesc} {p : Nat} (frame : s.store.currentFrame = some f)
    (position : s.exer.position = some p) :
    s.enterPlaying = s.setExer { s.exer with
      state := .playing, clockAge := Bank.replicate 16 0, vecPeriod := s.exer.timing.period,
      vecOffset := s.exer.timing.offset, strobeDue := true,
      vector := Memory.read s.store.memory ((f.first + p) % 8192) } := by
  unfold State.enterPlaying State.startVector
  simp only [State.setExer_store, State.setExer_exer, frame, position]
  rfl

end HoldSet

/-! ### The budget hold (R106) -/

section BudgetHold

variable {s : State} {cap : PassCapture}

/-- R106: the third completion over the budget in a row enters the hold. -/
theorem State.holdStage_enters (beyond : cap.budget < s.pDut) (third : 2 ≤ s.therm.slotBudget.overRun)
    (free : s.therm.slotBudget.hold = false) :
    s.holdStage cap =
      ((s.setBudgetRec { s.therm.slotBudget with overRun := 3, hold := true }).setHolds true
        s.exer.holdPause).notify 6 .b := by
  have run : min 3 (s.therm.slotBudget.overRun + 1) = 3 := by omega
  unfold State.holdStage
  dsimp only
  rw [if_pos beyond, if_pos ⟨run, free⟩, run]

theorem State.holdStage_counts (beyond : cap.budget < s.pDut)
    (early : s.therm.slotBudget.overRun < 2 ∨ s.therm.slotBudget.hold = true) :
    s.holdStage cap =
      s.setBudgetRec { s.therm.slotBudget with overRun := min 3 (s.therm.slotBudget.overRun + 1) } := by
  have stays : ¬ (min 3 (s.therm.slotBudget.overRun + 1) = 3 ∧ s.therm.slotBudget.hold = false) := by
    rintro ⟨run, free⟩
    rcases early with below | held
    · omega
    · exact absurd (free.symm.trans held) Bool.false_ne_true
  unfold State.holdStage
  dsimp only
  rw [if_pos beyond, if_neg stays]

/-- R106: a draw a sixteenth below the budget ends the hold. -/
theorem State.holdStage_ends (within : ¬ cap.budget < s.pDut) (under : s.pDut ≤ cap.budget - cap.budget / 16)
    (held : s.therm.slotBudget.hold = true) :
    s.holdStage cap =
      (s.setBudgetRec { s.therm.slotBudget with overRun := 0, hold := false }).setHolds false s.exer.holdPause := by
  unfold State.holdStage
  dsimp only
  rw [if_neg within, if_pos ⟨under, held⟩]

theorem State.holdStage_stays (within : ¬ cap.budget < s.pDut)
    (stays : ¬ s.pDut ≤ cap.budget - cap.budget / 16 ∨ s.therm.slotBudget.hold = false) :
    s.holdStage cap = s.setBudgetRec { s.therm.slotBudget with overRun := 0 } := by
  have no_end : ¬ (s.pDut ≤ cap.budget - cap.budget / 16 ∧ s.therm.slotBudget.hold = true) := fun h =>
    stays.elim (fun above => above h.1) fun free => absurd (free.symm.trans h.2) Bool.false_ne_true
  unfold State.holdStage
  dsimp only
  rw [if_neg within, if_neg no_end]

end BudgetHold

/-- Settles O29: the grants by R105's test, the hold by R106's cases, the hold set by R130's. -/
theorem budgetHoldAndHoldSet : Obligations.BudgetHoldAndHoldSet := by
  unfold Obligations.BudgetHoldAndHoldSet
  intro s cap budget pause f p b put e was is beyond under rated a q share granted
  have grants : s.grants cap = granted := rfl
  have rises : (s.grants cap).therm.slotBudget.scaled = true ↔ a < q := decide_eq_true_iff
  refine ⟨fun scaling clear => ?_, fun calm => ?_, State.holdStage_enters, State.holdStage_counts,
    State.holdStage_ends, State.holdStage_stays, State.setHolds_playing (now := true),
    State.setHolds_playing (now := false), fun held set empty frame position => ?_, State.setHolds_quiet⟩
  · rw [State.grantStage_eq, if_pos ⟨rises.mpr scaling, clear⟩, grants]
    rfl
  · have no_rise : ¬ ((s.grants cap).therm.slotBudget.scaled = true ∧ s.therm.slotBudget.scaled = false) :=
      fun h => calm.elim (rises.mp h.1).not_ge fun set => absurd (h.2.symm.trans set) Bool.false_ne_true
    rw [State.grantStage_eq, if_neg no_rise, grants]
  · rw [State.setHolds_resumes held set empty]
    exact State.enterPlaying_eq (s := s.withHolds budget pause) frame position

end Sys2Proof.Machine
end

section
/-! R102's law: what a completion grants, weighed by the rated powers, stays within the allowance. -/

namespace Sys2Proof.Machine

/-! ### Shares of an allowance (R101, R102) -/

section Shares

variable {ι : Type} (l : List ι) (u rated : ι → Nat)

/-- The demands, each rounded up, cover the heat asked for (R101). -/
theorem sum_asked_le_demand :
    (l.map fun i => u i * rated i).sum ≤ 1000 * (l.map fun i => zoneDemand (u i) (rated i)).sum := by
  rw [← List.sum_map_mul_left]
  refine List.sum_le_sum fun i _ => ?_
  unfold zoneDemand
  omega

/-- Floored shares of an allowance, in proportion to the demand, take no more than the allowance (R102). -/
theorem sum_shares_le_allowance {a q : Nat} (pos : 0 < q) (asked : (l.map fun i => u i * rated i).sum ≤ 1000 * q) :
    (l.map fun i => u i * a / q * rated i).sum ≤ 1000 * a := by
  have share (i : ι) : q * (u i * a / q * rated i) ≤ a * (u i * rated i) :=
    calc q * (u i * a / q * rated i) = q * (u i * a / q) * rated i := (Nat.mul_assoc ..).symm
      _ ≤ u i * a * rated i := Nat.mul_le_mul_right _ (Nat.mul_div_le _ _)
      _ = a * (u i * rated i) := by ring
  refine Nat.le_of_mul_le_mul_left ?_ pos
  calc q * (l.map fun i => u i * a / q * rated i).sum
      = (l.map fun i => q * (u i * a / q * rated i)).sum := (List.sum_map_mul_left ..).symm
    _ ≤ (l.map fun i => a * (u i * rated i)).sum := List.sum_le_sum fun i _ => share i
    _ = a * (l.map fun i => u i * rated i).sum := List.sum_map_mul_left ..
    _ ≤ a * (1000 * q) := Nat.mul_le_mul_left a asked
    _ = q * (1000 * a) := by ring

end Shares

/-- What the zones are granted, weighed by their rated powers. -/
def grantedHeat (zones : Bank ZoneRec 6) (b : Bank ZoneBoard 6) : Nat :=
  ((List.finRange 6).map fun z => (zones.get z).granted * (b.get z).rated).sum

theorem grantedHeat_mono {v w : Bank ZoneRec 6} (h : ∀ z, (v.get z).granted ≤ (w.get z).granted)
    (b : Bank ZoneBoard 6) : grantedHeat v b ≤ grantedHeat w b :=
  List.sum_le_sum fun z _ => Nat.mul_le_mul_right _ (h z)

/-- R102: the grants of a demand share the allowance. -/
theorem grantedHeat_grant_le (zones : Bank ZoneRec 6) (b : Bank ZoneBoard 6) (a : Nat) :
    grantedHeat (zones.map fun z => z.grant a (totalDemand zones (some b))) b ≤ 1000 * a := by
  have asked := sum_asked_le_demand (List.finRange 6) (fun z => (zones.get z).u) (fun z => (b.get z).rated)
  change _ ≤ 1000 * totalDemand zones (some b) at asked
  unfold grantedHeat
  simp only [Bank.get_map, ZoneRec.grant]
  by_cases fits : totalDemand zones (some b) ≤ a
  · simp only [if_pos fits]
    exact asked.trans (Nat.mul_le_mul_left 1000 fits)
  · simp only [if_neg fits]
    exact sum_shares_le_allowance _ _ _ (by omega) asked

/-! ### The rails in a completion -/

section Rails

variable (s : State) (z : Fin 6)

@[simp] theorem State.sensorFails_rail : (s.sensorFails z).rail = s.rail := by
  unfold State.sensorFails
  dsimp only
  split <;> simp

@[simp] theorem State.zoneTrips_rail (t : Int) : (s.zoneTrips z t).rail = s.rail := by
  unfold State.zoneTrips
  dsimp only
  split <;> simp

@[simp] theorem State.zoneReturns_rail (t : Int) (c : ZoneCapture) : (s.zoneReturns z t c).rail = s.rail := by
  simp [State.zoneReturns]

theorem State.classify_rail (code : Nat) (c : ZoneCapture) (board : Option ZoneBoard) :
    (s.classify z code c board).rail = s.rail := by
  have invalid : (s.classifyInvalid z).rail = s.rail := by
    unfold State.classifyInvalid
    dsimp only
    (repeat' split) <;> simp
  have valid (t : Int) (b : ZoneBoard) : (s.classifyValid z t c b).rail = s.rail := by
    unfold State.classifyValid
    (repeat' split) <;> simp
  unfold State.classify
  split
  · exact invalid
  · split
    · exact valid _ _
    · rfl

theorem State.zoneStep_rail (cap : PassCapture) (code : Nat) (computing : Bool) :
    (s.zoneStep cap code computing z).rail = s.rail := by
  unfold State.zoneStep
  dsimp only
  split
  · exact State.classify_rail _ z _ _ _
  · rfl

theorem State.controlStep_rail (cap : PassCapture) (computing : Bool) :
    (s.controlStep cap computing z).rail = s.rail := by
  unfold State.controlStep
  split <;> rfl

end Rails

/-! ### The budget stage of a completion -/

section Completion

variable (s : State) (cap : PassCapture) (codes : Bank Nat 6)

/-- A completion up to the controllers: every zone has what it asks for. -/
def State.passAsked : State :=
  ((s.setTherm { s.therm with pass := none }).zonesTurn cap codes (s.computing cap)).zonesControl cap (s.computing cap)

theorem State.passAsked_pDut : (s.passAsked cap codes).pDut = s.pDut := by
  have controlled := foldl_frame State.rail _ (fun t z => t.controlStep_rail z cap (s.computing cap z))
    (List.finRange 6) ((s.setTherm { s.therm with pass := none }).zonesTurn cap codes (s.computing cap))
  have turned := foldl_frame State.rail _ (fun t z => t.zoneStep_rail z cap (codes.get z) (s.computing cap z))
    (List.finRange 6) (s.setTherm { s.therm with pass := none })
  exact congrArg RailCtl.pDut (controlled.trans turned)

/-- R106: the hold moves nothing of what the grants have recorded. -/
theorem State.holdStage_slotBudget :
    (s.holdStage cap).therm.slotBudget = { s.therm.slotBudget with
      overRun := (s.holdStage cap).therm.slotBudget.overRun, hold := (s.holdStage cap).therm.slotBudget.hold } := by
  unfold State.holdStage State.setBudgetRec
  dsimp only
  split
  · split <;> simp
  · split <;> simp

/-- R101, R102: a budget stage, made with any computing zone on what the zones ask for. -/
theorem State.passJudged_grants (some_computing : ∃ z, s.computing cap z = true) :
    (s.passJudged cap codes).therm.zones =
        (s.passAsked cap codes).therm.zones.map (fun z => z.grant (cap.budget - s.pDut)
          (totalDemand (s.passAsked cap codes).therm.zones cap.board))
      ∧ (s.passJudged cap codes).therm.slotBudget.allowance = cap.budget - s.pDut
      ∧ (s.passJudged cap codes).therm.slotBudget.demand =
          totalDemand (s.passAsked cap codes).therm.zones cap.board
      ∧ (s.passJudged cap codes).therm.slotBudget.scaled =
          decide (cap.budget - s.pDut < totalDemand (s.passAsked cap codes).therm.zones cap.board) := by
  have staged : s.passJudged cap codes = ((s.passAsked cap codes).grantStage cap).holdStage cap := by
    obtain ⟨z, computing⟩ := some_computing
    exact if_pos (List.any_eq_true.mpr ⟨z, List.mem_finRange z, computing⟩)
  rw [staged, State.holdStage_zones, State.holdStage_slotBudget, State.grantStage_therm, ← s.passAsked_pDut cap codes]
  exact ⟨rfl, rfl, rfl, rfl⟩

/-- R82: with every zone converting nothing is granted. -/
theorem State.passJudged_grants_none (converting : ∀ z, s.computing cap z = false) (z : Fin 6) :
    ((s.passJudged cap codes).therm.zones.get z).granted = 0 := by
  rw [State.passJudged, State.budgetStage_converting _ _ converting, State.zonesControl_converting _ _ converting,
    State.zonesTurn_get, converting]
  rfl

/-- R102: what a completion grants, before its arming test. -/
theorem State.passJudged_heat {b : Bank ZoneBoard 6} (board : cap.board = some b) :
    grantedHeat (s.passJudged cap codes).therm.zones b ≤ 1000 * (cap.budget - s.pDut) := by
  by_cases some_computing : ∃ z, s.computing cap z = true
  · rw [(s.passJudged_grants cap codes some_computing).1, board]
    exact grantedHeat_grant_le _ b _
  · have converting (z : Fin 6) : s.computing cap z = false :=
      Bool.eq_false_of_not_eq_true fun computing => some_computing ⟨z, computing⟩
    have nothing : grantedHeat (s.passJudged cap codes).therm.zones b = 0 := by
      simp [grantedHeat, s.passJudged_grants_none cap codes converting]
    omega

end Completion

/-! ### The arming test after the grants (R12, R16) -/

theorem State.armingTest_of_not_arming {s : State} (h : s.slot.state ≠ .arming) : s.armingTest = s :=
  if_neg fun arms => h arms.1

/-- An entry to RUNNING leaves the grants, or with a run that ends at once shuts the heaters. -/
theorem State.armingTest_granted_le (s : State) (z : Fin 6) :
    (s.armingTest.therm.zones.get z).granted ≤ (s.therm.zones.get z).granted := by
  unfold State.armingTest
  split
  · rw [State.enterRunning_eq]
    split
    · rw [State.enterDraining_therm, Bank.get_map]
      exact Nat.zero_le _
    · simp [State.underway, State.running]
  · exact le_rfl

/-- Settles O26: the law of every completion by `State.passJudged_heat`, the grants by `State.passJudged_grants`. -/
theorem grantSharesTheAllowance : Obligations.GrantSharesTheAllowance := by
  unfold Obligations.GrantSharesTheAllowance
  intro s codes cap b flight board a
  refine ⟨_, exec_controlPassComplete flight codes, ?_, fun not_arming some_computing => ?_⟩
  · exact (grantedHeat_mono (State.armingTest_granted_le _) b).trans (s.passJudged_heat cap codes board)
  · rw [State.armingTest_of_not_arming (by rwa [State.passJudged_slot])]
    have computing : ∃ z, s.computing cap z = true :=
      some_computing.imp fun z active => (s.computing_eq cap z).trans (decide_eq_true active)
    obtain ⟨zones, allowance, demand, scaled⟩ := s.passJudged_grants cap codes computing
    rw [allowance, demand, scaled, zones, board]
    simp only [Bank.get_map]
    exact ⟨rfl, rfl, rfl, fun z => ⟨rfl, rfl⟩⟩

end Sys2Proof.Machine
end

section
/-! The vector store's laws on its own record (R110, 7.1), and the rules that every change of the store follows: frames
given a new status, frames gone, frames added. -/

namespace Sys2Proof.Machine

/-! ### The laws -/

/-- R110 and 7.2 of the stored frames alone. -/
structure FramesLaw (l : List FrameDesc) : Prop where
  few : l.length ≤ Config.frameLimit
  fit : (l.map (·.count)).sum ≤ Config.vectorSlots
  ids : (l.map (·.id)).Nodup
  ranges : ∀ f ∈ l, f.inRange
  open_last : ∀ f ∈ l.dropLast, f.status.isOpen = false

/-- R110's law of the store. -/
structure Store.Lawful (st : Store) : Prop where
  canonical : Memory.wf st.memory = true
  slots : ∀ c ∈ st.memory, c.1 < Config.vectorSlots
  frames : FramesLaw st.frames
  read_end : st.readEnd < Config.vectorSlots
  write_end : st.writeEnd < Config.vectorSlots

theorem State.storeLaw_iff (s : State) : s.StoreLaw ↔ s.store.Lawful :=
  ⟨fun ⟨canonical, slots, few, fit, ids, ranges, open_last, read_end, write_end⟩ =>
      ⟨canonical, slots, ⟨few, fit, ids, ranges, open_last⟩, read_end, write_end⟩,
    fun ⟨canonical, slots, ⟨few, fit, ids, ranges, open_last⟩, read_end, write_end⟩ =>
      ⟨canonical, slots, few, fit, ids, ranges, open_last, read_end, write_end⟩⟩

/-- R110, R116, R118 and R121: the arc unbroken, and what of the frames in play and of a tail keeps it so. -/
structure Store.Cued (st : Store) : Prop where
  arc : framesArc st.readEnd st.frames st.writeEnd = true
  tails : ∀ f ∈ st.frames.drop 1, f.status.isTail = false
  looped : st.mode = .loop → ∀ f ∈ st.frames, f.status.isTail = false
  playing : ∀ f ∈ st.frames, f.status.isPlaying = true → st.current = some f.id
  stored : st.current.isSome = true → ∃ f ∈ st.frames, st.current = some f.id
    ∧ (f.status.isPlaying = true ∨ f.status.isTail = true) ∧ (st.mode = .stream → st.frames.head? = some f)

theorem FrameStatus.isTail_iff (x : FrameStatus) : x.isTail = true ↔ x = .tail := by
  cases x <;> simp [FrameStatus.isTail]

theorem FrameStatus.isReady_iff (x : FrameStatus) : x.isReady = true ↔ x = .ready := by
  cases x <;> simp [FrameStatus.isReady]

theorem FrameStatus.isOpen_iff (x : FrameStatus) : x.isOpen = true ↔ ∃ n, x = .opened n := by
  cases x <;> simp [FrameStatus.isOpen]

/-- A status is one of four. -/
theorem FrameStatus.isOpen_of_waits {x : FrameStatus} (tail : x.isTail = false) (playing : x.isPlaying = false)
    (ready : ¬ x.isReady = true) : x.isOpen = true := by
  cases x with
  | opened n => rfl
  | ready => exact absurd rfl ready
  | playing n => cases playing
  | tail => cases tail

/-! ### Frames by their ids -/

/-- What changes a frame's status and nothing else of it. -/
def Restates (g : FrameDesc → FrameDesc) : Prop := ∀ f, ∃ x, g f = { f with status := x }

/-- A frame given a status when it has the id. -/
def FrameDesc.restate (id : Byte) (x : FrameStatus) (f : FrameDesc) : FrameDesc :=
  if f.id == id then { f with status := x } else f

theorem FrameDesc.restates (id : Byte) (x : FrameStatus) : Restates (FrameDesc.restate id x) := fun f => by
  unfold FrameDesc.restate
  split
  · exact ⟨x, rfl⟩
  · exact ⟨f.status, rfl⟩

theorem Store.setStatus_eq (st : Store) (id : Byte) (x : FrameStatus) :
    st.setStatus id x = { st with frames := st.frames.map (FrameDesc.restate id x) } := rfl

theorem FrameDesc.restate_same (f : FrameDesc) (x : FrameStatus) : f.restate f.id x = { f with status := x } := by
  simp [FrameDesc.restate]

theorem FrameDesc.restate_other {f : FrameDesc} {id : Byte} (x : FrameStatus) (h : f.id ≠ id) : f.restate id x = f := by
  simp [FrameDesc.restate, h]

namespace Restates

variable {g : FrameDesc → FrameDesc} (hg : Restates g)

include hg

theorem id (f : FrameDesc) : (g f).id = f.id := by
  obtain ⟨x, hx⟩ := hg f
  rw [hx]

theorem first (f : FrameDesc) : (g f).first = f.first := by
  obtain ⟨x, hx⟩ := hg f
  rw [hx]

theorem count (f : FrameDesc) : (g f).count = f.count := by
  obtain ⟨x, hx⟩ := hg f
  rw [hx]

theorem inRange {f : FrameDesc} (h : f.inRange) : (g f).inRange := by
  obtain ⟨x, hx⟩ := hg f
  rw [hx]
  exact h

end Restates

/-- Ids being distinct, frames with one id are one frame. -/
theorem FramesLaw.eq_of_id {l : List FrameDesc} (h : FramesLaw l) {f g : FrameDesc} (hf : f ∈ l) (hg : g ∈ l)
    (same : f.id = g.id) : f = g :=
  List.inj_on_of_nodup_map h.ids hf hg same

/-! ### Frames restated, gone and added -/

theorem dropLast_sublist_dropLast {α : Type} {l m : List α} (h : m.Sublist l) : m.dropLast.Sublist l.dropLast := by
  have tails := h.reverse.tail.reverse
  simpa using tails

theorem FramesLaw.sublist {l m : List FrameDesc} (h : FramesLaw l) (sub : m.Sublist l) : FramesLaw m where
  few := sub.length_le.trans h.few
  fit := ((sub.map _).sum_le_sum fun _ _ => Nat.zero_le _).trans h.fit
  ids := h.ids.sublist (sub.map _)
  ranges f hf := h.ranges f (sub.subset hf)
  open_last f hf := h.open_last f ((dropLast_sublist_dropLast sub).subset hf)

theorem FramesLaw.restated {l : List FrameDesc} (h : FramesLaw l) {g : FrameDesc → FrameDesc} (hg : Restates g)
    (closed : ∀ f ∈ l.dropLast, f.status.isOpen = false → (g f).status.isOpen = false) : FramesLaw (l.map g) where
  few := by simpa using h.few
  fit := by simpa [Function.comp_def, hg.count] using h.fit
  ids := by simpa [Function.comp_def, hg.id] using h.ids
  ranges f hf := by
    obtain ⟨y, hy, rfl⟩ := List.mem_map.mp hf
    exact hg.inRange (h.ranges y hy)
  open_last f hf := by
    rw [← List.map_dropLast] at hf
    obtain ⟨y, hy, rfl⟩ := List.mem_map.mp hf
    exact closed y hy (h.open_last y hy)

theorem FramesLaw.restate {l : List FrameDesc} (h : FramesLaw l) (id : Byte) {x : FrameStatus}
    (closed : x.isOpen = false) : FramesLaw (l.map (FrameDesc.restate id x)) := by
  refine h.restated (FrameDesc.restates id x) fun f _ was => ?_
  unfold FrameDesc.restate
  split
  · exact closed
  · exact was

/-- Ids being distinct, no other frame has a frame's id. -/
theorem FramesLaw.apart {before after : List FrameDesc} {g : FrameDesc} (h : FramesLaw (before ++ g :: after)) :
    (∀ y ∈ before, y.id ≠ g.id) ∧ ∀ y ∈ after, y.id ≠ g.id := by
  have ids := h.ids
  rw [List.map_append, List.map_cons] at ids
  obtain ⟨-, cons, disjoint⟩ := List.nodup_append.mp ids
  exact ⟨fun y hy => disjoint _ (List.mem_map_of_mem hy) _ List.mem_cons_self,
    fun y hy same => (List.nodup_cons.mp cons).1 (same ▸ List.mem_map_of_mem hy)⟩

theorem FramesLaw.restate_append {before after : List FrameDesc} {g : FrameDesc}
    (h : FramesLaw (before ++ g :: after)) (x : FrameStatus) :
    (before ++ g :: after).map (FrameDesc.restate g.id x) = before ++ { g with status := x } :: after := by
  have others {l : List FrameDesc} (ne : ∀ y ∈ l, y.id ≠ g.id) : l.map (FrameDesc.restate g.id x) = l :=
    (List.map_congr_left fun y hy => FrameDesc.restate_other x (ne y hy)).trans (List.map_id l)
  rw [List.map_append, List.map_cons, FrameDesc.restate_same, others h.apart.1, others h.apart.2]

theorem FramesLaw.remove_append {before after : List FrameDesc} {g : FrameDesc}
    (h : FramesLaw (before ++ g :: after)) :
    (before ++ g :: after).filter (fun f => f.id != g.id) = before ++ after := by
  have others {l : List FrameDesc} (ne : ∀ y ∈ l, y.id ≠ g.id) : l.filter (fun f => f.id != g.id) = l :=
    List.filter_eq_self.mpr fun y hy => by simpa using ne y hy
  rw [List.filter_append, List.filter_cons_of_neg (by simp), others h.apart.1, others h.apart.2]

theorem FramesLaw.pick_append {before after : List FrameDesc} {g : FrameDesc}
    (h : FramesLaw (before ++ g :: after)) : (before ++ g :: after).filter (fun f => f.id == g.id) = [g] := by
  have others {l : List FrameDesc} (ne : ∀ y ∈ l, y.id ≠ g.id) : l.filter (fun f => f.id == g.id) = [] :=
    List.filter_eq_nil_iff.mpr fun y hy => by simpa using ne y hy
  rw [List.filter_append, List.filter_cons_of_pos (by simp), others h.apart.1, others h.apart.2, List.nil_append]

/-- The one frame that may be OPEN stands last (7.2). -/
theorem FramesLaw.eq_append_of_open {l : List FrameDesc} (h : FramesLaw l) {f : FrameDesc} (hf : f ∈ l)
    (is : f.status.isOpen = true) : l = l.dropLast ++ [f] := by
  have ne : l ≠ [] := List.ne_nil_of_mem hf
  have last : f = l.getLast ne := by
    by_contra other
    exact Bool.false_ne_true ((h.open_last f (List.mem_dropLast_of_mem_of_ne_getLast hf other)).symm.trans is)
  rw [last]
  exact (List.dropLast_append_getLast ne).symm

/-- The first READY frame leads a list in which every frame waits. -/
theorem FramesLaw.head_of_find_ready {l : List FrameDesc} (h : FramesLaw l)
    (waits : ∀ f ∈ l, f.status.isTail = false ∧ f.status.isPlaying = false) {g : FrameDesc}
    (ready : l.find? (fun f => f.status.isReady) = some g) : ∃ rest, l = g :: rest := by
  cases l with
  | nil => cases ready
  | cons f rest =>
    by_cases is : f.status.isReady = true
    · simp only [List.find?_cons, is, Option.some.injEq] at ready
      exact ⟨rest, by rw [ready]⟩
    · have opened : f.status.isOpen = true := by
        obtain ⟨tail, playing⟩ := waits f List.mem_cons_self
        exact FrameStatus.isOpen_of_waits tail playing is
      obtain rfl : rest = [] := by
        cases rest with
        | nil => rfl
        | cons g rest => exact absurd (h.open_last f (by simp)) (by simp [opened])
      simp [is] at ready

namespace Store

variable {st : Store} (h : st.Lawful)

include h

theorem Lawful.set_frames {l : List FrameDesc} (hl : FramesLaw l) (current : Option Byte) (mode : PlayMode)
    (mark : Nat) :
    ({ st with frames := l, current := current, mode := mode, lowWater := mark } : Store).Lawful where
  canonical := h.canonical
  slots := h.slots
  frames := hl
  read_end := h.read_end
  write_end := h.write_end

theorem Lawful.setStatus (id : Byte) {x : FrameStatus} (closed : x.isOpen = false) : (st.setStatus id x).Lawful :=
  h.set_frames (h.frames.restate id closed) _ _ _

theorem Lawful.syncReadEnd : st.syncReadEnd.Lawful where
  canonical := h.canonical
  slots := h.slots
  frames := h.frames
  read_end := by
    unfold Store.syncReadEnd
    dsimp only
    split
    · next f _ frames => exact (h.frames.ranges f (by simp [frames])).1
    · exact h.write_end
  write_end := h.write_end

theorem Lawful.keepFrames (keep : FrameDesc → Bool) : (st.keepFrames keep).Lawful :=
  Lawful.syncReadEnd (h.set_frames (h.frames.sublist List.filter_sublist) _ _ _)

theorem Lawful.freeIdleTail : st.freeIdleTail.Lawful := by
  unfold Store.freeIdleTail
  split
  · exact h.keepFrames _
  · exact h

theorem Lawful.take (id : Byte) : (st.take id).Lawful :=
  Lawful.freeIdleTail (h.set_frames (h.frames.restate id rfl) _ _ _)

theorem Lawful.release : st.release.Lawful := by
  unfold Store.release
  split
  · split
    · exact h.set_frames (h.frames.restate _ rfl) _ _ _
    · exact h.set_frames h.frames _ _ _
  · exact h.set_frames h.frames _ _ _

end Store

@[simp] theorem Store.freeIdleTail_current (st : Store) : st.freeIdleTail.current = st.current := by
  unfold Store.freeIdleTail
  split <;> rfl

@[simp] theorem Store.take_current (st : Store) (id : Byte) : (st.take id).current = some id :=
  Store.freeIdleTail_current _

/-! ### The play mode (R121, R122) -/

/-- R121: a TAIL becomes part of the loop, PLAYING when it is the current frame. -/
def FrameDesc.looped (current : Option Byte) (f : FrameDesc) : FrameDesc :=
  if f.status.isTail then
    (if current == some f.id then { f with status := .playing (f.repeats - 1) } else { f with status := .ready })
  else f

theorem FrameDesc.looped_restates (current : Option Byte) : Restates (FrameDesc.looped current) := fun f => by
  unfold FrameDesc.looped
  split
  · split
    · exact ⟨_, rfl⟩
    · exact ⟨_, rfl⟩
  · exact ⟨f.status, rfl⟩

theorem FrameDesc.looped_isTail (current : Option Byte) (f : FrameDesc) : (f.looped current).status.isTail = false := by
  unfold FrameDesc.looped
  split
  · split <;> rfl
  · next no => simpa using no

theorem FrameDesc.looped_isOpen (current : Option Byte) (f : FrameDesc) :
    (f.looped current).status.isOpen = f.status.isOpen := by
  unfold FrameDesc.looped
  split
  · next tail =>
    rw [(FrameStatus.isTail_iff _).mp tail]
    split <;> rfl
  · rfl

/-- A frame that plays in the loop played before, or is the current TAIL. -/
theorem FrameDesc.looped_isPlaying (current : Option Byte) (f : FrameDesc) :
    (f.looped current).status.isPlaying = true
      ↔ f.status.isPlaying = true ∨ (f.status.isTail = true ∧ current = some f.id) := by
  unfold FrameDesc.looped
  split
  · next tail =>
    rw [(FrameStatus.isTail_iff _).mp tail]
    split
    · next is => simpa [FrameStatus.isPlaying, FrameStatus.isTail] using is
    · next is => simpa [FrameStatus.isPlaying, FrameStatus.isTail] using is
  · next no => simp [no]

theorem Store.toLoop_eq (st : Store) :
    st.toLoop = { st with mode := .loop, frames := st.frames.map (FrameDesc.looped st.current) } := rfl

namespace Store

theorem Lawful.setMode {st : Store} (h : st.Lawful) (m : PlayMode) : (st.setMode m).Lawful := by
  unfold Store.setMode
  split
  · refine h.set_frames (h.frames.restated (FrameDesc.looped_restates st.current) fun f _ was => ?_) _ _ _
    exact (FrameDesc.looped_isOpen _ _).trans was
  · unfold Store.toStream
    split
    · exact Lawful.syncReadEnd (h.set_frames (h.frames.sublist (List.dropWhile_suffix _).sublist) _ _ _)
    · exact h.set_frames h.frames _ _ _
  · exact h

theorem Lawful.withPlay {st : Store} (h : st.Lawful) (x : Option PlaySettings) : (st.withPlay x).Lawful := by
  cases x with
  | none => exact h
  | some p =>
    have put := h.setMode p.mode
    exact put.set_frames put.frames _ _ _

end Store

/-! ### The frame in play -/

section Cued

variable {st : Store} (lawful : st.Lawful) (cued : st.Cued)

theorem Store.currentFrame_spec {f : FrameDesc} (h : st.currentFrame = some f) :
    f ∈ st.frames ∧ st.current = some f.id := by
  unfold Store.currentFrame at h
  obtain ⟨id, current, found⟩ := Option.bind_eq_some_iff.mp h
  have same : f.id = id := by simpa using List.find?_some found
  exact ⟨List.mem_of_find?_eq_some found, by rw [current, same]⟩

theorem find_ready_spec {l : List FrameDesc} {g : FrameDesc} (h : l.find? (fun f => f.status.isReady) = some g) :
    g ∈ l ∧ g.status = .ready :=
  ⟨List.mem_of_find?_eq_some h,
    (FrameStatus.isReady_iff _).mp (List.find?_some (p := fun f : FrameDesc => f.status.isReady) h)⟩

theorem Store.nextInLoop_spec {id : Byte} {g : FrameDesc} (h : st.nextInLoop id = some g) :
    g ∈ st.frames ∧ g.status = .ready := by
  unfold Store.nextInLoop at h
  rcases Option.or_eq_some_iff.mp h with later | ⟨-, first⟩
  · obtain ⟨stored, ready⟩ := find_ready_spec later
    exact ⟨(List.dropWhile_suffix _).subset (List.mem_of_mem_drop stored), ready⟩
  · exact find_ready_spec first

include lawful in
theorem Store.Lawful.find_mem {f : FrameDesc} (hf : f ∈ st.frames) : st.find f.id = some f := by
  unfold Store.find
  cases found : st.frames.find? (fun g => g.id == f.id) with
  | none => exact absurd (List.find?_eq_none.mp found f hf) (by simp)
  | some g =>
    have same : g.id = f.id := by simpa using List.find?_some found
    rw [lawful.frames.eq_of_id (List.mem_of_find?_eq_some found) hf same]

include lawful cued

/-- A current frame is PLAYING or TAIL, and heads the list in Stream mode. -/
theorem Store.Cued.current_spec {f : FrameDesc} (hf : f ∈ st.frames) (current : st.current = some f.id) :
    (f.status.isPlaying = true ∨ f.status.isTail = true)
      ∧ (st.mode = .stream → ∃ rest, st.frames = f :: rest) := by
  obtain ⟨g, hg, same, active, leads⟩ := cued.stored (by simp [current])
  obtain rfl : f = g := lawful.frames.eq_of_id hf hg (Option.some.inj (current.symm.trans same))
  exact ⟨active, fun stream => List.head?_eq_some_iff.mp (leads stream)⟩

/-- In Stream mode every frame but the head waits. -/
theorem Store.Cued.rest_waits (stream : st.mode = .stream) {f : FrameDesc} {rest : List FrameDesc}
    (frames : st.frames = f :: rest) : ∀ y ∈ rest, y.status.isTail = false ∧ y.status.isPlaying = false := by
  intro y hy
  have stored : y ∈ st.frames := by simp [frames, hy]
  refine ⟨cued.tails y (by simpa [frames] using hy), Bool.eq_false_of_not_eq_true fun playing => ?_⟩
  obtain ⟨later, leads⟩ := (cued.current_spec lawful stored (cued.playing y stored playing)).2 stream
  obtain ⟨rfl, -⟩ := List.cons_eq_cons.mp (frames.symm.trans leads)
  have ids := lawful.frames.ids
  rw [frames] at ids
  exact (List.nodup_cons.mp (ids.of_map _)).1 hy

/-- No frame plays but the current one. -/
theorem Store.Cued.not_playing {f : FrameDesc} (hf : f ∈ st.frames) (current : st.current = some f.id)
    {y : FrameDesc} (hy : y ∈ st.frames) (other : y ≠ f) : y.status.isPlaying = false :=
  Bool.eq_false_of_not_eq_true fun playing => other
    (lawful.frames.eq_of_id hy hf (Option.some.inj ((cued.playing y hy playing).symm.trans current)))

/-! ### What keeps the arc and the frame in play -/

omit lawful cued in
/-- A store at rest: no frame in play. -/
theorem Store.Cued.at_rest (arc : framesArc st.readEnd st.frames st.writeEnd = true)
    (tails : ∀ f ∈ st.frames.drop 1, f.status.isTail = false)
    (looped : st.mode = .loop → ∀ f ∈ st.frames, f.status.isTail = false)
    (idle : ∀ f ∈ st.frames, f.status.isPlaying = false) (current : st.current = none) : st.Cued where
  arc := arc
  tails := tails
  looped := looped
  playing f hf is := absurd ((idle f hf).symm.trans is) Bool.false_ne_true
  stored is := by simp [current] at is

omit lawful in
/-- With no current frame none is PLAYING. -/
theorem Store.Cued.idle (current : st.current = none) {f : FrameDesc} (hf : f ∈ st.frames) :
    f.status.isPlaying = false :=
  Bool.eq_false_of_not_eq_true fun is => absurd (cued.playing f hf is) (by simp [current])

omit lawful in
/-- New statuses that make no TAIL and end no play, nor the other way round. -/
theorem Store.Cued.restated {g : FrameDesc → FrameDesc} (hg : Restates g)
    (tail : ∀ f ∈ st.frames, (g f).status.isTail = f.status.isTail)
    (playing : ∀ f ∈ st.frames, (g f).status.isPlaying = f.status.isPlaying) (m : List SlotCell) :
    ({ st with frames := st.frames.map g, memory := m } : Store).Cued where
  arc := (framesArc_map g (fun f => ⟨hg.first f, hg.count f⟩) _ _ _).trans cued.arc
  tails f hf := by
    rw [← List.map_drop] at hf
    obtain ⟨y, hy, rfl⟩ := List.mem_map.mp hf
    exact (tail y (List.mem_of_mem_drop hy)).trans (cued.tails y hy)
  looped loop f hf := by
    obtain ⟨y, hy, rfl⟩ := List.mem_map.mp hf
    exact (tail y hy).trans (cued.looped loop y hy)
  playing f hf is := by
    obtain ⟨y, hy, rfl⟩ := List.mem_map.mp hf
    rw [hg.id]
    exact cued.playing y hy ((playing y hy).symm.trans is)
  stored is := by
    obtain ⟨y, hy, current, active, leads⟩ := cued.stored is
    refine ⟨g y, List.mem_map_of_mem hy, by rw [hg.id]; exact current, ?_, fun stream => ?_⟩
    · rw [tail y hy, playing y hy]
      exact active
    · simp [leads stream]

omit lawful in
/-- Play ends: new statuses that make no TAIL, and leave nothing PLAYING. -/
theorem Store.Cued.rests {g : FrameDesc → FrameDesc} (hg : Restates g)
    (tail : ∀ f ∈ st.frames, f.status.isTail = false → (g f).status.isTail = false)
    (idle : ∀ f ∈ st.frames, (g f).status.isPlaying = false) :
    ({ st with frames := st.frames.map g, current := none } : Store).Cued := by
  refine .at_rest ((framesArc_map g (fun f => ⟨hg.first f, hg.count f⟩) _ _ _).trans cued.arc) (fun f hf => ?_)
    (fun loop f hf => ?_) (fun f hf => ?_) rfl
  · rw [← List.map_drop] at hf
    obtain ⟨y, hy, rfl⟩ := List.mem_map.mp hf
    exact tail y (List.mem_of_mem_drop hy) (cued.tails y hy)
  · obtain ⟨y, hy, rfl⟩ := List.mem_map.mp hf
    exact tail y hy (cued.looped loop y hy)
  · obtain ⟨y, hy, rfl⟩ := List.mem_map.mp hf
    exact idle y hy

omit lawful in
/-- R110: a rest of the list, begun again at its first slot, is an arc. -/
theorem Store.Cued.arc_suffix {l : List FrameDesc} (suffix : l <:+ st.frames) :
    framesArc ({ st with frames := l } : Store).syncReadEnd.readEnd l st.writeEnd = true := by
  obtain ⟨front, frames⟩ := suffix
  have arc := cued.arc
  rw [← frames, framesArc_append] at arc
  obtain ⟨mid, -, arc⟩ := arc
  cases l with
  | nil => simp [Store.syncReadEnd]
  | cons f rest =>
    rw [framesArc_cons] at arc ⊢
    obtain ⟨rfl, arc⟩ := arc
    exact ⟨rfl, arc⟩

/-- R118, R119: in Stream mode the head gone, no frame is in play. -/
theorem Store.Cued.behind (stream : st.mode = .stream) {f : FrameDesc} {rest : List FrameDesc}
    (frames : st.frames = f :: rest) :
    ({ st with frames := rest, current := none } : Store).syncReadEnd.Cued := by
  have waits := cued.rest_waits lawful stream frames
  exact .at_rest (cued.arc_suffix (frames ▸ List.suffix_cons f rest))
    (fun y hy => (waits y (List.mem_of_mem_drop hy)).1) (fun _ y hy => (waits y hy).1) (fun y hy => (waits y hy).2) rfl

omit cued in
/-- R116 in Stream mode: the frame taken leads the list, the TAILs before it are gone. -/
theorem Store.Lawful.take_stream (stream : st.mode = .stream) {front rest : List FrameDesc} {g : FrameDesc}
    (frames : st.frames = front ++ g :: rest) (tails : ∀ y ∈ front, y.status.isTail = true)
    (waits : ∀ y ∈ rest, y.status.isTail = false) :
    st.take g.id = { st with
      frames := { g with status := .playing 0 } :: rest, readEnd := g.first, current := some g.id } := by
  have law := lawful.frames
  rw [frames] at law
  have kept : (front ++ { g with status := FrameStatus.playing 0 } :: rest).filter
      (fun f => !f.status.isTail || some g.id == some f.id) = { g with status := .playing 0 } :: rest := by
    rw [List.filter_append, List.filter_eq_nil_iff.mpr, List.nil_append, List.filter_eq_self.mpr]
    · intro y hy
      rcases List.mem_cons.mp hy with rfl | hy
      · simp
      · simp [waits y hy]
    · intro y hy
      simpa [tails y hy] using (law.apart.1 y hy).symm
  simp only [Store.take, Store.setStatus_eq, Store.freeIdleTail, stream, if_true, Store.keepFrames, frames,
    law.restate_append, kept, Store.syncReadEnd]

/-- R116: a READY frame taken with none in play, the first of them in Stream mode. -/
theorem Store.Cued.take (current : st.current = none) {g : FrameDesc} (hg : g ∈ st.frames)
    (ready : g.status = .ready) (first : st.mode = .stream → st.firstReady = some g) : (st.take g.id).Cued := by
  cases mode : st.mode with
  | loop =>
    have taken : st.take g.id = { st with
        frames := st.frames.map (FrameDesc.restate g.id (.playing 0)), current := some g.id } := by
      simp [Store.take, Store.setStatus_eq, Store.freeIdleTail, mode]
    have restates := FrameDesc.restates g.id (.playing 0)
    have tail (f : FrameDesc) (hf : f ∈ st.frames) :
        (f.restate g.id (.playing 0)).status.isTail = false := by
      unfold FrameDesc.restate
      split
      · rfl
      · exact cued.looped mode f hf
    rw [taken]
    refine ⟨(framesArc_map _ (fun f => ⟨restates.first f, restates.count f⟩) _ _ _).trans cued.arc, fun f hf => ?_,
      fun _ f hf => ?_, fun f hf is => ?_, fun _ => ⟨_, List.mem_map_of_mem hg, ?_⟩⟩
    · obtain ⟨y, hy, rfl⟩ := List.mem_map.mp (List.mem_of_mem_drop hf)
      exact tail y hy
    · obtain ⟨y, hy, rfl⟩ := List.mem_map.mp hf
      exact tail y hy
    · obtain ⟨y, hy, rfl⟩ := List.mem_map.mp hf
      by_cases same : y.id = g.id
      · rw [restates.id, same]
      · rw [FrameDesc.restate_other _ same, cued.idle current hy] at is
        cases is
    · rw [FrameDesc.restate_same]
      exact ⟨rfl, .inl rfl, fun stream => by simp [mode] at stream⟩
  | stream =>
    have split : ∃ front rest, st.frames = front ++ g :: rest ∧ (∀ y ∈ front, y.status.isTail = true)
        ∧ ∀ y ∈ rest, y.status.isTail = false ∧ y.status.isPlaying = false := by
      have found := first mode
      unfold Store.firstReady at found
      cases frames : st.frames with
      | nil => simp [frames] at hg
      | cons x rest =>
        have waits := cued.rest_waits lawful mode frames
        have law := lawful.frames
        rw [frames] at found law
        by_cases tail : x.status.isTail = true
        · rw [List.find?_cons_of_neg (by simp [(FrameStatus.isTail_iff _).mp tail, FrameStatus.isReady])] at found
          obtain ⟨later, rfl⟩ := (law.sublist (List.sublist_cons_self x rest)).head_of_find_ready waits found
          exact ⟨[x], later, rfl, by simpa using tail, fun y hy => waits y (List.mem_cons_of_mem _ hy)⟩
        · have all : ∀ y ∈ x :: rest, y.status.isTail = false ∧ y.status.isPlaying = false :=
            List.forall_mem_cons.mpr ⟨⟨by simpa using tail, cued.idle current (by simp [frames])⟩, waits⟩
          obtain ⟨later, same⟩ := law.head_of_find_ready all found
          obtain ⟨rfl, rfl⟩ := List.cons_eq_cons.mp same
          exact ⟨[], rest, rfl, by simp, waits⟩
    obtain ⟨front, rest, frames, tails, waits⟩ := split
    rw [lawful.take_stream mode frames tails fun y hy => (waits y hy).1]
    have arc := cued.arc_suffix (st := st) (l := g :: rest) ⟨front, frames.symm⟩
    refine ⟨arc, fun f hf => (waits f hf).1, fun loop => by simp [mode] at loop, fun f hf is => ?_,
      fun _ => ⟨_, List.mem_cons_self, rfl, .inl rfl, fun _ => rfl⟩⟩
    rcases List.mem_cons.mp hf with rfl | hf
    · rfl
    · exact absurd ((waits f hf).2.symm.trans is) Bool.false_ne_true

/-- R116, R120: the current frame READY again, none is in play. -/
theorem Store.Cued.hand_back {f : FrameDesc} (hf : f ∈ st.frames) (current : st.current = some f.id) :
    ({ st.setStatus f.id .ready with current := none } : Store).Cued := by
  have ready : ∀ y ∈ st.frames, y = f ∧ y.restate f.id .ready = { y with status := .ready }
      ∨ y ≠ f ∧ y.restate f.id .ready = y := by
    intro y hy
    by_cases same : y = f
    · exact .inl ⟨same, by rw [same, FrameDesc.restate_same]⟩
    · exact .inr ⟨same, FrameDesc.restate_other _ fun ids => same (lawful.frames.eq_of_id hy hf ids)⟩
  rw [Store.setStatus_eq]
  refine cued.rests (FrameDesc.restates f.id .ready) (fun y hy was => ?_) fun y hy => ?_
  · obtain ⟨-, eq⟩ | ⟨-, eq⟩ := ready y hy
    · rw [eq]
      rfl
    · rw [eq]
      exact was
  · obtain ⟨-, eq⟩ | ⟨other, eq⟩ := ready y hy
    · rw [eq]
      rfl
    · rw [eq]
      exact cued.not_playing lawful hf current hy other

/-- R116, R119: a current frame that is not PLAYING left, none is in play. -/
theorem Store.Cued.leave {f : FrameDesc} (hf : f ∈ st.frames) (current : st.current = some f.id)
    (still : f.status.isPlaying = false) : ({ st with current := none } : Store).Cued := by
  refine .at_rest cued.arc cued.tails cued.looped (fun y hy => ?_) rfl
  by_cases same : y = f
  · rw [same]
    exact still
  · exact cued.not_playing lawful hf current hy same

/-- A current frame is stored. -/
theorem Store.Cued.current_of_absent (absent : st.currentFrame = none) : st.current = none := by
  by_contra is
  obtain ⟨f, hf, current, -⟩ := cued.stored (Option.isSome_iff_ne_none.mpr is)
  simp [Store.currentFrame, current, lawful.find_mem hf] at absent

/-- R116: the end of play leaves no frame in play. -/
theorem Store.Cued.release : st.release.Cued := by
  unfold Store.release
  split
  · next f found =>
    obtain ⟨hf, current⟩ := Store.currentFrame_spec found
    split
    · exact cued.hand_back lawful hf current
    · next other =>
      refine cued.leave lawful hf current ?_
      cases status : f.status with
      | playing n => exact absurd status (other n)
      | _ => rfl
  · next absent =>
    have none_current := cued.current_of_absent lawful absent
    exact .at_rest cued.arc cued.tails cued.looped (fun y hy => cued.idle none_current hy) rfl

/-- R121, R122: a play mode put in force. -/
theorem Store.Cued.setMode (m : PlayMode) : (st.setMode m).Cued := by
  unfold Store.setMode
  split
  · have restates := FrameDesc.looped_restates st.current
    rw [Store.toLoop_eq]
    refine ⟨(framesArc_map _ (fun f => ⟨restates.first f, restates.count f⟩) _ _ _).trans cued.arc, fun f hf => ?_,
      fun _ f hf => ?_, fun f hf is => ?_, fun is => ?_⟩
    · obtain ⟨y, hy, rfl⟩ := List.mem_map.mp (List.mem_of_mem_drop hf)
      exact y.looped_isTail st.current
    · obtain ⟨y, hy, rfl⟩ := List.mem_map.mp hf
      exact y.looped_isTail st.current
    · obtain ⟨y, hy, rfl⟩ := List.mem_map.mp hf
      rw [restates.id]
      exact ((y.looped_isPlaying st.current).mp is).elim (cued.playing y hy) And.right
    · obtain ⟨y, hy, current, active, -⟩ := cued.stored is
      exact ⟨_, List.mem_map_of_mem hy, by rw [restates.id]; exact current,
        .inl ((y.looped_isPlaying st.current).mpr (active.imp_right fun tail => ⟨tail, current⟩)), nofun⟩
  · next in_loop =>
    unfold Store.toStream
    split
    · next f found =>
      obtain ⟨hf, current⟩ := Store.currentFrame_spec found
      obtain ⟨before, after, frames⟩ := List.append_of_mem hf
      have law := lawful.frames
      rw [frames] at law
      have dropped : st.frames.dropWhile (fun g => g.id != f.id) = f :: after := by
        rw [frames, List.dropWhile_append_of_pos fun y hy => by simpa using law.apart.1 y hy]
        simp
      have stored : ∀ y ∈ f :: after, y ∈ st.frames := fun y hy => by rw [frames]; exact List.mem_append_right _ hy
      rw [dropped]
      refine ⟨cued.arc_suffix ⟨before, frames.symm⟩, fun y hy => ?_, nofun, fun y hy => cued.playing y (stored y hy),
        fun _ => ⟨f, List.mem_cons_self, current, ?_, fun _ => rfl⟩⟩
      · exact cued.looped in_loop y (stored y (List.mem_cons_of_mem _ hy))
      · exact (cued.current_spec lawful hf current).1
    · next absent =>
      have none_current := cued.current_of_absent lawful absent
      exact .at_rest cued.arc cued.tails nofun (fun y hy => cued.idle none_current hy) none_current
  · exact cued

theorem Store.Cued.withPlay (x : Option PlaySettings) : (st.withPlay x).Cued := by
  cases x with
  | none => exact cued
  | some p =>
    obtain ⟨arc, tails, looped, playing, stored⟩ := cued.setMode lawful p.mode
    exact ⟨arc, tails, looped, playing, stored⟩

/-! ### The pass end (R117 to R119) -/

/-- R118, R119: the ended frame gone, the first READY frame takes over. -/
theorem Store.Cued.hand_on {f g : FrameDesc} (hf : f ∈ st.frames) (current : st.current = some f.id)
    (stream : st.mode = .stream) (next : st.firstReady = some g) : ((st.freeFrame f.id).take g.id).Cued := by
  obtain ⟨active, leads⟩ := cued.current_spec lawful hf current
  obtain ⟨rest, frames⟩ := leads stream
  have removed : ({ st.freeFrame f.id with current := none } : Store)
      = ({ st with frames := rest, current := none } : Store).syncReadEnd := by
    have law := lawful.frames
    rw [frames] at law
    have gone : (f :: rest).filter (fun g => g.id != f.id) = rest := law.remove_append (before := [])
    simp only [Store.freeFrame, Store.keepFrames, Store.syncReadEnd, frames, gone]
  have freed : ({ st.freeFrame f.id with current := none } : Store).Lawful :=
    (lawful.keepFrames _).set_frames (lawful.keepFrames _).frames _ _ _
  have found : rest.find? (fun f => f.status.isReady) = some g := by
    unfold Store.firstReady at next
    rw [frames] at next
    refine (List.find?_cons_of_neg ?_).symm.trans next
    cases status : f.status <;> simp [status, FrameStatus.isPlaying, FrameStatus.isTail] at active <;>
      simp [FrameStatus.isReady]
  obtain ⟨stored, ready⟩ := find_ready_spec found
  have behind : ({ st.freeFrame f.id with current := none } : Store).Cued := by
    rw [removed]
    exact cued.behind lawful stream frames
  refine behind.take (st := { st.freeFrame f.id with current := none }) freed rfl ?_ ready fun _ => ?_
  · rw [removed]
    exact stored
  · rw [removed]
    exact found

/-- R118: without a READY frame the ended frame is a TAIL, current or not. -/
theorem Store.Cued.tail {f : FrameDesc} (hf : f ∈ st.frames) (current : st.current = some f.id)
    (stream : st.mode = .stream) (stays : Bool) :
    ({ st.setStatus f.id .tail with current := if stays then st.current else none } : Store).Cued := by
  obtain ⟨-, leads⟩ := cued.current_spec lawful hf current
  obtain ⟨rest, frames⟩ := leads stream
  have law := lawful.frames
  rw [frames] at law
  have made : st.frames.map (FrameDesc.restate f.id .tail) = { f with status := .tail } :: rest := by
    rw [frames]
    exact law.restate_append (before := []) _
  have waits := cued.rest_waits lawful stream frames
  have arc : framesArc st.readEnd ({ f with status := .tail } :: rest) st.writeEnd = true := by
    rw [← made]
    exact (framesArc_map _ (fun y => ⟨(FrameDesc.restates f.id .tail).first y, (FrameDesc.restates f.id .tail).count y⟩)
      _ _ _).trans cued.arc
  rw [Store.setStatus_eq, made]
  refine ⟨arc, fun y hy => (waits y hy).1, fun loop => by simp [stream] at loop, fun y hy is => ?_, fun some => ?_⟩
  · rcases List.mem_cons.mp hy with rfl | hy
    · cases is
    · exact absurd ((waits y hy).2.symm.trans is) Bool.false_ne_true
  · refine ⟨_, List.mem_cons_self, ?_, .inr rfl, fun _ => rfl⟩
    cases stays with
    | false => cases some
    | true => exact current

omit lawful in
/-- A frame's status replaced by one that plays as it played and is a TAIL where it was one. -/
theorem Store.Cued.restate {f : FrameDesc} (lawful : st.Lawful) (hf : f ∈ st.frames) {x : FrameStatus}
    (tail : x.isTail = f.status.isTail) (playing : x.isPlaying = f.status.isPlaying) (m : List SlotCell) :
    ({ st.setStatus f.id x with memory := m } : Store).Cued := by
  have same : ∀ y ∈ st.frames, (y.restate f.id x).status = if y = f then x else y.status := by
    intro y hy
    by_cases is : y = f
    · rw [if_pos is, is, FrameDesc.restate_same]
    · rw [if_neg is, FrameDesc.restate_other _ fun ids => is (lawful.frames.eq_of_id hy hf ids)]
  rw [Store.setStatus_eq]
  refine cued.restated (FrameDesc.restates f.id x) (fun y hy => ?_) (fun y hy => ?_) m
  · rw [same y hy]
    split
    · next is => rw [is, tail]
    · rfl
  · rw [same y hy]
    split
    · next is => rw [is, playing]
    · rfl

/-! ### Frames delivered, opened, cancelled and purged (R111 to R115) -/

/-- R113: a TAIL that is not the current frame is gone. -/
theorem Store.Cued.freeIdleTail : st.freeIdleTail.Cued := by
  unfold Store.freeIdleTail
  split
  · next stream =>
    by_cases all : ∀ y ∈ st.frames, (!y.status.isTail || st.current == some y.id) = true
    · unfold Store.keepFrames
      rw [List.filter_eq_self.mpr all]
      exact ⟨cued.arc_suffix (List.suffix_refl st.frames), cued.tails, cued.looped, cued.playing, cued.stored⟩
    · push Not at all
      obtain ⟨x, hx, idle⟩ := all
      simp only [ne_eq, Bool.not_eq_true, Bool.or_eq_false_iff, Bool.not_eq_false', beq_eq_false_iff_ne] at idle
      obtain ⟨tail, other⟩ := idle
      have leads : ∃ rest, st.frames = x :: rest := by
        cases frames : st.frames with
        | nil => simp [frames] at hx
        | cons y rest =>
          rw [frames] at hx
          rcases List.mem_cons.mp hx with rfl | later
          · exact ⟨rest, rfl⟩
          · exact absurd ((cued.tails x (by simpa [frames] using later)).symm.trans tail) Bool.false_ne_true
      obtain ⟨rest, frames⟩ := leads
      have waits := cued.rest_waits lawful stream frames
      have none_current : st.current = none := by
        by_contra is
        obtain ⟨f, -, current, -, heads⟩ := cued.stored (Option.isSome_iff_ne_none.mpr is)
        obtain rfl : x = f := by simpa [frames] using heads stream
        exact other current
      have kept : st.frames.filter (fun f => !f.status.isTail || st.current == some f.id) = rest := by
        rw [frames, List.filter_cons_of_neg (by simp [tail, other]), List.filter_eq_self]
        exact fun y hy => by simp [(waits y hy).1]
      have freed := cued.behind lawful stream frames
      rw [← none_current] at freed
      unfold Store.keepFrames
      rw [kept]
      exact freed
  · exact cued

end Cued

section Requests

variable {st : Store} (lawful : st.Lawful)

/-- R112: the received count of the OPEN frame moves, and vectors are written. -/
def Store.receive (st : Store) (f : FrameDesc) (start : Nat) (vectors : List StimVector) : Store :=
  { st.setStatus f.id (.opened (start + vectors.length)) with
    memory := Memory.writeFrom st.memory (f.first + start) vectors }

theorem State.deliver_eq (s : State) (f : FrameDesc) (start : Nat) (vectors : List StimVector) :
    s.deliver f start vectors =
      if start + vectors.length = f.count then (s.setStore (s.store.receive f start vectors)).frameReady f.id
      else s.setStore (s.store.receive f start vectors) := rfl

theorem Store.openFrame_spec {f : FrameDesc} (h : st.openFrame = some f) :
    f ∈ st.frames ∧ f.status.isOpen = true :=
  ⟨List.mem_of_find?_eq_some h, List.find?_some (p := fun f : FrameDesc => f.status.isOpen) h⟩

include lawful

theorem Store.Lawful.receive {f : FrameDesc} (opened : st.openFrame = some f) (start : Nat)
    (vectors : List StimVector) : (st.receive f start vectors).Lawful := by
  obtain ⟨hf, is⟩ := Store.openFrame_spec opened
  refine ⟨Memory.writeFrom_wf lawful.canonical _ _, fun c hc => ?_, ?_, lawful.read_end, lawful.write_end⟩
  · exact (Memory.mem_writeFrom hc).elim (lawful.slots c) id
  · refine lawful.frames.restated (FrameDesc.restates f.id _) fun y hy was => ?_
    have other : y.id ≠ f.id := fun same => by
      rw [lawful.frames.eq_of_id (List.mem_of_mem_dropLast hy) hf same, is] at was
      cases was
    exact (congrArg (fun x : FrameDesc => x.status.isOpen) (FrameDesc.restate_other _ other)).trans was

/-- R111: a frame opened at the write end within the free slots. -/
theorem Store.Lawful.openAt {id : Byte} {count repeats : Nat} (checked : Bool) (closed : st.openFrame = none)
    (fresh : st.find id = none) (few : st.frames.length < Config.frameLimit) (fits : count ≤ st.freeSlots)
    (counts : 1 ≤ count ∧ count ≤ 1024) (repeated : 1 ≤ repeats) :
    (st.openAt id count repeats checked).Lawful := by
  have law := lawful.frames
  refine ⟨lawful.canonical, lawful.slots, ⟨?_, ?_, ?_, fun f hf => ?_, fun f hf => ?_⟩, lawful.read_end,
    Nat.mod_lt _ (by decide)⟩
  · simpa [Store.openAt] using few
  · have fit := law.fit
    unfold Store.freeSlots Store.usedSlots at fits
    simp only [Store.openAt, List.map_append, List.sum_append, List.map_singleton, List.sum_singleton]
    omega
  · simp only [Store.openAt, List.map_append, List.map_singleton]
    refine law.ids.append (List.nodup_singleton _) ?_
    rw [List.disjoint_singleton]
    intro taken
    obtain ⟨f, hf, same⟩ := List.mem_map.mp taken
    exact List.find?_eq_none.mp fresh f hf (by simpa using same)
  · rcases List.mem_append.mp hf with hf | new
    · exact law.ranges f hf
    · rw [List.mem_singleton.mp new]
      exact ⟨lawful.write_end, counts.1, counts.2, repeated⟩
  · rw [Store.openAt, List.dropLast_concat] at hf
    exact Bool.eq_false_of_not_eq_true (List.find?_eq_none.mp closed f hf)

omit lawful in
theorem Store.Cued.openAt (cued : st.Cued) (id : Byte) (count repeats : Nat) (checked : Bool) :
    (st.openAt id count repeats checked).Cued := by
  refine ⟨(framesArc_append _ _ _ _).mpr ⟨_, cued.arc, by simp [Store.openAt]⟩, fun f hf => ?_,
    fun loop f hf => ?_, fun f hf is => ?_, fun is => ?_⟩
  · rw [Store.openAt, List.drop_append] at hf
    rcases List.mem_append.mp hf with hf | new
    · exact cued.tails f hf
    · rw [List.mem_singleton.mp (List.mem_of_mem_drop new)]
      rfl
  · rcases List.mem_append.mp hf with hf | new
    · exact cued.looped loop f hf
    · rw [List.mem_singleton.mp new]
      rfl
  · rcases List.mem_append.mp hf with hf | new
    · exact cued.playing f hf is
    · rw [List.mem_singleton.mp new] at is
      cases is
  · obtain ⟨f, hf, current, active, leads⟩ := cued.stored is
    exact ⟨f, List.mem_append_left _ hf, current, active, fun stream => by simp [Store.openAt, leads stream]⟩

/-- R114: the OPEN frame, last in the list, is gone and its slots with it. -/
theorem Store.Lawful.cancel_eq {f : FrameDesc} (opened : st.openFrame = some f) :
    st.cancel f = { st with
      frames := st.frames.dropLast, writeEnd := f.first
      readEnd := if st.frames.dropLast = [] then f.first else st.readEnd } := by
  obtain ⟨hf, is⟩ := Store.openFrame_spec opened
  have last := lawful.frames.eq_append_of_open hf is
  have law := lawful.frames
  rw [last] at law
  have gone : st.frames.filter (fun g => g.id != f.id) = st.frames.dropLast := by
    have removed := law.remove_append
    rwa [← last, List.append_nil] at removed
  unfold Store.cancel
  simp only [gone, List.isEmpty_iff]
  split
  · next empty => simp [Store.syncReadEnd, empty]
  · rfl

theorem Store.Lawful.cancel {f : FrameDesc} (opened : st.openFrame = some f) : (st.cancel f).Lawful := by
  have inside := (lawful.frames.ranges f (Store.openFrame_spec opened).1).1
  rw [lawful.cancel_eq opened]
  refine ⟨lawful.canonical, lawful.slots, lawful.frames.sublist (List.dropLast_sublist _), ?_, inside⟩
  dsimp only
  split
  · exact inside
  · exact lawful.read_end

theorem Store.Cued.cancel (cued : st.Cued) {f : FrameDesc} (opened : st.openFrame = some f) : (st.cancel f).Cued := by
  obtain ⟨hf, is⟩ := Store.openFrame_spec opened
  have last := lawful.frames.eq_append_of_open hf is
  have arc := cued.arc
  rw [last, framesArc_append] at arc
  obtain ⟨mid, before, behind⟩ := arc
  obtain ⟨rfl, -⟩ := (framesArc_cons _ _ _ _).mp behind
  have read : (if st.frames.dropLast = [] then f.first else st.readEnd) = st.readEnd := by
    split
    · next empty =>
      rw [empty, framesArc_nil] at before
      exact before.symm
    · rfl
  have stored : ∀ y ∈ st.frames.dropLast, y ∈ st.frames := fun y hy => List.mem_of_mem_dropLast hy
  rw [lawful.cancel_eq opened, read]
  refine ⟨before, fun y hy => cued.tails y ?_, fun loop y hy => cued.looped loop y (stored y hy),
    fun y hy => cued.playing y (stored y hy), fun some => ?_⟩
  · exact ((List.dropLast_sublist st.frames).drop 1).subset hy
  · obtain ⟨y, hy, current, active, leads⟩ := cued.stored some
    have other : y ≠ f := by
      rintro rfl
      obtain ⟨n, status⟩ := (FrameStatus.isOpen_iff _).mp is
      simp [status, FrameStatus.isPlaying, FrameStatus.isTail] at active
    have kept : y ∈ st.frames.dropLast := by
      rw [last] at hy
      exact (List.mem_append.mp hy).resolve_right fun new => other (List.mem_singleton.mp new)
    refine ⟨y, kept, current, active, fun stream => ?_⟩
    cases rest : st.frames.dropLast with
    | nil => simp [rest] at kept
    | cons x l =>
      have heads := leads stream
      rw [last, rest] at heads
      exact heads

theorem Store.Lawful.purge : st.purge.Lawful := by
  unfold Store.purge
  split
  · next f found =>
    exact ⟨lawful.canonical, lawful.slots, lawful.frames.sublist List.filter_sublist,
      (lawful.frames.ranges f (Store.currentFrame_spec found).1).1, Nat.mod_lt _ (by decide)⟩
  · exact ⟨lawful.canonical, lawful.slots, lawful.frames.sublist (List.nil_sublist _), lawful.write_end,
      lawful.write_end⟩

/-- R115: the current frame alone is an arc. -/
theorem Store.Cued.purge (cued : st.Cued) : st.purge.Cued := by
  unfold Store.purge
  split
  · next f found =>
    obtain ⟨hf, current⟩ := Store.currentFrame_spec found
    have only : st.frames.filter (fun g => g.id == f.id) = [f] := by
      obtain ⟨before, after, frames⟩ := List.append_of_mem hf
      have law := lawful.frames
      rw [frames] at law ⊢
      exact law.pick_append
    obtain ⟨active, -⟩ := cued.current_spec lawful hf current
    rw [only]
    refine ⟨by simp, by simp, fun loop y hy => ?_, fun y hy _ => ?_, fun _ => ⟨f, by simp, current, active, fun _ => rfl⟩⟩
    · rw [List.mem_singleton.mp hy]
      exact cued.looped loop f hf
    · rw [List.mem_singleton.mp hy]
      exact current
  · next absent =>
    have none_current := cued.current_of_absent lawful absent
    exact .at_rest (by simp) (by simp) (by simp) (by simp) none_current

end Requests

end Sys2Proof.Machine
end

section
/-! The store's laws in every event and in every message rule, kept by every step: R110's law alone, and with the arc and
the frame in play. -/

namespace Sys2Proof.Machine

-- One proof at a time: a proof per thread, each with its own stack, would pass the memory limit of the check.
set_option Elab.async false

/-! ### The two laws as one -/

/-- The store's law, and where the whole is asked the arc and the frame in play, with the exerciser at work in RUNNING
alone. -/
structure State.Stored (whole : Bool) (s : State) : Prop where
  lawful : s.store.Lawful
  cued : whole = true → s.store.Cued
  free : whole = true → s.exer.state = .idle ∨ s.exer.state = .starved → s.store.current = none
  running : whole = true → s.exer.state ≠ .idle → s.slot.state = .running

theorem State.storeLaw_iff_stored (s : State) : s.StoreLaw ↔ s.Stored false :=
  s.storeLaw_iff.trans ⟨fun h => ⟨h, nofun, nofun, nofun⟩, State.Stored.lawful⟩

theorem State.storeSound_iff_stored (s : State) : s.StoreSound ↔ s.Stored true := by
  constructor
  · rintro ⟨law, arc, ⟨tails, looped, playing, stored, free⟩, running⟩
    exact ⟨s.storeLaw_iff.mp law, fun _ => ⟨arc, tails, looped, playing, stored⟩, fun _ => free, fun _ => running⟩
  · rintro ⟨lawful, cued, free, running⟩
    obtain ⟨arc, tails, looped, playing, stored⟩ := cued rfl
    exact ⟨s.storeLaw_iff.mpr lawful, arc, ⟨tails, looped, playing, stored, free rfl⟩, running rfl⟩

/-! ### The exerciser's state under the shared operations -/

section Quiet

variable (s : State)

@[simp] theorem State.modCompare_exerState (k : Fin 48) (f : CompareRec → CompareRec) :
    (s.modCompare k f).exer.state = s.exer.state := rfl

@[simp] theorem State.depart_exerState (k : Fin 48) : (s.depart k).exer.state = s.exer.state := by
  unfold State.depart
  split <;> rfl

@[simp] theorem State.holdOff_exerState (z : Fin 6) : (s.holdOff z).exer.state = s.exer.state := by
  unfold State.holdOff
  refine foldl_frame (fun t : State => t.exer.state) _ (fun t k => ?_) _ _
  dsimp only
  split
  · exact t.depart_exerState k
  · rfl

@[simp] theorem State.applyPlaySettings_exerState (x : Settings) :
    (s.setExer ((s.exer.applyTiming x.timing).applyChannels x.channels)).exer.state = s.exer.state := by simp

@[simp] theorem State.takeFrame_store (id : Byte) : (s.takeFrame id).store = s.store.take id := by
  simp [State.takeFrame]

@[simp] theorem State.takeFrame_exer (id : Byte) : (s.takeFrame id).exer = { s.exer with position := some 0 } := by
  simp [State.takeFrame]

/-- A vector start leaves the exerciser PLAYING, or as it was without a frame and a position. -/
theorem State.startVector_exerState :
    s.startVector.exer.state = if s.store.currentFrame.isSome && s.exer.position.isSome then .playing
      else s.exer.state := by
  unfold State.startVector
  cases s.store.currentFrame <;> cases s.exer.position <;> rfl

theorem State.playOrHold_exerState :
    s.playOrHold.exer.state = if s.exer.holdSet then .held
      else if s.store.currentFrame.isSome && s.exer.position.isSome then .playing else s.exer.state := by
  unfold State.playOrHold
  split
  · rfl
  · exact (s.setExer { s.exer with clockAge := Bank.replicate 16 0 }).startVector_exerState

end Quiet

/-! ### The shared operations -/

section Operations

variable {whole : Bool} {s t : State}

/-- A change that leaves store, exerciser's state and slot state. -/
theorem State.Stored.still (h : s.Stored whole) (store : t.store = s.store := by simp)
    (exer : t.exer.state = s.exer.state := by simp) (slot : t.slot.state = s.slot.state := by simp) :
    t.Stored whole := by
  obtain ⟨lawful, cued, free, running⟩ := h
  exact ⟨store ▸ lawful, store ▸ cued, by rw [store, exer]; exact free, by rw [exer, slot]; exact running⟩

theorem State.Stored.foldl {α : Type} {f : State → α → State} (h : s.Stored whole)
    (turn : ∀ (u : State) a, u.Stored whole → (f u a).Stored whole) (l : List α) : (l.foldl f s).Stored whole :=
  List.foldlRecOn l f h fun u hu a _ => turn u a hu

/-- Outside RUNNING the slot moves with the exerciser IDLE. -/
theorem State.Stored.elsewhere (h : s.Stored whole) (before : s.slot.state ≠ .running)
    (store : t.store = s.store := by simp) (exer : t.exer.state = s.exer.state := by simp) : t.Stored whole := by
  obtain ⟨lawful, cued, free, running⟩ := h
  refine ⟨store ▸ lawful, store ▸ cued, by rw [store, exer]; exact free, fun w at_work => ?_⟩
  exact absurd (running w (exer ▸ at_work)) before

/-- An exerciser at work changes to another state of play: PLAYING, HELD or STOPPED, or STARVED without a frame. -/
theorem State.Stored.plays (h : s.Stored whole) (at_work : s.exer.state ≠ .idle)
    (store : t.store = s.store := by simp) (slot : t.slot.state = s.slot.state := by simp)
    (not_idle : t.exer.state ≠ .idle := by simp)
    (starved : t.exer.state = .starved → s.exer.state = .starved ∨ s.store.current = none := by simp) :
    t.Stored whole := by
  obtain ⟨lawful, cued, free, running⟩ := h
  refine ⟨store ▸ lawful, store ▸ cued, fun w is => ?_, fun w _ => by rw [slot]; exact running w at_work⟩
  rw [store]
  exact (starved (is.resolve_left not_idle)).elim (fun was => free w (.inr was)) id

/-- R128: the exerciser IDLE, its frame released, the waiting settings applied. -/
theorem State.Stored.of_idle (h : s.Stored whole) (x y : Option PlaySettings)
    (store : t.store = (s.store.release.withPlay x).withPlay y) (exer : t.exer.state = .idle) : t.Stored whole where
  lawful := by
    rw [store]
    exact (h.lawful.release.withPlay x).withPlay y
  cued w := by
    rw [store]
    have released := h.lawful.release
    exact (((h.cued w).release h.lawful).withPlay released x).withPlay (released.withPlay x) y
  free _ _ := by simp [store]
  running _ at_work := absurd exer at_work

theorem State.Stored.enterDraining (h : s.Stored whole) (c : EndCause) : (s.enterDraining c).Stored whole :=
  h.of_idle s.exer.boundary.play s.exer.staged.play (by simp [State.enterDraining, State.quiesce_store]) (by simp)

theorem State.Stored.enterSafe (h : s.Stored whole) (c : EndCause) (f : FailureKind) (n : Fin 12) (x : Source) :
    (s.enterSafe c f n x).Stored whole :=
  h.of_idle s.exer.boundary.play s.exer.staged.play (by simp [State.enterSafe, State.quiesce_store]) (by simp)

variable (h : s.Stored whole)

include h

theorem State.Stored.notify (c : Fin 12) (x : Source) : (s.notify c x).Stored whole := h.still

theorem State.Stored.checkRunEnd : s.checkRunEnd.Stored whole := by
  unfold State.checkRunEnd
  split
  · exact h.enterDraining _
  · exact h

theorem State.Stored.retire (k : Fin 48) (cause : RetireCause) : (s.retire k cause).Stored whole :=
  State.Stored.checkRunEnd h.still

theorem State.Stored.complete (k : Fin 48) : (s.complete k).Stored whole := State.Stored.checkRunEnd h.still

theorem State.Stored.isolate (k : Fin 48) : (s.isolate k).Stored whole := by
  unfold State.isolate
  split
  · exact h.retire k _
  · exact h.still

theorem State.Stored.railFault (r : Fin 4) (mv : Nat) : (s.railFault r mv).Stored whole := by
  have faulted {u : State} (same : u.Stored whole) :
      (if u.slot.state.inRun then u.enterDraining .railFault else u).Stored whole := by
    split
    · exact same.enterDraining _
    · exact same
  exact faulted h.still

/-! ### Frames taken (R116, R127, R131, R132) -/

/-- R116: a frame is taken and played or held, where none is in play. -/
theorem State.Stored.takeFrame {g : FrameDesc} (ready : s.store.firstReady = some g)
    (none_current : whole = true → s.store.current = none) (running : whole = true → s.slot.state = .running) :
    ((s.takeFrame g.id).playOrHold).Stored whole := by
  have store : (s.takeFrame g.id).playOrHold.store = s.store.take g.id := by simp
  obtain ⟨hg, status⟩ := find_ready_spec ready
  have lawful := h.lawful.take g.id
  have cued (w : whole = true) : (s.store.take g.id).Cued :=
    (h.cued w).take h.lawful (none_current w) hg status fun _ => ready
  refine ⟨store ▸ lawful, store ▸ cued, fun w is => ?_, fun w _ => ?_⟩
  · have frame : (s.takeFrame g.id).store.currentFrame.isSome = true := by
      rw [Option.isSome_iff_ne_none]
      intro absent
      have gone := (cued w).current_of_absent lawful (by simpa using absent)
      simp at gone
    rw [State.playOrHold_exerState, frame] at is
    have position : (s.takeFrame g.id).exer.position = some 0 := by simp
    rw [position] at is
    split at is <;> simp at is
  · simpa using running w

/-- R127, R131: the first READY frame is taken, or the exerciser starves. -/
theorem State.Stored.takeFirstReady (none_current : whole = true → s.store.current = none)
    (running : whole = true → s.slot.state = .running) : s.takeFirstReady.Stored whole := by
  unfold State.takeFirstReady
  split
  · next ready => exact h.takeFrame ready none_current running
  · exact ⟨h.lawful, h.cued, fun w _ => none_current w, fun w _ => running w⟩

/-- R135, R132: play settings applied. -/
theorem State.Stored.applyPlay (p : PlaySettings) : (s.applyPlay p).Stored whole := by
  have store : (s.playPut p).store = s.store.withPlay (some p) := by
    unfold State.playPut
    dsimp only
    split <;> rfl
  have exer : (s.playPut p).exer.state = s.exer.state := by
    unfold State.playPut
    dsimp only
    split <;> rfl
  have slot : (s.playPut p).slot.state = s.slot.state := by
    unfold State.playPut
    dsimp only
    split <;> rfl
  have free (w : whole = true) (is : s.exer.state = .idle ∨ s.exer.state = .starved) :
      (s.playPut p).store.current = none := by
    rw [store, Store.withPlay_current]
    exact h.free w is
  have put : (s.playPut p).Stored whole := by
    refine ⟨store ▸ h.lawful.withPlay _, fun w => store ▸ (h.cued w).withPlay h.lawful _, fun w is => ?_, ?_⟩
    · exact free w (exer ▸ is)
    · rw [exer, slot]
      exact h.running
  rw [State.applyPlay_put]
  split
  · next taken =>
    obtain ⟨starved, -⟩ := taken
    refine put.takeFirstReady (fun w => free w (.inr starved)) fun w => ?_
    rw [slot]
    exact h.running w (by simp [starved])
  · exact put

theorem State.Stored.applySettings (x : Settings) : (s.applySettings x).Stored whole := by
  have applied : (s.setExer ((s.exer.applyTiming x.timing).applyChannels x.channels)).Stored whole :=
    h.still
  unfold State.applySettings
  dsimp only
  split
  · exact applied.applyPlay _
  · exact applied

theorem State.Stored.takeSettings (x : Settings) (late : Bool) : (s.takeSettings x late).Stored whole := by
  have placed (e : Exerciser) (same : e.state = s.exer.state) : (s.setExer e).Stored whole := h.still rfl same rfl
  unfold State.takeSettings
  dsimp only
  split
  · split
    · exact placed _ rfl
    · exact placed _ rfl
  · refine State.Stored.applySettings ?_ x
    exact placed _ rfl

/-- R130: held play goes on. -/
theorem State.Stored.setHolds (budget pause : Bool) : (s.setHolds budget pause).Stored whole := by
  have moved : (s.withHolds budget pause).Stored whole := h.still rfl rfl rfl
  rw [State.setHolds_eq]
  split
  · exact moved
  · split
    · exact moved.still rfl rfl rfl
    · split
      · next held =>
        have at_work : (s.withHolds budget pause).exer.state = .held := held.1
        have goes : (s.withHolds budget pause).enterPlaying.exer.state = .playing
            ∨ (s.withHolds budget pause).enterPlaying.exer.state = .held := by
          rw [State.enterPlaying, State.startVector_exerState]
          split
          · exact .inl rfl
          · exact .inr at_work
        refine moved.plays (by simp [at_work]) (by simp) (by simp) ?_ ?_
        · rcases goes with is | is <;> simp [is]
        · rcases goes with is | is <;> simp [is]
      · exact moved

/-- R12, R127: play begins at the entry to RUNNING, made from ARMING. -/
theorem State.Stored.armingTest : s.armingTest.Stored whole := by
  unfold State.armingTest
  split
  · next armed =>
    have idle (w : whole = true) : s.exer.state = .idle := by
      by_contra at_work
      exact absurd (armed.1.symm.trans (h.running w at_work)) nofun
    have entered : ((s.setSlot { s.slot with armTimer := none }).moveTo .running).Stored whole :=
      h.elsewhere (by simp [armed.1])
    have begun : s.running.Stored whole := by
      unfold State.running State.beginPlay
      split
      · exact entered.takeFirstReady (fun w => h.free w (.inl (idle w))) fun _ => rfl
      · exact entered
    have underway : s.underway.Stored whole := begun.still rfl rfl rfl
    rw [State.enterRunning_eq]
    split
    · exact underway.enterDraining _
    · exact underway
  · exact h

/-! ### Sockets and rails -/

theorem State.Stored.hardTrip (k : Fin 48) (v : Nat) : (s.hardTrip k v).Stored whole :=
  State.Stored.isolate h.still k

theorem State.Stored.softTrip (k : Fin 48) (v : Nat) : (s.softTrip k v).Stored whole :=
  State.Stored.isolate h.still k

theorem State.Stored.warnStage (k : Fin 48) : (s.warnStage k).Stored whole := by
  unfold State.warnStage
  dsimp only
  (repeat' split) <;> exact h.still

theorem State.Stored.tripStage (k : Fin 48) (v : Nat) : (s.tripStage k v).Stored whole := by
  unfold State.tripStage
  dsimp only
  split
  · exact h.softTrip k v
  · exact h

theorem State.Stored.judgeSample (k : Fin 48) (v : Nat) (w : Wire) : (s.judgeSample k v w).Stored whole := by
  unfold State.judgeSample
  split
  · exact h.hardTrip k v
  · exact ((h.still : (s.modSocket k _).Stored whole).warnStage k).tripStage k v

theorem State.Stored.socketSampled (k : Fin 48) (ma : Nat) : (s.socketSampled k ma).Stored whole := by
  have sampled (f : SocketRec → SocketRec) : (s.modSocket k f).Stored whole := h.still
  unfold State.socketSampled
  dsimp only
  split
  · split
    · exact (sampled _).judgeSample k _ _
    · exact sampled _
  · exact sampled _

theorem State.Stored.cooldownExpires (k : Fin 48) : (s.cooldownExpires k).Stored whole := by
  unfold State.cooldownExpires
  (repeat' split) <;> exact h.still

theorem State.Stored.sequenceStep (r : Fin 4) : (s.sequenceStep r).Stored whole := by
  unfold State.sequenceStep
  (repeat' split) <;> exact h.still

theorem State.Stored.judgeRegulated (r : Fin 4) : (s.judgeRegulated r).Stored whole := by
  unfold State.judgeRegulated
  dsimp only
  split
  · exact h.still
  · split
    · refine State.Stored.railFault ?_ _ _
      split <;> exact h.still
    · split <;> exact h.still

theorem State.Stored.judgeRail (r : Fin 4) : (s.judgeRail r).Stored whole := by
  have judged : (s.modRail r fun y => { y with inWindow := railInWindow y }).Stored whole := h.still
  unfold State.judgeRail
  dsimp only
  split
  · exact h
  · exact h
  · split
    · exact ((judged.still : (State.modRail _ r _).Stored whole).sequenceStep r).armingTest
    · exact judged
  · split
    · exact judged
    · exact judged.judgeRegulated r

theorem State.Stored.railSampled (readings : Bank RailReading 4) : (s.railSampled readings).Stored whole := by
  refine State.Stored.foldl (h.still : (s.setRail _).Stored whole) (fun u r hu => ?_) _
  split
  · exact hu
  · exact hu.judgeRail r

theorem State.Stored.settleExpires (r : Fin 4) : (s.settleExpires r).Stored whole := by
  unfold State.settleExpires
  dsimp only
  split
  · exact h.railFault r _
  · exact h.still

/-! ### The control pass -/

theorem State.Stored.sensorFails (z : Fin 6) : (s.sensorFails z).Stored whole := by
  unfold State.sensorFails
  dsimp only
  split <;> exact h.still

theorem State.Stored.zoneTrips (z : Fin 6) (t : Int) : (s.zoneTrips z t).Stored whole := by
  unfold State.zoneTrips
  dsimp only
  split <;> exact h.still

theorem State.Stored.zoneReturns (z : Fin 6) (t : Int) (c : ZoneCapture) : (s.zoneReturns z t c).Stored whole := by
  unfold State.zoneReturns
  exact h.still

theorem State.Stored.classifyInvalid (z : Fin 6) : (s.classifyInvalid z).Stored whole := by
  unfold State.classifyInvalid
  dsimp only
  split
  · split
    · exact h.sensorFails z
    · exact h.still
  · split
    · exact h.sensorFails z
    · exact h.still
  · exact h

theorem State.Stored.classifyValid (z : Fin 6) (t : Int) (c : ZoneCapture) (b : ZoneBoard) :
    (s.classifyValid z t c b).Stored whole := by
  unfold State.classifyValid
  split
  · split
    · exact h.zoneTrips z t
    · exact h.still
  · split
    · exact h.zoneReturns z t c
    · exact h
  · split
    · exact h.zoneTrips z t
    · exact h.zoneReturns z t c
  · exact h

theorem State.Stored.classify (z : Fin 6) (code : Nat) (c : ZoneCapture) (board : Option ZoneBoard) :
    (s.classify z code c board).Stored whole := by
  unfold State.classify
  split
  · exact h.classifyInvalid z
  · split
    · exact h.classifyValid z _ c _
    · exact h.still

theorem State.Stored.zoneStep (cap : PassCapture) (code : Nat) (computing : Bool) (z : Fin 6) :
    (s.zoneStep cap code computing z).Stored whole := by
  have read (f : ZoneRec → ZoneRec) : (s.modZone z f).Stored whole := h.still
  unfold State.zoneStep
  dsimp only
  split
  · exact (read _).classify z _ _ _
  · exact h.still

theorem State.Stored.controlStep (cap : PassCapture) (computing : Bool) (z : Fin 6) :
    (s.controlStep cap computing z).Stored whole := by
  unfold State.controlStep
  split
  · exact h.still
  · exact h

/-- R105, R106, R130: the budget stage acts on play through the hold set. -/
theorem State.Stored.budgetStage (cap : PassCapture) (comp : Fin 6 → Bool) : (s.budgetStage cap comp).Stored whole := by
  have granted : (s.grantStage cap).Stored whole := by
    unfold State.grantStage
    dsimp only
    split <;> exact h.still
  have budgeted (b : BudgetRec) : ((s.grantStage cap).setBudgetRec b).Stored whole := granted.still rfl rfl rfl
  unfold State.budgetStage
  split
  · unfold State.holdStage
    dsimp only
    split
    · split
      · exact State.Stored.notify ((budgeted _).setHolds _ _) 6 .b
      · exact budgeted _
    · split
      · exact (budgeted _).setHolds _ _
      · exact budgeted _
  · exact h

theorem State.Stored.passJudged (cap : PassCapture) (codes : Bank Nat 6) : (s.passJudged cap codes).Stored whole := by
  have begun : (s.setTherm { s.therm with pass := none }).Stored whole := h.still
  have turned := begun.foldl (fun _ z hu => hu.zoneStep cap (codes.get z) (s.computing cap z) z) (List.finRange 6)
  have controlled := turned.foldl (fun _ z hu => hu.controlStep cap (s.computing cap z) z) (List.finRange 6)
  exact State.Stored.budgetStage controlled cap _

/-! ### Credit and the slot state machine -/

theorem State.Stored.nextInterval : s.nextInterval.Stored whole := by
  unfold State.nextInterval
  split
  · split
    · exact h.enterDraining _
    · exact h.still
  · exact h

theorem State.Stored.creditExpires : s.creditExpires.Stored whole := by
  have advanced : s.advanceSeconds.grantCredit.note.Stored whole := by
    unfold State.advanceSeconds
    dsimp only
    split <;> exact h.still rfl rfl rfl
  refine State.Stored.nextInterval (advanced.foldl (fun u k hu => ?_) _)
  split
  · exact hu.complete k
  · exact hu

theorem State.Stored.enterIdentifying (before : s.slot.state ≠ .running) : s.enterIdentifying.Stored whole :=
  h.elsewhere before

theorem State.Stored.unseat : s.unseat.Stored whole := by
  have unseated (x : SlotRec) (same : x.state = s.slot.state) : (s.setSlot x).discardIdentity.Stored whole :=
    h.still rfl rfl same
  unfold State.unseat
  dsimp only
  split
  · refine State.Stored.enterSafe ?_ _ _ _ _
    exact unseated _ rfl
  · next idle =>
    have before : s.slot.state ≠ .running := fun is => by simp [is, SlotState.live] at idle
    split
    · exact h.elsewhere before
    · exact h.elsewhere before
    · exact h.elsewhere before
    · exact h.elsewhere before

theorem State.Stored.seatFound : s.seatFound.Stored whole := by
  have seated (x : SlotRec) (same : x.state = s.slot.state) : (s.setSlot x).Stored whole := h.still rfl rfl same
  unfold State.seatFound
  dsimp only
  split
  · next empty => exact State.Stored.enterIdentifying (seated _ rfl) (by simp [empty])
  · exact seated _ rfl

theorem State.Stored.chainOpens : s.chainOpens.Stored whole := by
  have opened (x : SlotRec) (same : x.state = s.slot.state) : (s.setSlot x).Stored whole := h.still rfl rfl same
  unfold State.chainOpens
  dsimp only
  split
  · refine State.Stored.enterSafe ?_ _ _ _ _
    exact opened _ rfl
  · refine State.Stored.notify ?_ _ _
    exact opened _ rfl

theorem State.Stored.silenceExpires : s.silenceExpires.Stored whole := by
  unfold State.silenceExpires
  dsimp only
  split
  · exact State.Stored.enterSafe h.still _ _ _ _
  · exact h.still

theorem State.Stored.attemptEnds (attempting : s.attempting = true) (read : BusRead) :
    (s.attemptEnds read).Stored whole := by
  have before : s.slot.state ≠ .running := fun is => by
    simp [State.attempting, is] at attempting
  unfold State.attemptEnds
  split
  · exact h.elsewhere before
  · split
    · exact h.elsewhere before
    · exact h.elsewhere before

/-! ### Play (R117 to R120, R129, R136, R138) -/

theorem State.Stored.judgeSocket (k : Fin 48) : (s.judgeSocket k).Stored whole := by
  have logged (f : CompareRec → CompareRec) : ((s.modCompare k f).logFunctional k).Stored whole := by
    unfold State.logFunctional
    dsimp only
    split <;> exact h.still
  unfold State.judgeSocket
  dsimp only
  split
  · split
    · exact logged _
    · exact (logged _).retire k _
  · exact h

/-- While PLAYING the store moves by its own rules. -/
theorem State.Stored.restocked (playing : s.exer.state = .playing) (lawful : t.store.Lawful)
    (cued : whole = true → t.store.Cued) (exer : t.exer.state = s.exer.state := by simp)
    (slot : t.slot.state = s.slot.state := by simp) : t.Stored whole where
  lawful := lawful
  cued := cued
  free _ is := by
    rw [exer, playing] at is
    exact is.elim nofun nofun
  running w at_work := slot.trans (h.running w (exer ▸ at_work))

/-- R118: the end of a frame in Stream mode. -/
theorem State.Stored.streamEnd (playing : s.exer.state = .playing) {f : FrameDesc}
    (now : s.store.currentFrame = some f) (stream : s.store.mode = .stream) : (s.streamEnd f).Stored whole := by
  obtain ⟨hf, current⟩ := Store.currentFrame_spec now
  have tail := h.lawful.setStatus f.id (x := .tail) rfl
  unfold State.streamEnd
  split
  · next next =>
    refine h.restocked playing ?_ fun w => ?_
    · rw [State.takeFrame_store]
      exact (h.lawful.keepFrames _).take _
    · rw [State.takeFrame_store]
      exact (h.cued w).hand_on h.lawful hf current stream next
  · dsimp only
    split
    · exact h.restocked playing (tail.set_frames tail.frames _ _ _) fun w =>
        (h.cued w).tail h.lawful hf current stream false
    · exact h.restocked playing tail fun w => (h.cued w).tail h.lawful hf current stream true

/-- R120: the end of a frame in Loop mode. -/
theorem State.Stored.loopEnd (playing : s.exer.state = .playing) {f : FrameDesc}
    (now : s.store.currentFrame = some f) (loop : s.store.mode = .loop) : (s.loopEnd f).Stored whole := by
  obtain ⟨hf, current⟩ := Store.currentFrame_spec now
  have ready := h.lawful.setStatus f.id (x := .ready) rfl
  have back : ({ s.store.setStatus f.id .ready with current := none } : Store).Lawful :=
    ready.set_frames ready.frames _ _ _
  unfold State.loopEnd
  dsimp only
  split
  · next next =>
    obtain ⟨stored, is⟩ := Store.nextInLoop_spec next
    refine h.restocked playing ?_ fun w => ?_
    · rw [State.takeFrame_store]
      exact ready.take _
    · rw [State.takeFrame_store]
      exact ((h.cued w).hand_back h.lawful hf current).take back rfl stored is
        fun stream => absurd (loop.symm.trans stream) nofun
  · exact h.restocked playing back fun w => (h.cued w).hand_back h.lawful hf current

/-- R119: the end of a TAIL's replay pass. -/
theorem State.Stored.tailEnd (playing : s.exer.state = .playing) {f : FrameDesc}
    (now : s.store.currentFrame = some f) (tail : f.status = .tail) : (s.tailEnd f).Stored whole := by
  obtain ⟨hf, current⟩ := Store.currentFrame_spec now
  have stream (w : whole = true) : s.store.mode = .stream := by
    cases mode : s.store.mode with
    | stream => rfl
    | loop => exact absurd ((h.cued w).looped mode f hf) (by simp [tail, FrameStatus.isTail])
  unfold State.tailEnd
  split
  · next next =>
    refine h.restocked playing ?_ fun w => ?_
    · rw [State.takeFrame_store]
      exact (h.lawful.keepFrames _).take _
    · rw [State.takeFrame_store]
      exact (h.cued w).hand_on h.lawful hf current (stream w) next
  · split
    · exact h.restocked playing (h.lawful.set_frames h.lawful.frames _ _ _) fun w =>
        (h.cued w).leave h.lawful hf current (by rw [tail]; rfl)
    · exact h

theorem State.Stored.storePassEnd (playing : s.exer.state = .playing) (wasTail : Bool) :
    (s.storePassEnd wasTail).Stored whole := by
  unfold State.storePassEnd
  split
  · exact h
  · next now =>
    split
    · next status =>
      split
      · exact h
      · split
        · split
          · next stream => exact h.streamEnd playing now stream
          · next loop => exact h.loopEnd playing now loop
        · exact h.restocked playing (h.lawful.setStatus _ rfl) fun w =>
            (h.cued w).restate h.lawful (Store.currentFrame_spec now).1 (by rw [status]; rfl) (by rw [status]; rfl) _
    · next tail => exact h.tailEnd playing now tail
    · exact h

omit h in
theorem State.storePassEnd_exerState (s : State) (wasTail : Bool) :
    (s.storePassEnd wasTail).exer.state = s.exer.state := by
  unfold State.storePassEnd State.streamEnd State.loopEnd State.tailEnd State.takeFrame
  dsimp only
  (repeat' split) <;> simp

theorem State.Stored.applyWaiting (x : Settings) (e : Exerciser) (same : e.state = s.exer.state) :
    ((s.setExer e).applySettings x).Stored whole := by
  refine State.Stored.applySettings ?_ x
  exact h.still rfl same rfl

theorem State.Stored.passEnd (checked wasTail : Bool) : (s.passEnd checked wasTail).Stored whole := by
  have judged : (if checked then s.judgePass else s).Stored whole := by
    split
    · exact h.foldl (fun _ k hu => hu.judgeSocket k) _
    · exact h
  unfold State.passEnd
  generalize (if checked = true then s.judgePass else s) = u at judged
  dsimp only
  split
  · next playing =>
    have is : u.exer.state = .playing := by simpa [ExerState.isPlaying] using playing
    have cleared : (if checked then u.setExer u.exer.clearWindows else u).Stored whole := by
      split
      · exact judged.still rfl rfl rfl
      · exact judged
    have cleared_is : (if checked then u.setExer u.exer.clearWindows else u).exer.state = .playing := by
      split
      · exact is
      · exact is
    generalize (if checked = true then u.setExer u.exer.clearWindows else u) = v at cleared cleared_is
    have staged : v.applyStaged.Stored whole := cleared.applyWaiting _ _ rfl
    have staged_is : v.applyStaged.exer.state = .playing := by
      unfold State.applyStaged
      rw [State.applySettings_exerState] <;> simp [cleared_is]
    exact (staged.storePassEnd staged_is wasTail).still rfl rfl rfl
  · exact judged

/-- R129, step 3. -/
theorem State.Stored.vectorFollows (playing : s.exer.state = .playing) : s.vectorFollows.Stored whole := by
  have at_work : s.exer.state ≠ .idle := by simp [playing]
  unfold State.vectorFollows
  split
  · exact h.plays at_work (by simp) (by simp) nofun nofun
  · split
    · next none_current =>
      exact h.plays at_work (by simp) (by simp) nofun fun _ => .inr (by simpa using none_current)
    · split
      · exact h.plays at_work (by simp) (by simp) nofun nofun
      · have goes : s.startVector.exer.state = .playing := by
          rw [State.startVector_exerState, playing, ite_self]
        exact h.plays at_work (by simp) (by simp) (by simp [goes]) (by simp [goes])

theorem State.Stored.vectorEnds : s.vectorEnds.Stored whole := by
  have applied : (s.setExer s.exer.advanceClocks).applyBoundary.Stored whole :=
    (h.still rfl rfl rfl : (s.setExer s.exer.advanceClocks).Stored whole).applyWaiting _ _ rfl
  have followed {u : State} (hu : u.Stored whole) :
      (if u.exer.state.isPlaying then u.vectorFollows else u).Stored whole := by
    split
    · next playing => exact hu.vectorFollows (by simpa [ExerState.isPlaying] using playing)
    · exact hu
  unfold State.vectorEnds
  generalize (s.setExer s.exer.advanceClocks).applyBoundary = u at applied
  dsimp only
  split
  · refine followed ?_
    split
    · exact applied.passEnd _ _
    · exact applied.still rfl rfl rfl
  · exact applied

theorem State.Stored.strobes (lines : BitVec 48) : (s.strobes lines).Stored whole := by
  unfold State.strobes
  (repeat' split) <;> exact h.still rfl rfl rfl

omit h in
/-- R24: the store and the exerciser at their reset values. -/
theorem State.Stored.of_reset (whole : Bool) {t : State} (store : t.store = Store.atReset) (exer : t.exer.state = .idle) :
    t.Stored whole := by
  have lawful : Store.atReset.Lawful :=
    ⟨rfl, nofun, ⟨by decide, by decide, List.nodup_nil, nofun, nofun⟩, by decide, by decide⟩
  have cued : Store.atReset.Cued := .at_rest rfl nofun nofun nofun rfl
  exact ⟨store ▸ lawful, fun _ => store ▸ cued, fun _ _ => by rw [store]; rfl, fun _ at_work => absurd exer at_work⟩

end Operations

/-! ### The message rules (11.5) -/

section Rules

variable {whole : Bool} {s t : State} (c : Call) (h : s.Stored whole)

include h

/-- The store's list moves while the same frame, or none, is in play. -/
theorem State.Stored.refilled (lawful : t.store.Lawful) (cued : whole = true → t.store.Cued)
    (current : t.store.current = s.store.current) (exer : t.exer.state = s.exer.state := by simp)
    (slot : t.slot.state = s.slot.state := by simp) : t.Stored whole where
  lawful := lawful
  cued := cued
  free := by
    rw [exer, current]
    exact h.free
  running := by
    rw [exer, slot]
    exact h.running

/-- R113: an OPEN frame becomes READY. -/
theorem State.Stored.frameReady {f : FrameDesc} (hf : f ∈ s.store.frames) {n : Nat} (opened : f.status = .opened n) :
    (s.frameReady f.id).Stored whole := by
  have ready : (s.store.setStatus f.id .ready).Lawful := h.lawful.setStatus f.id rfl
  have cued (w : whole = true) : (s.store.setStatus f.id .ready).Cued :=
    (h.cued w).restate h.lawful hf (by rw [opened]; rfl) (by rw [opened]; rfl) s.store.memory
  have current : (s.store.setStatus f.id .ready).freeIdleTail.current = s.store.current :=
    Store.freeIdleTail_current _
  have filled : (s.setStore (s.store.setStatus f.id .ready).freeIdleTail).Stored whole :=
    h.refilled ready.freeIdleTail (fun w => (cued w).freeIdleTail ready) current
  unfold State.frameReady
  dsimp only
  split
  · next starved =>
    exact filled.takeFirstReady (fun w => current.trans (h.free w (.inr starved)))
      fun w => h.running w (starved.trans_ne nofun)
  · exact filled

/-- R112, R113: vectors delivered to the OPEN frame. -/
theorem State.Stored.deliver {f : FrameDesc} (opened : s.store.openFrame = some f) (start : Nat)
    (vectors : List StimVector) : (s.deliver f start vectors).Stored whole := by
  obtain ⟨hf, is⟩ := Store.openFrame_spec opened
  obtain ⟨n, status⟩ := (FrameStatus.isOpen_iff _).mp is
  have put : (s.setStore (s.store.receive f start vectors)).Stored whole :=
    h.refilled (h.lawful.receive opened _ _)
      (fun w => (h.cued w).restate h.lawful hf (by rw [status]; rfl) (by rw [status]; rfl) _) rfl
  have stored : { f with status := .opened (start + vectors.length) } ∈ (s.store.receive f start vectors).frames := by
    rw [← FrameDesc.restate_same]
    exact List.mem_map_of_mem hf
  rw [State.deliver_eq]
  split
  · exact put.frameReady (f := { f with status := .opened (start + vectors.length) }) stored rfl
  · exact put

theorem handleFrameData_stored : (handleFrameData c s).state.Stored whole := by
  unfold handleFrameData
  dsimp only
  split
  · exact h
  · split
    · exact h
    · next continued =>
      refine h.deliver ?_ _ _
      unfold Store.continues at continued
      split at continued
      · next opened =>
        split at continued
        · rw [opened, ← Option.some.inj continued]
        · cases continued
      · cases continued

theorem handleFrameOpen_stored : (handleFrameOpen c s).state.Stored whole := by
  unfold handleFrameOpen
  dsimp only
  split
  · exact h
  · split
    · exact h
    · next values =>
      split
      · exact h
      · next closed =>
        split
        · exact h
        · next fresh =>
          split
          · exact h
          · next room =>
            refine h.refilled ?_ (fun w => (h.cued w).openAt _ _ _ _) rfl
            refine h.lawful.openAt _ (by simpa using closed) (by simpa using fresh) ?_ ?_ ⟨?_, ?_⟩ ?_ <;> omega

theorem handleFrameCancel_stored : (handleFrameCancel c s).state.Stored whole := by
  unfold handleFrameCancel
  split
  · next opened =>
    split
    · refine h.refilled (h.lawful.cancel opened) (fun w => (h.cued w).cancel h.lawful opened) ?_
      rw [State.ok_state, State.setStore_store, h.lawful.cancel_eq opened]
    · exact h
  · exact h

theorem handlePurgeFrames_stored : (handlePurgeFrames c s).state.Stored whole := by
  have current : s.store.purge.current = s.store.current := by
    unfold Store.purge
    split <;> rfl
  have purged : (s.setStore s.store.purge).Stored whole :=
    h.refilled h.lawful.purge (fun w => (h.cued w).purge h.lawful) current
  unfold handlePurgeFrames
  exact purged.still

theorem handleExerciseStart_stored : (handleExerciseStart c s).state.Stored whole := by
  unfold handleExerciseStart
  split
  · next running =>
    rw [State.ok_state]
    split
    · unfold State.startPlay
      split
      · exact h.still rfl rfl rfl
      · next stopped =>
        unfold State.restartPlay
        split
        · dsimp only
          have cleared : (s.setExer { s.exer.clearWindows with position := some 0 }).Stored whole := h.still rfl rfl rfl
          have goes : (s.setExer { s.exer.clearWindows with position := some 0 }).playOrHold.exer.state ≠ .idle
              ∧ (s.setExer { s.exer.clearWindows with position := some 0 }).playOrHold.exer.state ≠ .starved := by
            have was : (s.setExer { s.exer.clearWindows with position := some 0 }).exer.state = .stopped := stopped
            rw [State.playOrHold_exerState, was]
            (repeat' split) <;> exact ⟨nofun, nofun⟩
          exact cleared.plays (stopped.trans_ne nofun) (by simp) (by simp) goes.1 fun is => absurd is goes.2
        · next none_current => exact h.takeFirstReady (fun _ => none_current) fun _ => running
      · exact h
      · exact h
      · exact h
    · exact h
  · exact h

theorem handleExerciseStop_stored : (handleExerciseStop c s).state.Stored whole := by
  unfold handleExerciseStop
  split
  · rw [State.ok_state]
    split
    · unfold State.stopPlay
      split
      · exact h.still rfl rfl rfl
      · next held => exact h.plays (held.trans_ne nofun) (by simp) (by simp) nofun nofun
      · next starved => exact h.plays (starved.trans_ne nofun) (by simp) (by simp) nofun nofun
      · exact h
      · exact h
    · exact h
  · exact h

theorem State.Stored.setPaused (p : Bool) : (s.setPaused p).Stored whole := by
  refine State.Stored.setHolds ?_ _ p
  exact h.still rfl rfl rfl

/-- R11, R109: START is taken in READY. -/
theorem State.Stored.startRun (ready : s.slot.state = .ready) (choice : StartChoice) (g : General) (d : Identity) :
    (s.startRun choice g d).Stored whole := by
  have moded : (s.setStore (s.store.begin g)).Stored whole := by
    refine h.refilled ((h.lawful.setMode g.mode).set_frames (h.lawful.setMode g.mode).frames _ _ _) (fun w => ?_)
      (Store.setMode_current s.store g.mode)
    obtain ⟨arc, tails, looped, playing, stored⟩ := (h.cued w).setMode h.lawful g.mode
    exact ⟨arc, tails, looped, playing, stored⟩
  refine moded.elsewhere (by simp [ready]) (by simp) ?_
  rw [State.startRun_exer]
  rfl

theorem handleStart_stored : (handleStart c s).state.Stored whole := by
  unfold handleStart
  split
  · exact h
  · split
    · next ready =>
      unfold State.tryStart
      split
      · exact h
      · split
        · exact h
        · split
          · exact h
          · exact h
          · split
            · exact h
            · exact h.startRun ready _ _ _
    · exact h
    · exact h

theorem handleGo_stored : (handleGo c s).state.Stored whole := by
  unfold handleGo
  split
  · refine State.Stored.armingTest ?_
    exact h.still rfl rfl rfl
  · exact h
  · exact h
  · exact h

theorem handleClearSafe_stored : (handleClearSafe c s).state.Stored whole := by
  unfold handleClearSafe
  split
  · next safe =>
    have before : s.slot.state ≠ .running := safe.trans_ne nofun
    split
    · exact h
    · rw [State.ok_state]
      unfold State.clearSafe
      (repeat' split) <;> exact h.elsewhere before
  · exact h
  · exact h

theorem handleRetireSocket_stored : (handleRetireSocket c s).state.Stored whole := by
  unfold handleRetireSocket
  split
  · split
    · split
      · exact h.retire _ _
      · exact h
    · exact h
  · exact h

/-- Every message rule keeps the store's laws. -/
theorem ruleOf_stored (k : Kind) : (ruleOf k c s).state.Stored whole := by
  cases k with
  | start => exact handleStart_stored c h
  | go => exact handleGo_stored c h
  | clearSafe => exact handleClearSafe_stored c h
  | retireSocket => exact handleRetireSocket_stored c h
  | frameOpen => exact handleFrameOpen_stored c h
  | frameData => exact handleFrameData_stored c h
  | frameCancel => exact handleFrameCancel_stored c h
  | purgeFrames => exact handlePurgeFrames_stored c h
  | exerciseStart => exact handleExerciseStart_stored c h
  | exerciseStop => exact handleExerciseStop_stored c h
  | ping | status | restart | readZones | readRails => exact h.still rfl rfl rfl
  | release =>
    simp only [ruleOf, handleRelease]
    split
    · next hold => exact h.elsewhere (hold.trans_ne nofun)
    · exact h
  | reidentify =>
    simp only [ruleOf, handleReidentify]
    split
    · next was => exact h.enterIdentifying (was.trans_ne nofun)
    · next was => exact h.enterIdentifying (was.trans_ne nofun)
    · exact h
  | stop =>
    simp only [ruleOf, handleStop]
    split
    · exact h.enterDraining _
    · exact h.enterDraining _
    · exact h
    · exact h
  | pause =>
    simp only [ruleOf, handlePause]
    split
    · rw [State.ok_state]
      split
      · exact h
      · exact h.setPaused _
    · exact h
  | resume =>
    simp only [ruleOf, handleResume]
    split
    · rw [State.ok_state]
      split
      · exact h.setPaused _
      · exact h
    · exact h
  | setZone =>
    simp only [ruleOf, handleSetZone]
    (repeat' split) <;> exact h.still rfl rfl rfl
  | setRail =>
    simp only [ruleOf, handleSetRail, State.retargetRail]
    (repeat' split) <;> exact h.still rfl rfl rfl
  | setBudget =>
    simp only [ruleOf, handleSetBudget]
    (repeat' split) <;> exact h.still rfl rfl rfl
  | setTiming =>
    simp only [ruleOf, handleSetTiming]
    split
    · split
      · exact h
      · split
        · exact h
        · refine State.Stored.takeSettings ?_ _ _
          exact h.still rfl rfl rfl
    · exact h
  | setChannel =>
    simp only [ruleOf, handleSetChannel]
    split
    · split
      · exact h
      · split
        · exact h
        · split
          · exact h
          · refine State.Stored.takeSettings ?_ _ _
            exact h.still rfl rfl rfl
    · exact h
  | setPlay =>
    simp only [ruleOf, handleSetPlay]
    split
    · split
      · exact h
      · refine State.Stored.takeSettings ?_ _ _
        exact h.still rfl rfl rfl
    · exact h
  | setLink =>
    simp only [ruleOf, handleSetLink]
    (repeat' split) <;> exact h.still rfl rfl rfl
  | setClass =>
    simp only [ruleOf, handleSetClass]
    (repeat' split) <;> exact h.still rfl rfl rfl
  | ackClasses =>
    simp only [ruleOf, handleAckClasses]
    (repeat' split) <;> exact h.still rfl rfl rfl
  | readUnanswered =>
    simp only [ruleOf, handleReadUnanswered]
    (repeat' split) <;> exact h.still rfl rfl rfl
  | linkStats =>
    simp only [ruleOf, handleLinkStats]
    (repeat' split) <;> exact h.still rfl rfl rfl
  | readIdentity =>
    simp only [ruleOf, handleReadIdentity]
    (repeat' split) <;> exact h.still rfl rfl rfl
  | loadRecipe =>
    simp only [ruleOf, handleLoadRecipe]
    (repeat' split) <;> exact h.still rfl rfl rfl
  | readRecipe =>
    simp only [ruleOf, handleReadRecipe]
    (repeat' split) <;> exact h.still rfl rfl rfl
  | readStore =>
    simp only [ruleOf, handleReadStore]
    (repeat' split) <;> exact h.still rfl rfl rfl
  | readSockets =>
    simp only [ruleOf, handleReadSockets]
    (repeat' split) <;> exact h.still rfl rfl rfl
  | fetchFailures =>
    simp only [ruleOf, handleFetchFailures]
    (repeat' split) <;> exact h.still rfl rfl rfl
  | armCapture =>
    simp only [ruleOf, handleArmCapture]
    (repeat' split) <;> exact h.still rfl rfl rfl
  | readCapture =>
    simp only [ruleOf, handleReadCapture]
    (repeat' split) <;> exact h.still rfl rfl rfl

end Rules

/-! ### Every step -/

/-- Link, notices and queue do not show in the store's laws. -/
theorem State.stored_blind (whole : Bool) : LinkBlind (State.Stored whole) where
  link _ h := h.still
  notice _ h := h.still
  pending _ h := h.still

/-- The part's own events, one by one. -/
theorem exec_event_stored (i : Instr) {whole : Bool} {s t : State} (message : i.message = none)
    (line : lineEvent i = false) (h : s.Stored whole) (ran : exec i s = .next t) : t.Stored whole := by
  cases i with
  | powerOn straps => cases ran; exact .of_reset whole rfl rfl
  | pinReset straps => cases ran; exact .of_reset whole rfl rfl
  | restartShutOff straps =>
    cases ran
    split
    · exact .of_reset whole rfl rfl
    · exact h
  | seatContactChange a b =>
    cases ran
    exact h.still rfl rfl (by rw [State.setSlot_slot, SlotRec.contactsChange_state])
  | seatMakeTimerExpiry =>
    cases ran
    split
    · exact h.seatFound
    · exact h
  | seatOpenTimerExpiry =>
    cases ran
    split
    · exact h.unseat
    · exact h
  | safetyChainOpen level =>
    cases ran
    split
    · exact h.chainOpens
    · exact h.still
  | identityAttemptEnd read =>
    cases ran
    split
    · next attempting => exact h.attemptEnds attempting read
    · exact h
  | identityAttemptTimeout =>
    cases ran
    split
    · next attempting => exact h.attemptEnds attempting .noAcknowledge
    · exact h
  | identityRetryWaitExpiry =>
    cases ran
    split <;> exact h.still
  | armTimerExpiry =>
    cases ran
    split
    · exact h.enterDraining _
    · exact h
  | drainTimerExpiry =>
    cases ran
    split
    · next draining =>
      rw [Bool.and_eq_true, beq_iff_eq] at draining
      exact h.elsewhere (draining.2.trans_ne nofun) rfl rfl
    · exact h
  | railDrainStep =>
    cases ran
    split <;> exact h.still
  | linkSilenceExpiry =>
    cases ran
    split
    · exact h.silenceExpires
    · exact h
  | railSample readings => cases ran; exact h.railSampled readings
  | settleTimerExpiry rail =>
    cases ran
    split
    · exact h.settleExpires rail
    · exact h
  | socketSample k ma => cases ran; exact h.socketSampled k ma
  | blankingExpiry k => cases ran; exact h.still
  | cooldownExpiry k =>
    cases ran
    split
    · exact h.cooldownExpires k
    · exact h
  | controlPassStart => cases ran; exact h.still
  | controlPassComplete codes =>
    cases flight : s.therm.pass with
    | some cap =>
      rw [exec_controlPassComplete flight] at ran
      cases ran
      exact (h.passJudged cap codes).armingTest
    | none =>
      cases ran
      rw [flight]
      exact h
  | heaterPwmFrameStart => cases ran; exact h.still
  | creditIntervalExpiry =>
    cases ran
    split
    · exact h.creditExpires
    · exact h
  | vectorEnd =>
    cases ran
    split
    · exact h.vectorEnds
    · exact h
  | vectorStrobe lines =>
    cases ran
    split
    · exact h.strobes lines
    · exact h
  | lineCharacter | lineCharacterTimeout | replyStart | replyComplete | unknownKind =>
    exact (Bool.false_ne_true line.symm).elim
  | _ => cases message

theorem State.stored_keptByStep (whole : Bool) : KeptByStep (State.Stored whole) :=
  (State.stored_blind whole).keptByStep (fun k c _ h => ruleOf_stored c h k)
    (fun i _ _ message line h ran => exec_event_stored i message line h ran)

/-- Settles O57: both laws by the one that every event and rule keeps. -/
theorem storeStaysLawful : Obligations.StoreStaysLawful := by
  unfold Obligations.StoreStaysLawful KeptByStep
  simp only [State.storeLaw_iff_stored, State.storeSound_iff_stored]
  exact ⟨State.stored_keptByStep false, State.stored_keptByStep true⟩

end Sys2Proof.Machine
end

section
/-! FRAME_OPEN, FRAME_CANCEL and PURGE_FRAMES: what each kind's rule answers. -/

namespace Sys2Proof.Machine

/-! ### FRAME_OPEN (R111) -/

theorem Store.openFrame_isSome_iff (st : Store) :
    st.openFrame.isSome = true ↔ ∃ g ∈ st.frames, ∃ n, g.status = .opened n := by
  simp only [Store.openFrame, List.find?_isSome, FrameStatus.isOpen_iff]

theorem Store.find_isSome_iff (st : Store) (id : Byte) : (st.find id).isSome = true ↔ ∃ g ∈ st.frames, g.id = id := by
  simp [Store.find, List.find?_isSome]

section FrameOpen

variable {c : Call} {s : State}

/-- R111: the values that FRAME_OPEN takes. -/
def Call.opens (c : Call) : Prop :=
  1 ≤ u16At c.payload 1 ∧ u16At c.payload 1 ≤ 1024 ∧ 1 ≤ u16At c.payload 3 ∧ byteAt c.payload 5 ≤ 1

theorem handleFrameOpen_bad (h : ¬ c.opens) : handleFrameOpen c s = s.refuse .badValue 0 := by
  unfold Call.opens at h
  unfold handleFrameOpen
  by_cases known : byteAt c.payload 5 ≤ 1
  · rw [yesNoOf_le known]
    exact if_pos (by omega)
  · rw [yesNoOf_gt (by omega)]

/-- R111: the tests after the values, in their order. -/
theorem handleFrameOpen_good (h : c.opens) :
    handleFrameOpen c s =
      if s.store.openFrame.isSome = true then s.refuse .busy 0
      else if (s.store.find (c.payload.getD 0 0)).isSome = true then s.refuse .duplicate 0
      else if 32 ≤ s.store.frames.length ∨ 8192 - (s.store.frames.map FrameDesc.count).sum < u16At c.payload 1 then
        s.refuse .noRoom 0
      else (s.setStore (s.store.openAt (c.payload.getD 0 0) (u16At c.payload 1) (u16At c.payload 3)
        (decide (byteAt c.payload 5 = 1)))).ok := by
  obtain ⟨least, most, repeated, known⟩ := h
  unfold handleFrameOpen
  rw [yesNoOf_le known]
  exact if_neg (by omega)

end FrameOpen

/-! ### FRAME_CANCEL (R114) -/

section Requests

variable {c : Call} {s : State}

theorem Store.cancel_removed (st : Store) (f : FrameDesc) :
    st.cancel f = { st with
      frames := st.frames.filter fun g => g.id ≠ f.id, writeEnd := f.first
      readEnd := if (st.frames.filter fun g => g.id ≠ f.id) = [] then f.first else st.readEnd } := by
  have removed : st.frames.filter (fun g => g.id != f.id) = st.frames.filter fun g => g.id ≠ f.id :=
    List.filter_congr fun g _ => by by_cases same : g.id = f.id <;> simp [same]
  unfold Store.cancel
  rw [removed]
  generalize (st.frames.filter fun g => g.id ≠ f.id) = rest
  cases rest <;> rfl

theorem handleFrameCancel_own {f : FrameDesc} (opened : s.store.openFrame = some f)
    (own : f.id = c.payload.getD 0 0) : handleFrameCancel c s = (s.setStore (s.store.cancel f)).ok := by
  rw [handleFrameCancel, opened]
  exact if_pos own

theorem handleFrameCancel_bad
    (h : s.store.openFrame = none ∨ ∃ f, s.store.openFrame = some f ∧ f.id ≠ c.payload.getD 0 0) :
    handleFrameCancel c s = s.refuse .badValue 0 := by
  rcases h with closed | ⟨f, opened, other⟩
  · rw [handleFrameCancel, closed]
  · rw [handleFrameCancel, opened]
    exact if_neg other

/-! ### PURGE_FRAMES (R115, R123) -/

/-- R123: C7A by the READY counts before and after. -/
theorem State.lowWater_eq (s : State) (before : Nat) :
    s.lowWater before =
      s.setNotice (if s.store.mode = .stream ∧ s.store.lowWater < before ∧ s.store.readyCount ≤ s.store.lowWater
        then s.notice.countRaise 7 else s.notice) := by
  unfold State.lowWater
  split <;> rfl

theorem Store.purge_current {st : Store} {f : FrameDesc} (now : st.currentFrame = some f) :
    st.purge = { st with
      frames := st.frames.filter fun g => g.id = f.id, readEnd := f.first
      writeEnd := (f.first + f.count) % 8192 } := by
  have kept : st.frames.filter (fun g => g.id == f.id) = st.frames.filter fun g => g.id = f.id :=
    List.filter_congr fun g _ => beq_eq_decide _ _
  unfold Store.purge
  rw [now, ← kept]
  rfl

theorem Store.purge_all {st : Store} (absent : st.currentFrame = none) :
    st.purge = { st with frames := [], readEnd := st.writeEnd } := by
  unfold Store.purge
  rw [absent]

theorem handlePurgeFrames_eq {st : Store} (purged : s.store.purge = st) (mode : st.mode = s.store.mode)
    (mark : st.lowWater = s.store.lowWater) :
    handlePurgeFrames c s =
      { state := (s.setStore st).setNotice
          (if s.store.mode = .stream ∧ s.store.lowWater < s.store.readyCount ∧ st.readyCount ≤ s.store.lowWater
            then s.notice.countRaise 7 else s.notice)
        result := .ok
        data := BitVec.ofNat 8 (s.store.frames.length - st.frames.length) ::
          chars2 (8192 - (st.frames.map FrameDesc.count).sum) } := by
  unfold handlePurgeFrames
  rw [purged, State.lowWater_eq, State.setStore_store, mode, mark]
  rfl

end Requests

/-- Settles O49: each kind by what its rule answers, the tests of FRAME_OPEN in their order. -/
theorem framesOpenCancelPurge : Obligations.FramesOpenCancelPurge := by
  unfold Obligations.FramesOpenCancelPurge
  intro s q f p id count repeats no sound busy double full purged
  have values (h : sound) := handleFrameOpen_good (c := callOf q) (s := s.heard) h
  have occupied : (s.heard.store.openFrame.isSome = true) = busy := propext s.store.openFrame_isSome_iff
  have taken : ((s.heard.store.find id).isSome = true) = double := propext (s.store.find_isSome_iff id)
  refine ⟨fun t => ⟨fun h => exec_taken rfl t (handleFrameOpen_bad h), fun h is => ?_, fun h free is => ?_,
      fun h free new is => ?_, fun h free new room => ?_⟩,
    fun t => ⟨fun opened own => ?_, fun h => ?_⟩, fun t => ?_⟩
  · exact exec_taken (i := .frameOpen q) rfl t ((values h).trans (if_pos (occupied ▸ is)))
  · exact exec_taken (i := .frameOpen q) rfl t
      ((values h).trans ((if_neg (occupied ▸ free)).trans (if_pos (taken ▸ is))))
  · exact exec_taken (i := .frameOpen q) rfl t
      ((values h).trans ((if_neg (occupied ▸ free)).trans ((if_neg (taken ▸ new)).trans (if_pos is))))
  · exact exec_taken (i := .frameOpen q) rfl t
      ((values h).trans ((if_neg (occupied ▸ free)).trans ((if_neg (taken ▸ new)).trans (if_neg room))))
  · have cancelled := handleFrameCancel_own (c := callOf q) (s := s.heard) opened own
    rw [Store.cancel_removed, own] at cancelled
    exact exec_taken rfl t cancelled
  · exact exec_taken rfl t (handleFrameCancel_bad (c := callOf q) (s := s.heard) (h.imp_right fun h => ⟨f, h⟩))
  · have ran {st : Store} (eq : s.store.purge = st) (mode : st.mode = s.store.mode)
        (mark : st.lowWater = s.store.lowWater) : exec (.purgeFrames q) s = .next (purged st) := by
      have answer := exec_taken (i := .purgeFrames q) rfl t
        (handlePurgeFrames_eq (c := callOf q) (s := s.heard) eq mode mark)
      rw [answer]
      have settled (p : Prop) [Decidable p] : (s.heard.setStore st).setNotice
          (if p then s.notice.countRaise 7 else s.notice) =
            if p then (s.heard.setStore st).setNotice (s.notice.countRaise 7) else s.heard.setStore st := by
        split <;> rfl
      exact congrArg (fun u : State => Host.Outcome.next (u.answering .purgeFrames q .ok _)) (settled _)
    exact ⟨fun now => ran (Store.purge_current now) rfl rfl, fun absent => ran (Store.purge_all absent) rfl rfl⟩

end Sys2Proof.Machine
end

section
/-! FRAME_DATA: what vectors written leave in the memory, what a frame taken leaves in the list, and what the rule
answers. -/

namespace Sys2Proof.Machine

/-! ### Vectors written round the circle (R110, R112) -/

/-- In canonical form the slot written reads as what was written. -/
theorem Memory.read_write_self {low : Nat} {m : List SlotCell} (h : Memory.wfFrom low m = true) (a : Nat)
    (v : StimVector) : Memory.read (Memory.write m a v) a = v := by
  induction m generalizing low with
  | nil => by_cases hv : v = StimVector.atReset <;> simp [Memory.write, Memory.read, hv]
  | cons c rest ih =>
    obtain ⟨k, w⟩ := c
    have whole := h
    simp only [Memory.wfFrom, Bool.and_eq_true, decide_eq_true_eq] at h
    obtain ⟨⟨-, written⟩, above⟩ := h
    unfold Memory.write
    split
    · next below =>
      split
      · next unlisted =>
        have raised : Memory.wfFrom k ((k, w) :: rest) = true := by
          simp [Memory.wfFrom, written, above]
        rw [unlisted, Memory.read_below raised below]
      · simp [Memory.read]
    · split
      · next same =>
        split
        · next unlisted => rw [unlisted, Memory.read_below above (by omega)]
        · simp [Memory.read]
      · next other => simpa [Memory.read, Ne.symm other] using ih above

theorem Memory.read_writeFrom_other (m : List SlotCell) (slot : Nat) (vs : List StimVector) {b : Nat}
    (apart : ∀ i < vs.length, b ≠ (slot + i) % Config.vectorSlots) :
    Memory.read (Memory.writeFrom m slot vs) b = Memory.read m b := by
  induction vs generalizing m slot with
  | nil => rfl
  | cons v rest ih =>
    refine (ih _ _ fun i hi => ?_).trans (Memory.read_write_ne _ _ (apart 0 (by simp)))
    have next := apart (i + 1) (by simpa using hi)
    rwa [← Nat.add_assoc, Nat.add_right_comm] at next

theorem Memory.read_writeFrom {m : List SlotCell} (h : Memory.wf m = true) (slot : Nat) {vs : List StimVector}
    (once : vs.length ≤ Config.vectorSlots) (i : Nat) (hi : i < vs.length) :
    Memory.read (Memory.writeFrom m slot vs) ((slot + i) % Config.vectorSlots) = vs[i] := by
  induction vs generalizing m slot i with
  | nil => simp at hi
  | cons v rest ih =>
    rw [List.length_cons] at once hi
    cases i with
    | zero =>
      change Memory.read (Memory.writeFrom (Memory.write m (slot % Config.vectorSlots) v) (slot + 1) rest)
        (slot % Config.vectorSlots) = v
      refine (Memory.read_writeFrom_other _ _ _ fun j hj => ?_).trans (Memory.read_write_self h _ _)
      simp only [Config.vectorSlots] at once ⊢
      omega
    | succ i =>
      have later := ih (Memory.write_wf h (slot % Config.vectorSlots) v) (slot + 1) (by omega) i (by omega)
      rwa [Nat.add_assoc, Nat.add_comm 1 i] at later

/-! ### The list after a frame is given a status, freed or taken (R113, R116, R118) -/

section Fields

variable (st : Store) (id : Byte)

@[simp] theorem Store.freeIdleTail_memory : st.freeIdleTail.memory = st.memory := by
  unfold Store.freeIdleTail
  split <;> rfl

@[simp] theorem Store.freeIdleTail_mode : st.freeIdleTail.mode = st.mode := by
  unfold Store.freeIdleTail
  split <;> rfl

@[simp] theorem Store.freeIdleTail_lowWater : st.freeIdleTail.lowWater = st.lowWater := by
  unfold Store.freeIdleTail
  split <;> rfl

@[simp] theorem Store.freeIdleTail_writeEnd : st.freeIdleTail.writeEnd = st.writeEnd := by
  unfold Store.freeIdleTail
  split <;> rfl

@[simp] theorem Store.take_memory : (st.take id).memory = st.memory := Store.freeIdleTail_memory _

@[simp] theorem Store.take_mode : (st.take id).mode = st.mode := Store.freeIdleTail_mode _

@[simp] theorem Store.take_lowWater : (st.take id).lowWater = st.lowWater := Store.freeIdleTail_lowWater _

@[simp] theorem Store.take_writeEnd : (st.take id).writeEnd = st.writeEnd := Store.freeIdleTail_writeEnd _

/-- R113, R116: what stays when idle TAILs go. -/
theorem Store.mem_freeIdleTail (f : FrameDesc) :
    f ∈ st.freeIdleTail.frames ↔ f ∈ st.frames ∧
      (st.mode = .stream → f.status.isTail = true → st.current = some f.id) := by
  unfold Store.freeIdleTail
  split
  · next stream =>
    refine List.mem_filter.trans (and_congr_right fun _ => ?_)
    by_cases tail : f.status.isTail = true
    · simp [tail, stream]
    · simp [tail]
  · next loop => exact ⟨fun hf => ⟨hf, fun stream => absurd stream loop⟩, And.left⟩

theorem Store.mem_take (f : FrameDesc) :
    f ∈ (st.take id).frames ↔ (∃ y ∈ st.frames, y.restate id (.playing 0) = f)
      ∧ (st.mode = .stream → f.status.isTail = true → id = f.id) := by
  refine (Store.mem_freeIdleTail _ f).trans (and_congr List.mem_map ?_)
  simp [Store.setStatus_eq]

/-- Idle TAILs gone, the READY frames stand as they stood. -/
theorem Store.freeIdleTail_ready : st.freeIdleTail.firstReady = st.firstReady
    ∧ st.freeIdleTail.readyCount = st.readyCount := by
  have ready (f : FrameDesc) (is : f.status.isReady = true) (q : Bool) : (!f.status.isTail || q) = true := by
    rw [(FrameStatus.isReady_iff _).mp is]
    rfl
  unfold Store.freeIdleTail
  split
  · constructor
    · refine List.find?_filter.trans (congrArg (List.find? · st.frames) (funext fun f => ?_))
      by_cases is : f.status.isReady = true
      · simp [is, ready f is]
      · simp [is]
    · refine (List.countP_filter (p := fun f : FrameDesc => f.status.isReady)).trans (List.countP_congr fun f _ => ?_)
      by_cases is : f.status.isReady = true
      · simp [is, ready f is]
      · simp [is]
  · exact ⟨rfl, rfl⟩

end Fields

section Lists

variable {st : Store} (lawful : st.Lawful)

include lawful

theorem Store.Lawful.find_restated {f : FrameDesc} (hf : f ∈ st.frames) {x : FrameStatus} (closed : x.isOpen = false) :
    (st.setStatus f.id x).find f.id = some { f with status := x } := by
  have stored : { f with status := x } ∈ (st.setStatus f.id x).frames := by
    rw [← FrameDesc.restate_same]
    exact List.mem_map_of_mem hf
  exact (lawful.setStatus f.id closed).find_mem stored

/-- A frame taken is PLAYING with no pass done. -/
theorem Store.Lawful.find_taken {g : FrameDesc} (hg : g ∈ st.frames) :
    (st.take g.id).find g.id = some { g with status := .playing 0 } := by
  have stored : { g with status := .playing 0 } ∈ (st.take g.id).frames :=
    (st.mem_take g.id _).mpr ⟨⟨g, hg, g.restate_same _⟩, fun _ _ => rfl⟩
  exact (lawful.take g.id).find_mem stored

theorem Store.Lawful.currentFrame_taken {g : FrameDesc} (hg : g ∈ st.frames) :
    (st.take g.id).currentFrame = some { g with status := .playing 0 } := by
  rw [Store.currentFrame, Store.take_current]
  exact lawful.find_taken hg

/-- R123: a READY frame taken, one fewer is READY. -/
theorem Store.Lawful.take_readyCount {g : FrameDesc} (hg : g ∈ st.frames) (ready : g.status = .ready) :
    (st.take g.id).readyCount + 1 = st.readyCount := by
  obtain ⟨before, after, frames⟩ := List.append_of_mem hg
  have law := lawful.frames
  rw [frames] at law
  have counted : (st.take g.id).readyCount = (st.setStatus g.id (.playing 0)).readyCount :=
    (Store.freeIdleTail_ready { st.setStatus g.id (.playing 0) with current := some g.id }).2
  have was : g.status.isReady = true := by rw [ready]; rfl
  have no_more : (FrameStatus.playing 0).isReady = false := rfl
  rw [counted]
  simp only [Store.readyCount, Store.setStatus_eq, frames, law.restate_append, List.countP_append, List.countP_cons,
    was, no_more, if_true, Bool.false_eq_true, if_false]
  omega

end Lists

/-! ### The OPEN frame received and READY (R112, R113) -/

/-- R112, R113: the store when the last vector has come: the frame READY, idle TAILs gone. -/
def Store.delivered (st : Store) (f : FrameDesc) (start : Nat) (vs : List StimVector) : Store :=
  ((st.receive f start vs).setStatus f.id .ready).freeIdleTail

@[simp] theorem Store.delivered_mode (st : Store) (f : FrameDesc) (start : Nat) (vs : List StimVector) :
    (st.delivered f start vs).mode = st.mode :=
  Store.freeIdleTail_mode _

@[simp] theorem Store.delivered_lowWater (st : Store) (f : FrameDesc) (start : Nat) (vs : List StimVector) :
    (st.delivered f start vs).lowWater = st.lowWater :=
  Store.freeIdleTail_lowWater _

section Received

variable {st : Store} (lawful : st.Lawful)

theorem Store.received_of_closed (closed : ∀ y ∈ st.frames, y.status.isOpen = false) : st.received = 0 := by
  have absent : st.openFrame = none := List.find?_eq_none.mpr fun y hy => by simp [closed y hy]
  simp only [Store.received, absent]

include lawful

/-- No frame but one is OPEN. -/
theorem Store.Lawful.openFrame_eq {f : FrameDesc} (hf : f ∈ st.frames) (opened : f.status.isOpen = true) :
    st.openFrame = some f := by
  have before : st.frames.dropLast.find? (fun f => f.status.isOpen) = none :=
    List.find?_eq_none.mpr fun y hy => by simp [lawful.frames.open_last y hy]
  rw [Store.openFrame, lawful.frames.eq_append_of_open hf opened, List.find?_append, before]
  simp [opened]

theorem Store.Lawful.received_eq {f : FrameDesc} (hf : f ∈ st.frames) {n : Nat} (opened : f.status = .opened n) :
    st.received = n := by
  simp only [Store.received, lawful.openFrame_eq hf (by rw [opened]; rfl), opened]

variable {f : FrameDesc} (opened : st.openFrame = some f)

include opened

/-- The OPEN frame READY, last in the list as it was. -/
theorem Store.Lawful.ready_frames : (st.setStatus f.id .ready).frames = st.frames.dropLast ++ [{ f with status := .ready }] := by
  obtain ⟨hf, is⟩ := Store.openFrame_spec opened
  have law := lawful.frames
  have last := law.eq_append_of_open hf is
  rw [last] at law
  have made := law.restate_append .ready
  rwa [← last] at made

theorem Store.Lawful.ready_closed : ∀ y ∈ (st.setStatus f.id .ready).frames, y.status.isOpen = false := by
  rw [lawful.ready_frames opened]
  intro y hy
  rcases List.mem_append.mp hy with before | last
  · exact lawful.frames.open_last y before
  · rw [List.mem_singleton.mp last]
    rfl

/-- The frame made READY is the first when there was none, and one more is READY. -/
theorem Store.Lawful.ready_firstReady :
    (st.setStatus f.id .ready).firstReady = some (st.firstReady.getD { f with status := .ready })
      ∧ (st.setStatus f.id .ready).readyCount = st.readyCount + 1 := by
  obtain ⟨hf, is⟩ := Store.openFrame_spec opened
  have frames := lawful.frames.eq_append_of_open hf is
  obtain ⟨n, status⟩ := (FrameStatus.isOpen_iff _).mp is
  have now : FrameStatus.ready.isReady = true := rfl
  have not_yet : f.status.isReady = false := by rw [status]; rfl
  have first : st.firstReady = st.frames.dropLast.find? (fun f => f.status.isReady) := by
    conv_lhs => rw [Store.firstReady, frames, List.find?_append]
    simp [not_yet]
  have count : st.readyCount = st.frames.dropLast.countP (fun f => f.status.isReady) := by
    conv_lhs => rw [Store.readyCount, frames, List.countP_append]
    simp [not_yet]
  constructor
  · rw [first, Store.firstReady, lawful.ready_frames opened, List.find?_append]
    cases st.frames.dropLast.find? (fun f => f.status.isReady) <;> simp [now]
  · rw [count, Store.readyCount, lawful.ready_frames opened, List.countP_append]
    simp [now]

omit lawful opened in
theorem Store.receive_ready (start : Nat) (vs : List StimVector) :
    (st.receive f start vs).setStatus f.id .ready =
      { st.setStatus f.id .ready with memory := Memory.writeFrom st.memory (f.first + start) vs } := by
  have twice : FrameDesc.restate f.id .ready ∘ FrameDesc.restate f.id (.opened (start + vs.length))
      = FrameDesc.restate f.id .ready := funext fun y => by
    by_cases same : y.id = f.id <;> simp [FrameDesc.restate, same]
  simp only [Store.setStatus_eq, Store.receive, List.map_map, twice]

variable (start : Nat) (vs : List StimVector)

theorem Store.Lawful.delivered : (st.delivered f start vs).Lawful :=
  ((lawful.receive opened start vs).setStatus f.id rfl).freeIdleTail

theorem Store.Lawful.delivered_firstReady :
    (st.delivered f start vs).firstReady = some (st.firstReady.getD { f with status := .ready }) := by
  rw [Store.delivered, (Store.freeIdleTail_ready _).1, Store.receive_ready]
  exact (lawful.ready_firstReady opened).1

theorem Store.Lawful.delivered_readyCount : (st.delivered f start vs).readyCount = st.readyCount + 1 := by
  rw [Store.delivered, (Store.freeIdleTail_ready _).2, Store.receive_ready]
  exact (lawful.ready_firstReady opened).2

omit lawful opened in
theorem Store.mem_delivered (y : FrameDesc) :
    y ∈ (st.delivered f start vs).frames ↔
      y ∈ (st.setStatus f.id .ready).frames ∧ (st.mode = .stream → y.status.isTail = true → st.current = some y.id) := by
  rw [Store.delivered, Store.receive_ready]
  exact Store.mem_freeIdleTail _ y

theorem Store.Lawful.delivered_closed : ∀ y ∈ (st.delivered f start vs).frames, y.status.isOpen = false :=
  fun y hy => lawful.ready_closed opened y ((Store.mem_delivered start vs y).mp hy).1

theorem Store.Lawful.find_delivered :
    (st.delivered f start vs).find f.id = some { f with status := .ready } := by
  refine (lawful.delivered opened start vs).find_mem (f := { f with status := .ready }) ?_
  refine (Store.mem_delivered start vs _).mpr ⟨?_, fun _ tail => absurd tail Bool.false_ne_true⟩
  rw [lawful.ready_frames opened]
  exact List.mem_append_right _ (List.mem_singleton_self _)

end Received

/-! ### The first READY frame taken (R116, R131, R132) -/

section Taken

variable {s : State} {g : FrameDesc}

/-- R116, R123: store, position and C7A of a frame taken. -/
theorem State.takeFrame_eq (s : State) (id : Byte) :
    s.takeFrame id =
      ((s.setStore (s.store.take id)).setExer { s.exer with position := some 0 }).setNotice
        (if s.store.mode = .stream ∧ s.store.lowWater < s.store.readyCount
            ∧ (s.store.take id).readyCount ≤ s.store.lowWater
          then s.notice.countRaise 7 else s.notice) := by
  unfold State.takeFrame
  rw [State.lowWater_eq, State.setExer_store, State.setStore_store, Store.take_mode, Store.take_lowWater]
  rfl

theorem State.takeFirstReady_some (ready : s.store.firstReady = some g) :
    s.takeFirstReady = (s.takeFrame g.id).playOrHold := by
  rw [State.takeFirstReady, ready]

theorem State.takeFirstReady_held (ready : s.store.firstReady = some g) (holds : s.exer.holdSet = true) :
    s.takeFirstReady = (s.takeFrame g.id).enterHeld := by
  rw [State.takeFirstReady_some ready, State.playOrHold, if_pos]
  rw [State.takeFrame_exer]
  exact holds

theorem State.takeFirstReady_plays (lawful : s.store.Lawful) (ready : s.store.firstReady = some g)
    (holds : s.exer.holdSet = false) :
    s.takeFirstReady = (s.takeFrame g.id).setExer { s.exer with
      state := .playing, position := some 0, clockAge := Bank.replicate 16 0, vecPeriod := s.exer.timing.period,
      vecOffset := s.exer.timing.offset, strobeDue := true,
      vector := Memory.read s.store.memory (g.first % 8192) } := by
  obtain ⟨hg, -⟩ := find_ready_spec ready
  have frame : (s.takeFrame g.id).store.currentFrame = some { g with status := .playing 0 } := by
    rw [State.takeFrame_store]
    exact lawful.currentFrame_taken hg
  have position : (s.takeFrame g.id).exer.position = some 0 := by rw [State.takeFrame_exer]
  rw [State.takeFirstReady_some ready, State.playOrHold, if_neg, State.enterPlaying_eq frame position,
    State.takeFrame_store, State.takeFrame_exer, Store.take_memory]
  · rfl
  · rw [State.takeFrame_exer]
    exact Bool.eq_false_iff.mp holds

/-- What a first READY frame taken leaves. -/
theorem State.takeFirstReady_spec (lawful : s.store.Lawful) (ready : s.store.firstReady = some g) :
    s.takeFirstReady.store = s.store.take g.id ∧ s.takeFirstReady.exer.position = some 0
      ∧ (s.exer.holdBudget = false → s.exer.holdPause = false →
        s.takeFirstReady.exer.state = .playing ∧ s.takeFirstReady.exer.stalls = s.exer.stalls)
      ∧ (s.exer.holdBudget = true ∨ s.exer.holdPause = true →
        s.takeFirstReady.exer.state = .held ∧ s.takeFirstReady.exer.stalls = s.exer.stalls + 1)
      ∧ s.takeFirstReady.notice =
        (if s.store.mode = .stream ∧ s.store.lowWater < s.store.readyCount
            ∧ s.store.readyCount - 1 ≤ s.store.lowWater
          then s.notice.countRaise 7 else s.notice) := by
  obtain ⟨hg, status⟩ := find_ready_spec ready
  have fewer : (s.store.take g.id).readyCount = s.store.readyCount - 1 := by
    have count := lawful.take_readyCount hg status
    omega
  have set_iff : s.exer.holdSet = true ↔ s.exer.holdBudget = true ∨ s.exer.holdPause = true := Bool.or_eq_true_iff
  have notice : s.takeFirstReady.notice = (s.takeFrame g.id).notice := by
    rw [State.takeFirstReady_some ready, State.playOrHold_notice]
  rw [notice, State.takeFrame_eq, fewer]
  cases holds : s.exer.holdSet with
  | true =>
    rw [State.takeFirstReady_held ready holds]
    have stands := set_iff.mp holds
    refine ⟨by simp, by simp [State.enterHeld, State.enterStall], fun budget pause => ?_, fun _ => ?_, rfl⟩
    · simp [budget, pause] at stands
    · simp [State.enterHeld, State.enterStall]
  | false =>
    rw [State.takeFirstReady_plays lawful ready holds]
    refine ⟨by simp, rfl, fun _ _ => ⟨rfl, rfl⟩, fun stands => ?_, rfl⟩
    exact absurd ((set_iff.mpr stands).symm.trans holds) Bool.false_ne_true.symm

theorem State.takeFirstReady_memory (s : State) : s.takeFirstReady.store.memory = s.store.memory := by
  unfold State.takeFirstReady
  split <;> simp

end Taken

/-! ### FRAME_DATA (R112, R113) -/

section FrameData

variable {c : Call} {s : State} {f : FrameDesc} {vs : List StimVector}

theorem handleFrameData_malformed (h : vectorsOf (c.payload.drop 3) = none) :
    handleFrameData c s = { state := s, result := .badValue, data := chars2 s.store.received } := by
  rw [handleFrameData, h]

theorem handleFrameData_foreign (h : ∀ vs, vectorsOf (c.payload.drop 3) = some vs →
      s.store.continues (c.payload.getD 0 0) (u16At c.payload 1) vs.length = none) :
    handleFrameData c s = { state := s, result := .badValue, data := chars2 s.store.received } := by
  unfold handleFrameData
  cases formed : vectorsOf (c.payload.drop 3) with
  | none => rfl
  | some vs => simp only [h vs formed]

theorem handleFrameData_continues (formed : vectorsOf (c.payload.drop 3) = some vs)
    (opened : s.store.openFrame = some f) (own : f.id = c.payload.getD 0 0)
    (next : u16At c.payload 1 = s.store.received) (fits : u16At c.payload 1 + vs.length ≤ f.count) :
    handleFrameData c s =
      { state := s.deliver f (u16At c.payload 1) vs, result := .ok
        data := chars2 (s.deliver f (u16At c.payload 1) vs).store.received } := by
  have continued : s.store.continues (c.payload.getD 0 0) (u16At c.payload 1) vs.length = some f := by
    unfold Store.continues
    rw [opened]
    exact if_pos ⟨own, next, fits⟩
  unfold handleFrameData
  simp only [formed, continued]

theorem Store.continues_none_of_closed (st : Store) (closed : st.openFrame = none) (id : Byte) (start n : Nat) :
    st.continues id start n = none := by
  rw [Store.continues, closed]

theorem Store.continues_none (st : Store) (opened : st.openFrame = some f) {id : Byte} {start n : Nat}
    (other : f.id ≠ id ∨ start ≠ st.received ∨ f.count < start + n) : st.continues id start n = none := by
  rw [Store.continues, opened]
  refine if_neg fun h => ?_
  obtain ⟨own, next, fits⟩ := h
  exact other.elim (absurd own) fun other => other.elim (absurd next) fun above => absurd fits (Nat.not_le.mpr above)

theorem State.deliver_onlyPlayMoved (s : State) (f : FrameDesc) (start : Nat) (vs : List StimVector) :
    OnlyPlayMoved s (s.deliver f start vs) := by
  unfold State.deliver State.frameReady
  dsimp only
  split
  · split <;> simp [OnlyPlayMoved]
  · simp [OnlyPlayMoved]

theorem State.deliver_memory (s : State) (f : FrameDesc) (start : Nat) (vs : List StimVector) :
    (s.deliver f start vs).store.memory = Memory.writeFrom s.store.memory (f.first + start) vs := by
  rw [State.deliver_eq]
  unfold State.frameReady
  split
  · dsimp only
    split
    · rw [State.takeFirstReady_memory, State.setStore_store, Store.freeIdleTail_memory]
      rfl
    · rw [State.setStore_store, Store.freeIdleTail_memory]
      rfl
  · rfl

theorem State.deliver_short {start : Nat} (short : start + vs.length ≠ f.count) :
    s.deliver f start vs = s.setStore (s.store.receive f start vs) :=
  if_neg short

theorem State.deliver_awake {start : Nat} (last : start + vs.length = f.count) (awake : s.exer.state ≠ .starved) :
    s.deliver f start vs = s.setStore (s.store.delivered f start vs) :=
  (if_pos last).trans (if_neg awake)

theorem State.deliver_starved {start : Nat} (last : start + vs.length = f.count) (starved : s.exer.state = .starved) :
    s.deliver f start vs = (s.setStore (s.store.delivered f start vs)).takeFirstReady :=
  (if_pos last).trans (if_pos starved)

theorem Store.Lawful.deliver_received (lawful : s.store.Lawful) (opened : s.store.openFrame = some f)
    (start : Nat) :
    (s.deliver f start vs).store.received = if start + vs.length = f.count then 0 else start + vs.length := by
  split
  · next last =>
    have closed := lawful.delivered_closed opened start vs
    refine Store.received_of_closed fun y hy => ?_
    by_cases starved : s.exer.state = .starved
    · rw [State.deliver_starved last starved,
        State.takeFirstReady_some (lawful.delivered_firstReady opened start vs), State.playOrHold_store,
        State.takeFrame_store, Store.mem_take] at hy
      obtain ⟨⟨z, hz, rfl⟩, -⟩ := hy
      unfold FrameDesc.restate
      split
      · rfl
      · exact closed z hz
    · rw [State.deliver_awake last starved] at hy
      exact closed y hy
  · next short =>
    rw [State.deliver_short short]
    have stored : { f with status := .opened (start + vs.length) } ∈ (s.store.receive f start vs).frames := by
      rw [← FrameDesc.restate_same]
      exact List.mem_map_of_mem (Store.openFrame_spec opened).1
    exact (lawful.receive opened start vs).received_eq stored rfl

end FrameData

/-- R113: no TAIL stands beside a frame taken in Stream mode. -/
theorem Store.take_no_tail {st : Store} {id : Byte} (stream : st.mode = .stream) :
    ∀ x ∈ (st.take id).frames, x.status ≠ .tail := by
  intro x hx tail
  obtain ⟨⟨y, -, rfl⟩, stays⟩ := (st.mem_take id x).mp hx
  have same := stays stream ((FrameStatus.isTail_iff _).mpr tail)
  rw [(FrameDesc.restates id _).id] at same
  subst same
  rw [FrameDesc.restate_same] at tail
  cases tail

/-- Settles O50: the slots by what vectors written leave, the list by the frame made READY and the one then taken. -/
theorem frameDataDelivers : Obligations.FrameDataDelivers := by
  unfold Obligations.FrameDataDelivers
  intro s q vectors f n law t start total goes
  have lawful := s.storeLaw_iff.mp law
  have received (opened : s.store.openFrame = some f) (status : f.status = .opened n) : s.store.received = n :=
    lawful.received_eq (Store.openFrame_spec opened).1 status
  refine ⟨fun bad => ?_, fun closed => ?_, fun opened status formed other => ?_, fun h formed => ?_⟩
  · exact exec_taken rfl t (handleFrameData_malformed (c := callOf q) (s := s.heard) bad)
  · have none_open : s.store.received = 0 := by simp only [Store.received, closed]
    rw [← none_open]
    exact exec_taken rfl t (handleFrameData_foreign (c := callOf q) (s := s.heard) fun vs _ =>
      Store.continues_none_of_closed _ closed _ _ _)
  · rw [← received opened status]
    refine exec_taken rfl t (handleFrameData_foreign (c := callOf q) (s := s.heard) fun vs also => ?_)
    obtain rfl : vectors = vs := Option.some.inj (formed.symm.trans also)
    rw [← received opened status] at other
    exact Store.continues_none _ opened other
  · obtain ⟨opened, status, own, next, fits⟩ := h
    obtain ⟨hf, -⟩ := Store.openFrame_spec opened
    have answer := handleFrameData_continues (c := callOf q) (s := s.heard) formed opened own
      (next.trans (received opened status).symm) fits
    have memory := s.heard.deliver_memory f start vectors
    refine ⟨s.heard.deliver f start vectors, _, exec_taken (i := .frameData q) rfl t answer,
      State.deliver_onlyPlayMoved _ _ _ _, lawful.deliver_received (s := s.heard) opened start, fun i hi => ?_,
      fun slot apart => ?_, fun short => ?_, fun last awake => ?_, fun last starved => ?_⟩
    · rw [memory]
      have least : f.count ≤ 1024 := (lawful.frames.ranges f hf).2.2.1
      have once : vectors.length ≤ Config.vectorSlots := by
        simp only [Config.vectorSlots]
        omega
      exact Memory.read_writeFrom lawful.canonical _ once i hi
    · rw [memory]
      exact Memory.read_writeFrom_other _ _ _ apart
    · rw [State.deliver_short short]
      have stored : { f with status := .opened total } ∈ (s.store.receive f start vectors).frames := by
        rw [← FrameDesc.restate_same]
        exact List.mem_map_of_mem hf
      exact ⟨(lawful.receive opened start vectors).find_mem stored, rfl, rfl⟩
    · rw [State.deliver_awake (s := s.heard) last awake]
      refine ⟨lawful.find_delivered opened start vectors, rfl, rfl, fun stream g hg tail => ?_⟩
      exact ((Store.mem_delivered start vectors g).mp hg).2 stream ((FrameStatus.isTail_iff _).mpr tail)
    · have ready := lawful.delivered_firstReady opened start vectors
      rw [State.deliver_starved (s := s.heard) last starved]
      intro g
      obtain ⟨store, position, plays, holds, notice⟩ := State.takeFirstReady_spec
        (s := s.heard.setStore (s.heard.store.delivered f start vectors)) (lawful.delivered opened start vectors) ready
      refine ⟨?_, ?_, fun stream => ?_, position, plays, holds, notice.trans ?_⟩
      · rw [store]
        exact Store.take_current _ _
      · rw [store]
        exact (lawful.delivered opened start vectors).find_taken (find_ready_spec ready).1
      · rw [store]
        exact Store.take_no_tail (by rw [State.setStore_store, Store.delivered_mode]; exact stream)
      · have more : (s.heard.store.delivered f start vectors).readyCount = s.heard.store.readyCount + 1 :=
          lawful.delivered_readyCount opened start vectors
        rw [State.setStore_store, more, Store.delivered_mode, Store.delivered_lowWater]
        rfl

end Sys2Proof.Machine
end

section
/-! The pass end: the sockets judged, the store steps of R117 to R120, and the vector that follows. -/

namespace Sys2Proof.Machine

/-! ### The judging of a checked pass (R138, R139) -/

/-- Play that outlasts the judging finds its store as it was and its exerciser but for the compare records. -/
def State.PlayJudged (s t : State) : Prop :=
  t.exer.state = .playing →
    s.exer.state = .playing ∧ t.store = s.store ∧ t.exer = { s.exer with compare := t.exer.compare }

namespace State.PlayJudged

variable {s t u : State}

theorem refl (s : State) : s.PlayJudged s := fun playing => ⟨playing, rfl, rfl⟩

theorem trans (h : s.PlayJudged t) (k : t.PlayJudged u) : s.PlayJudged u := fun playing => by
  obtain ⟨still, store, exer⟩ := k playing
  obtain ⟨was, store', exer'⟩ := h still
  refine ⟨was, store.trans store', ?_⟩
  rw [exer, exer']

/-- What moves the compare records alone of play. -/
theorem of_eq (store : t.store = s.store) (exer : t.exer = { s.exer with compare := t.exer.compare }) :
    s.PlayJudged t := fun playing => by
  refine ⟨?_, store, exer⟩
  rw [exer] at playing
  exact playing

theorem still (store : t.store = s.store) (exer : t.exer = s.exer) : s.PlayJudged t :=
  of_eq store (by rw [exer])

theorem foldl {α : Type} {f : State → α → State} (h : ∀ (s : State) a, s.PlayJudged (f s a)) (l : List α) (s : State) :
    s.PlayJudged (l.foldl f s) := by
  induction l generalizing s with
  | nil => exact refl s
  | cons a l ih => exact (h s a).trans (ih _)

end State.PlayJudged

theorem State.depart_playJudged (s : State) (k : Fin 48) : s.PlayJudged (s.depart k) := by
  unfold State.depart
  split
  · exact .of_eq rfl rfl
  · exact .refl s

/-- R16: the run's end idles the exerciser. -/
theorem State.checkRunEnd_playJudged (s : State) : s.PlayJudged s.checkRunEnd := by
  unfold State.checkRunEnd
  split
  · intro playing
    rw [State.enterDraining_exerState] at playing
    cases playing
  · exact .refl s

theorem State.retire_playJudged (s : State) (k : Fin 48) (cause : RetireCause) : s.PlayJudged (s.retire k cause) := by
  refine (s.depart_playJudged k).trans (.trans ?_ (State.checkRunEnd_playJudged _))
  exact .still (by simp) (by simp)

theorem State.logFunctional_playJudged (s : State) (k : Fin 48) : s.PlayJudged (s.logFunctional k) := by
  unfold State.logFunctional
  dsimp only
  split
  · exact .refl s
  · have told (x : FailureKind) (d : Word16) : s.PlayJudged ((s.logFailure x (some k) none d).notify 3 .a) :=
      .still (by simp) (by simp)
    exact (told _ _).trans (.of_eq rfl rfl)

theorem State.judgeSocket_playJudged (s : State) (k : Fin 48) : s.PlayJudged (s.judgeSocket k) := by
  have counted (f : CompareRec → CompareRec) : s.PlayJudged ((s.modCompare k f).logFunctional k) :=
    State.PlayJudged.trans (.of_eq rfl rfl) (State.logFunctional_playJudged _ k)
  unfold State.judgeSocket
  dsimp only
  split
  · split
    · exact counted _
    · exact (counted _).trans (State.retire_playJudged _ k _)
  · exact .refl s

theorem State.judgePass_playJudged (s : State) : s.PlayJudged s.judgePass :=
  .foldl State.judgeSocket_playJudged _ s

/-! ### The current frame under a change of play mode (R121, R122) -/

theorem find_dropWhile {l : List FrameDesc} (id : Byte) :
    (l.dropWhile (fun g => g.id != id)).find? (fun g => g.id == id) = l.find? (fun g => g.id == id) := by
  induction l with
  | nil => rfl
  | cons x l ih =>
    by_cases same : x.id = id
    · simp [same]
    · simp [same, ih]

section Mode

variable {st : Store} {f : FrameDesc}

/-- A change of mode moves no more of the current frame than its status. -/
theorem Store.setMode_currentFrame (now : st.currentFrame = some f) (m : PlayMode) :
    ∃ x, (st.setMode m).currentFrame = some { f with status := x } := by
  obtain ⟨hf, current⟩ := Store.currentFrame_spec now
  have found : st.frames.find? (fun g => g.id == f.id) = some f := by
    simpa [Store.currentFrame, current, Store.find] using now
  unfold Store.setMode
  split
  · obtain ⟨x, looped⟩ := FrameDesc.looped_restates st.current f
    refine ⟨x, ?_⟩
    rw [← looped]
    simp only [Store.toLoop_eq, Store.currentFrame, Store.find, current, Option.bind_some, List.find?_map,
      Function.comp_def, (FrameDesc.looped_restates _).id, found, Option.map_some]
  · refine ⟨f.status, ?_⟩
    simp only [Store.toStream, Store.syncReadEnd, Store.currentFrame, Store.find, current, Option.bind_some,
      find_dropWhile, found]
  · exact ⟨f.status, now⟩

theorem Store.withPlay_currentFrame (now : st.currentFrame = some f) (x : Option PlaySettings) :
    ∃ y, (st.withPlay x).currentFrame = some { f with status := y } := by
  cases x with
  | none => exact ⟨f.status, now⟩
  | some p => exact Store.setMode_currentFrame now p.mode

@[simp] theorem Store.setMode_memory (st : Store) (m : PlayMode) : (st.setMode m).memory = st.memory := by
  unfold Store.setMode Store.toLoop Store.toStream
  (repeat' split) <;> rfl

@[simp] theorem Store.withPlay_memory (st : Store) (x : Option PlaySettings) : (st.withPlay x).memory = st.memory := by
  cases x with
  | none => rfl
  | some p => exact Store.setMode_memory st p.mode

end Mode

/-! ### What the store steps keep (R117 to R120) -/

/-- The store but for the frames touched: a frame that is no TAIL stays as it is. -/
structure Store.KeepsOthers (touched : Byte → Prop) (st st' : Store) : Prop where
  lawful : st.Lawful → st'.Lawful
  memory : st'.memory = st.memory
  write_end : st'.writeEnd = st.writeEnd
  mode : st'.mode = st.mode
  mark : st'.lowWater = st.lowWater
  others : ∀ x ∈ st.frames, x.status ≠ .tail → ¬ touched x.id → x ∈ st'.frames

namespace Store.KeepsOthers

variable {touched : Byte → Prop} {st st' st'' : Store} {id : Byte}

theorem refl (st : Store) : st.KeepsOthers touched st where
  lawful h := h
  memory := rfl
  write_end := rfl
  mode := rfl
  mark := rfl
  others _ hx _ _ := hx

theorem trans (h : st.KeepsOthers touched st') (k : st'.KeepsOthers touched st'') : st.KeepsOthers touched st'' where
  lawful := k.lawful ∘ h.lawful
  memory := k.memory.trans h.memory
  write_end := k.write_end.trans h.write_end
  mode := k.mode.trans h.mode
  mark := k.mark.trans h.mark
  others x hx tail apart := k.others x (h.others x hx tail apart) tail apart

theorem setStatus (h : touched id) {x : FrameStatus} (closed : x.isOpen = false) :
    st.KeepsOthers touched (st.setStatus id x) where
  lawful lawful := lawful.setStatus id closed
  memory := rfl
  write_end := rfl
  mode := rfl
  mark := rfl
  others y hy _ apart := by
    have same := FrameDesc.restate_other x (f := y) (id := id) fun is => apart (is ▸ h)
    rw [← same]
    exact List.mem_map_of_mem hy

theorem unplayed (st : Store) : st.KeepsOthers touched { st with current := none } where
  lawful lawful := lawful.set_frames lawful.frames _ _ _
  memory := rfl
  write_end := rfl
  mode := rfl
  mark := rfl
  others _ hx _ _ := hx

theorem freeFrame (h : touched id) : st.KeepsOthers touched (st.freeFrame id) where
  lawful lawful := lawful.keepFrames _
  memory := rfl
  write_end := rfl
  mode := rfl
  mark := rfl
  others y hy _ apart := List.mem_filter.mpr ⟨hy, by simpa using fun is : y.id = id => apart (is ▸ h)⟩

theorem take (h : touched id) : st.KeepsOthers touched (st.take id) where
  lawful lawful := lawful.take id
  memory := by simp
  write_end := by simp
  mode := by simp
  mark := by simp
  others y hy tail apart := (st.mem_take id y).mpr
    ⟨⟨y, hy, FrameDesc.restate_other _ fun is => apart (is ▸ h)⟩,
      fun _ is => absurd ((FrameStatus.isTail_iff _).mp is) tail⟩

end Store.KeepsOthers

/-! ### A frame ended (R118 to R120) -/

/-- A status given again changes nothing. -/
theorem Store.Lawful.setStatus_self {st : Store} (lawful : st.Lawful) {f : FrameDesc} (hf : f ∈ st.frames) :
    st.setStatus f.id f.status = st := by
  have same : st.frames.map (FrameDesc.restate f.id f.status) = st.frames := by
    refine (List.map_congr_left fun y hy => ?_).trans (List.map_id _)
    by_cases is : y.id = f.id
    · rw [lawful.frames.eq_of_id hy hf is, FrameDesc.restate_same]
      rfl
    · exact FrameDesc.restate_other _ is
  rw [Store.setStatus_eq, same]

section Ends

variable {s : State} {f g : FrameDesc}

theorem State.streamEnd_next (ready : s.store.firstReady = some g) :
    s.streamEnd f = (s.setStore (s.store.freeFrame f.id)).takeFrame g.id := by
  rw [State.streamEnd, ready]

theorem State.streamEnd_repeats (ready : s.store.firstReady = none) (underrun : s.exer.underrun = .repeatLast) :
    s.streamEnd f = s.setStore (s.store.setStatus f.id .tail) := by
  simp only [State.streamEnd, ready, underrun]

theorem State.streamEnd_parks (ready : s.store.firstReady = none) (underrun : s.exer.underrun = .park) :
    s.streamEnd f = s.setStore { s.store.setStatus f.id .tail with current := none } := by
  simp only [State.streamEnd, ready, underrun]

/-- R119: a TAIL's pass ends as a frame in Stream mode does. -/
theorem State.tailEnd_eq (lawful : s.store.Lawful) (hf : f ∈ s.store.frames) (tail : f.status = .tail) :
    s.tailEnd f = s.streamEnd f := by
  have same : s.store.setStatus f.id .tail = s.store := by
    rw [← tail]
    exact lawful.setStatus_self hf
  cases ready : s.store.firstReady with
  | some g => rw [State.streamEnd_next ready, State.tailEnd, ready]
  | none =>
    cases underrun : s.exer.underrun with
    | park =>
      rw [State.streamEnd_parks ready underrun, same]
      simp only [State.tailEnd, ready, underrun]
    | repeatLast =>
      rw [State.streamEnd_repeats ready underrun, same]
      simp only [State.tailEnd, ready, underrun]
      rfl

/-- R120: the frame taken after one that has ended is the next READY one of the loop, or itself. -/
theorem Store.Lawful.nextInLoop_ready {st : Store} (lawful : st.Lawful) {before after : List FrameDesc}
    (frames : st.frames = before ++ f :: after) :
    (st.setStatus f.id .ready).nextInLoop f.id =
      some (((after.find? fun x => x.status.isReady).or (before.find? fun x => x.status.isReady)).getD
        { f with status := .ready }) := by
  have law := lawful.frames
  rw [frames] at law
  have made : (st.setStatus f.id .ready).frames = before ++ { f with status := .ready } :: after := by
    rw [Store.setStatus_eq, frames]
    exact law.restate_append _
  have is : ({ f with status := .ready } : FrameDesc).status.isReady = true := rfl
  have dropped : (before ++ { f with status := FrameStatus.ready } :: after).dropWhile (fun g => g.id != f.id)
      = { f with status := .ready } :: after := by
    rw [List.dropWhile_append_of_pos fun y hy => by simpa using law.apart.1 y hy]
    simp
  rw [Store.nextInLoop, Store.firstReady, made, dropped, List.drop_one, List.tail_cons, List.find?_append,
    List.find?_cons_of_pos (p := fun x : FrameDesc => x.status.isReady) is]
  cases after.find? fun x => x.status.isReady with
  | some y => rfl
  | none => cases before.find? fun x => x.status.isReady <;> rfl

end Ends

end Sys2Proof.Machine
end

section
/-! What the store steps of a pass end leave, case by case (R117 to R120), and the vector that follows them (R129). -/

namespace Sys2Proof.Machine

/-! ### The cases of the store steps (R117) -/

section Steps

variable {s : State} {f : FrameDesc} {n : Nat}

/-- R117, step 2: passes are left. -/
theorem State.storePassEnd_playing (now : s.store.currentFrame = some f) (status : f.status = .playing n)
    (more : n + 1 ≠ f.repeats) :
    s.storePassEnd false = s.setStore (s.store.setStatus f.id (.playing (n + 1))) := by
  simp only [State.storePassEnd, now, status, more, Bool.false_eq_true, if_false]

/-- Log 12: a TAIL that this pass end has made PLAYING plays one more pass. -/
theorem State.storePassEnd_turned (now : s.store.currentFrame = some f) (status : f.status = .playing n) :
    s.storePassEnd true = s := by
  simp only [State.storePassEnd, now, status, if_true]

theorem State.storePassEnd_stream (now : s.store.currentFrame = some f) (status : f.status = .playing n)
    (last : n + 1 = f.repeats) (stream : s.store.mode = .stream) : s.storePassEnd false = s.streamEnd f := by
  simp only [State.storePassEnd, now, status, last, stream, Bool.false_eq_true, if_false, if_true]

theorem State.storePassEnd_loop (now : s.store.currentFrame = some f) (status : f.status = .playing n)
    (last : n + 1 = f.repeats) (loop : s.store.mode = .loop) : s.storePassEnd false = s.loopEnd f := by
  simp only [State.storePassEnd, now, status, last, loop, Bool.false_eq_true, if_false, if_true]

theorem State.storePassEnd_tail (lawful : s.store.Lawful) (now : s.store.currentFrame = some f)
    (tail : f.status = .tail) (wasTail : Bool) : s.storePassEnd wasTail = s.streamEnd f := by
  rw [← State.tailEnd_eq lawful (Store.currentFrame_spec now).1 tail]
  simp only [State.storePassEnd, now, tail]

/-- Everything that the store steps of a pass end can do. -/
theorem State.storePassEnd_cases (lawful : s.store.Lawful) (wasTail : Bool) :
    s.storePassEnd wasTail = s ∨ ∃ f, s.store.currentFrame = some f
      ∧ ((∃ n, s.storePassEnd wasTail = s.setStore (s.store.setStatus f.id (.playing n)))
        ∨ s.storePassEnd wasTail = s.streamEnd f ∨ s.storePassEnd wasTail = s.loopEnd f) := by
  cases now : s.store.currentFrame with
  | none => exact .inl (by simp only [State.storePassEnd, now])
  | some f =>
    cases status : f.status with
    | opened n => exact .inl (by simp only [State.storePassEnd, now, status])
    | ready => exact .inl (by simp only [State.storePassEnd, now, status])
    | tail => exact .inr ⟨f, rfl, .inr (.inl (State.storePassEnd_tail lawful now status _))⟩
    | playing n =>
      cases wasTail with
      | true => exact .inl (State.storePassEnd_turned now status)
      | false =>
        refine .inr ⟨f, rfl, ?_⟩
        by_cases last : n + 1 = f.repeats
        · cases mode : s.store.mode with
          | stream => exact .inr (.inl (State.storePassEnd_stream now status last mode))
          | loop => exact .inr (.inr (State.storePassEnd_loop now status last mode))
        · exact .inl ⟨_, State.storePassEnd_playing now status last⟩

/-! ### What they leave unchanged -/

/-- The part but for the store, the play position and the notices. -/
def State.PlayTurned (s t : State) : Prop :=
  ∃ (st : Store) (p : Option Nat) (x : Notices),
    t = ((s.setStore st).setExer { s.exer with position := p }).setNotice x

theorem State.PlayTurned.of_store (s : State) (st : Store) : s.PlayTurned (s.setStore st) :=
  ⟨st, s.exer.position, s.notice, rfl⟩

theorem State.PlayTurned.takeFrame (s : State) (st : Store) (id : Byte) :
    s.PlayTurned ((s.setStore st).takeFrame id) := by
  rw [State.takeFrame_eq]
  exact ⟨_, _, _, rfl⟩

theorem State.streamEnd_playTurned (s : State) (f : FrameDesc) : s.PlayTurned (s.streamEnd f) := by
  unfold State.streamEnd
  split
  · exact .takeFrame s _ _
  · exact .of_store s _

theorem State.loopEnd_playTurned (s : State) (f : FrameDesc) : s.PlayTurned (s.loopEnd f) := by
  unfold State.loopEnd
  dsimp only
  split
  · exact .takeFrame s _ _
  · exact .of_store s _

theorem State.storePassEnd_playTurned (lawful : s.store.Lawful) (wasTail : Bool) :
    s.PlayTurned (s.storePassEnd wasTail) := by
  obtain same | ⟨f, -, ⟨n, again⟩ | stream | loop⟩ := State.storePassEnd_cases lawful wasTail
  · rw [same]
    exact .of_store s s.store
  · rw [again]
    exact .of_store s _
  · rw [stream]
    exact s.streamEnd_playTurned f
  · rw [loop]
    exact s.loopEnd_playTurned f

section Others

variable {touched : Byte → Prop}

theorem State.streamEnd_keepsOthers (ended : touched f.id)
    (taken : ∀ id, (s.streamEnd f).store.current = some id → touched id) :
    s.store.KeepsOthers touched (s.streamEnd f).store := by
  have tail : s.store.KeepsOthers touched (s.store.setStatus f.id .tail) := .setStatus ended rfl
  cases ready : s.store.firstReady with
  | some g =>
    rw [State.streamEnd_next ready, State.takeFrame_store, State.setStore_store] at taken ⊢
    exact (Store.KeepsOthers.freeFrame ended).trans (.take (taken g.id (by simp)))
  | none =>
    cases underrun : s.exer.underrun with
    | park =>
      rw [State.streamEnd_parks ready underrun]
      exact tail.trans (.unplayed _)
    | repeatLast =>
      rw [State.streamEnd_repeats ready underrun]
      exact tail

theorem State.loopEnd_keepsOthers (ended : touched f.id)
    (taken : ∀ id, (s.loopEnd f).store.current = some id → touched id) :
    s.store.KeepsOthers touched (s.loopEnd f).store := by
  have back : s.store.KeepsOthers touched (s.store.setStatus f.id .ready) := .setStatus ended rfl
  cases next : (s.store.setStatus f.id .ready).nextInLoop f.id with
  | some g =>
    have goes : s.loopEnd f = (s.setStore (s.store.setStatus f.id .ready)).takeFrame g.id := by
      simp only [State.loopEnd, next]
    rw [goes, State.takeFrame_store, State.setStore_store] at taken ⊢
    exact back.trans (.take (taken g.id (by simp)))
  | none =>
    have rests : s.loopEnd f = s.setStore { s.store.setStatus f.id .ready with current := none } := by
      simp only [State.loopEnd, next]
    rw [rests]
    exact back.trans (.unplayed _)

/-- No frame is touched but the one current before and the one current then. -/
theorem State.storePassEnd_keepsOthers (lawful : s.store.Lawful) (wasTail : Bool)
    (ended : ∀ id, s.store.current = some id → touched id)
    (taken : ∀ id, (s.storePassEnd wasTail).store.current = some id → touched id) :
    s.store.KeepsOthers touched (s.storePassEnd wasTail).store := by
  obtain same | ⟨f, now, h⟩ := State.storePassEnd_cases lawful wasTail
  · rw [same]
    exact .refl _
  · have of_now := ended f.id (Store.currentFrame_spec now).2
    obtain ⟨n, again⟩ | stream | loop := h
    · rw [again]
      exact .setStatus of_now rfl
    · rw [stream] at taken ⊢
      exact State.streamEnd_keepsOthers of_now taken
    · rw [loop] at taken ⊢
      exact State.loopEnd_keepsOthers of_now taken

end Others

end Steps

/-! ### The vector that follows (R129, step 3) -/

/-- R133: the exerciser after an entry to a state without play, at a play position. -/
def Exerciser.stalledAt (e : Exerciser) (x : ExerState) (p : Option Nat) : Exerciser :=
  { e with
    state := x, position := p, stalls := e.stalls + 1, holdRequested := false, stopRequested := false,
    strobeDue := false }

/-- A mark that does not stand stays clear. -/
theorem Exerciser.stalledAt_unstopped {e : Exerciser} (stop : e.stopRequested = false) (x : ExerState)
    (p : Option Nat) : e.stalledAt x p =
      { e with state := x, position := p, stalls := e.stalls + 1, holdRequested := false, strobeDue := false } := by
  cases e
  cases stop
  rfl

/-- R129: the exerciser at vector 0 of a frame: stopped or held there, or playing it. -/
def Exerciser.begins (e : Exerciser) (m : List SlotCell) (x : FrameDesc) : Exerciser :=
  if e.stopRequested = true then e.stalledAt .stopped (some 0)
  else if e.holdBudget = true ∨ e.holdPause = true then e.stalledAt .held (some 0)
  else { e with
    position := some 0, vecPeriod := e.timing.period, vecOffset := e.timing.offset, strobeDue := true
    vector := Memory.read m (x.first % 8192) }

/-- The pass end after the staged settings: the store steps, then vector 0 of the frame now current. -/
def State.passTurns (s : State) (wasTail : Bool) : State :=
  let t := s.storePassEnd wasTail
  (t.setExer { t.exer with position := t.store.current.map fun _ => 0 }).vectorFollows

section Follows

variable {s : State}

theorem State.vectorFollows_stopped (stop : s.exer.stopRequested = true) :
    s.vectorFollows = s.setExer (s.exer.stalledAt .stopped s.exer.position) := by
  rw [State.vectorFollows, if_pos stop]
  rfl

theorem State.vectorFollows_starved (stop : s.exer.stopRequested = false) (none_current : s.store.current = none) :
    s.vectorFollows = (s.setExer (s.exer.stalledAt .starved none)).setNotice (s.notice.countRaise 7) := by
  rw [State.vectorFollows, if_neg (by simp [stop]), if_pos (by simp [none_current]),
    Exerciser.stalledAt_unstopped stop]
  rfl

theorem State.vectorFollows_held {id : Byte} (stop : s.exer.stopRequested = false) (current : s.store.current = some id)
    (holds : s.exer.holdSet = true) : s.vectorFollows = s.setExer (s.exer.stalledAt .held s.exer.position) := by
  rw [State.vectorFollows, if_neg (by simp [stop]), if_neg (by simp [current]), if_pos holds,
    Exerciser.stalledAt_unstopped stop]
  rfl

theorem State.vectorFollows_plays {x : FrameDesc} (playing : s.exer.state = .playing)
    (stop : s.exer.stopRequested = false) (now : s.store.currentFrame = some x) (at_start : s.exer.position = some 0)
    (holds : s.exer.holdSet = false) : s.vectorFollows = s.setExer { s.exer with
      position := some 0, vecPeriod := s.exer.timing.period, vecOffset := s.exer.timing.offset, strobeDue := true
      vector := Memory.read s.store.memory (x.first % 8192) } := by
  rw [State.vectorFollows, if_neg (by simp [stop]), if_neg (by simp [(Store.currentFrame_spec now).2]),
    if_neg (by simp [holds])]
  simp only [State.startVector, now, at_start]
  rw [← playing, ← at_start]
  rfl

/-- With a current frame play goes on at its vector 0, or stands there. -/
theorem State.vectorFollows_begins {x : FrameDesc} (playing : s.exer.state = .playing)
    (now : s.store.currentFrame = some x) (at_start : s.exer.position = some 0) :
    s.vectorFollows = s.setExer (s.exer.begins s.store.memory x) := by
  have current := (Store.currentFrame_spec now).2
  have set_iff : s.exer.holdSet = true ↔ s.exer.holdBudget = true ∨ s.exer.holdPause = true := Bool.or_eq_true_iff
  unfold Exerciser.begins
  by_cases stop : s.exer.stopRequested = true
  · rw [if_pos stop, State.vectorFollows_stopped stop, at_start]
  · have going : s.exer.stopRequested = false := Bool.eq_false_iff.mpr stop
    rw [if_neg stop]
    by_cases holds : s.exer.holdSet = true
    · rw [if_pos (set_iff.mp holds), State.vectorFollows_held going current holds, at_start]
    · rw [if_neg (holds ∘ set_iff.mpr),
        State.vectorFollows_plays playing going now at_start (Bool.eq_false_iff.mpr holds)]

@[simp] theorem State.vectorFollows_store (s : State) : s.vectorFollows.store = s.store := by
  unfold State.vectorFollows State.startVector
  (repeat' split) <;> rfl

end Follows

theorem State.vectorFollows_onlyPlayMoved (s : State) : OnlyPlayMoved s s.vectorFollows := by
  unfold State.vectorFollows State.startVector
  (repeat' split) <;> exact ⟨rfl, rfl, rfl, rfl, rfl, rfl, rfl, rfl, rfl, rfl, rfl⟩

section Turns

variable {w t : State} (turned : w.PlayTurned t)

include turned

theorem State.PlayTurned.onlyPlayMoved : OnlyPlayMoved w t := by
  obtain ⟨st, p, x, rfl⟩ := turned
  exact ⟨rfl, rfl, rfl, rfl, rfl, rfl, rfl, rfl, rfl, rfl, rfl⟩

/-- Wherever play stood, at vector 0 it begins in the same way. -/
theorem State.PlayTurned.begins (p : Option Nat) (m : List SlotCell) (x : FrameDesc) :
    ({ t.exer with position := p } : Exerciser).begins m x = w.exer.begins m x := by
  obtain ⟨st, q, y, rfl⟩ := turned
  rfl

theorem State.PlayTurned.stalledAt (p : Option Nat) (x : ExerState) (q : Option Nat) :
    ({ t.exer with position := p } : Exerciser).stalledAt x q = w.exer.stalledAt x q := by
  obtain ⟨st, o, y, rfl⟩ := turned
  rfl

theorem State.PlayTurned.exerState : t.exer.state = w.exer.state := by
  obtain ⟨st, o, y, rfl⟩ := turned
  rfl

theorem State.PlayTurned.stopRequested : t.exer.stopRequested = w.exer.stopRequested := by
  obtain ⟨st, o, y, rfl⟩ := turned
  rfl

end Turns

section PassTurns

variable {w : State} (lawful : w.store.Lawful) {wasTail : Bool}

@[simp] theorem State.passTurns_store (w : State) (wasTail : Bool) :
    (w.passTurns wasTail).store = (w.storePassEnd wasTail).store :=
  State.vectorFollows_store _

include lawful

theorem State.passTurns_onlyPlayMoved (wasTail : Bool) : OnlyPlayMoved w (w.passTurns wasTail) := by
  obtain ⟨slot, ident, recipe, rail, sock, therm, credit, fail, link, free, pending⟩ :=
    (State.storePassEnd_playTurned lawful wasTail).onlyPlayMoved
  obtain ⟨slot', ident', recipe', rail', sock', therm', credit', fail', link', free', pending'⟩ :=
    State.vectorFollows_onlyPlayMoved ((w.storePassEnd wasTail).setExer { (w.storePassEnd wasTail).exer with
      position := (w.storePassEnd wasTail).store.current.map fun _ => 0 })
  exact ⟨slot'.trans slot, ident'.trans ident, recipe'.trans recipe, rail'.trans rail, sock'.trans sock,
    therm'.trans therm, credit'.trans credit, fail'.trans fail, link'.trans link, free'.trans free,
    pending'.trans pending⟩

/-- With a frame current after the store steps, play stands at its vector 0. -/
theorem State.passTurns_begins (playing : w.exer.state = .playing) {x : FrameDesc}
    (now : (w.storePassEnd wasTail).store.currentFrame = some x) :
    w.passTurns wasTail =
      (w.storePassEnd wasTail).setExer (w.exer.begins (w.storePassEnd wasTail).store.memory x) := by
  have turned := State.storePassEnd_playTurned lawful wasTail
  have start : (w.storePassEnd wasTail).store.current.map (fun _ => 0) = some 0 := by
    rw [(Store.currentFrame_spec now).2]
    rfl
  rw [← turned.begins (some 0)]
  unfold State.passTurns
  rw [← start]
  exact State.vectorFollows_begins (turned.exerState.trans playing) now start

/-- With no frame current after the store steps, the exerciser stops or starves. -/
theorem State.passTurns_parks (none_current : (w.storePassEnd wasTail).store.current = none) :
    (w.exer.stopRequested = true →
        w.passTurns wasTail = (w.storePassEnd wasTail).setExer (w.exer.stalledAt .stopped none))
      ∧ (w.exer.stopRequested = false →
        w.passTurns wasTail = ((w.storePassEnd wasTail).setExer (w.exer.stalledAt .starved none)).setNotice
          ((w.storePassEnd wasTail).notice.countRaise 7)) := by
  have turned := State.storePassEnd_playTurned lawful wasTail
  have start : (w.storePassEnd wasTail).store.current.map (fun _ => 0) = none := by
    rw [none_current]
    rfl
  refine ⟨fun stop => ?_, fun stop => ?_⟩
  · rw [← turned.stalledAt none]
    unfold State.passTurns
    rw [← start]
    exact State.vectorFollows_stopped (turned.stopRequested.trans stop)
  · refine (State.vectorFollows_starved (s := (w.storePassEnd wasTail).setExer { (w.storePassEnd wasTail).exer with
      position := (w.storePassEnd wasTail).store.current.map fun _ => 0 })
      (turned.stopRequested.trans stop) none_current).trans ?_
    rw [State.setExer_exer, turned.stalledAt]
    rfl

end PassTurns

end Sys2Proof.Machine
end

section
/-! The pass end of a vector in PLAYING (R117 to R120, R129, R138), clause by clause. -/

namespace Sys2Proof.Machine

/-! ### The current frame after each store step -/

section Lists

variable {st : Store} (lawful : st.Lawful) {f g : FrameDesc}

theorem Store.find_of_currentFrame (now : st.currentFrame = some f) : st.current = some f.id ∧ st.find f.id = some f := by
  have current := (Store.currentFrame_spec now).2
  rw [Store.currentFrame, current] at now
  exact ⟨current, now⟩

theorem Store.syncReadEnd_readEnd (st : Store) :
    st.syncReadEnd.readEnd = ((st.frames.head?).map FrameDesc.first).getD st.writeEnd := by
  unfold Store.syncReadEnd
  cases st.frames <;> rfl

/-- R110: a frame taken leaves the read end at the head of the list. -/
theorem Store.take_readEnd (synced : st.readEnd = ((st.frames.head?).map FrameDesc.first).getD st.writeEnd) (id : Byte) :
    (st.take id).readEnd = (((st.take id).frames.head?).map FrameDesc.first).getD (st.take id).writeEnd := by
  unfold Store.take Store.freeIdleTail
  split
  · exact Store.syncReadEnd_readEnd _
  · rw [Store.setStatus_eq, synced]
    simp only [List.head?_map, Option.map_map, Function.comp_def, (FrameDesc.restates id _).first]

include lawful

theorem Store.Lawful.currentFrame_restated (now : st.currentFrame = some f) {x : FrameStatus} (closed : x.isOpen = false) :
    (st.setStatus f.id x).currentFrame = some { f with status := x } := by
  obtain ⟨hf, current⟩ := Store.currentFrame_spec now
  have kept : (st.setStatus f.id x).current = some f.id := current
  rw [Store.currentFrame, kept]
  exact lawful.find_restated hf closed

/-! R118: the ended frame freed. -/

section Freed

variable (hf : f ∈ st.frames) (ended : f.status.isReady = false)

include hf ended

theorem Store.Lawful.freeFrame_readyCount : (st.freeFrame f.id).readyCount = st.readyCount := by
  refine (List.countP_filter (p := fun f : FrameDesc => f.status.isReady)).trans (List.countP_congr fun y hy => ?_)
  by_cases same : y.id = f.id
  · rw [lawful.frames.eq_of_id hy hf same]
    simp [ended]
  · simp [same]

theorem Store.Lawful.mem_freeFrame (ready : st.firstReady = some g) : g ∈ (st.freeFrame f.id).frames := by
  obtain ⟨hg, is⟩ := find_ready_spec ready
  refine List.mem_filter.mpr ⟨hg, bne_iff_ne.mpr fun same => ?_⟩
  rw [← lawful.frames.eq_of_id hg hf same, is] at ended
  cases ended

end Freed

omit lawful in
theorem Store.find_freed (st : Store) (gone id : Byte) : ((st.freeFrame gone).take id).find gone = none := by
  refine List.find?_eq_none.mpr fun y hy => ?_
  obtain ⟨⟨x, hx, rfl⟩, -⟩ := (Store.mem_take _ _ y).mp hy
  rw [(FrameDesc.restates id _).id]
  simpa using (List.mem_filter.mp hx).2

/-- R120: of two frames of the loop the one not taken is READY. -/
theorem Store.Lawful.find_handed_back (hf : f ∈ st.frames) {id : Byte} (other : id ≠ f.id) :
    ((st.setStatus f.id .ready).take id).find f.id = some { f with status := .ready } := by
  have stored : { f with status := .ready } ∈ ((st.setStatus f.id .ready).take id).frames := by
    refine (Store.mem_take _ _ _).mpr ⟨⟨_, ?_, FrameDesc.restate_other (f := { f with status := .ready }) _ other.symm⟩, nofun⟩
    rw [← FrameDesc.restate_same]
    exact List.mem_map_of_mem hf
  exact ((lawful.setStatus f.id rfl).take id).find_mem stored

end Lists

/-! ### Each store step as a whole -/

section Steps

variable {w : State} (lawful : w.store.Lawful) {f g : FrameDesc}

include lawful

/-- R118, R119: the first READY frame takes over. -/
theorem State.streamEnd_hands_on (now : w.store.currentFrame = some f) (ended : f.status.isReady = false)
    (ready : w.store.firstReady = some g) :
    (w.streamEnd f).store.currentFrame = some { g with status := .playing 0 }
      ∧ (w.streamEnd f).store.find f.id = none
      ∧ (w.streamEnd f).store.readEnd =
        (((w.streamEnd f).store.frames.head?).map FrameDesc.first).getD (w.streamEnd f).store.writeEnd
      ∧ (w.streamEnd f).notice =
        (if w.store.mode = .stream ∧ w.store.lowWater < w.store.readyCount ∧ w.store.readyCount - 1 ≤ w.store.lowWater
          then w.notice.countRaise 7 else w.notice) := by
  obtain ⟨hf, -⟩ := Store.currentFrame_spec now
  have freed : (w.store.freeFrame f.id).Lawful := lawful.keepFrames _
  have stored := lawful.mem_freeFrame hf ended ready
  have same := lawful.freeFrame_readyCount hf ended
  have fewer : ((w.store.freeFrame f.id).take g.id).readyCount = w.store.readyCount - 1 := by
    have count := freed.take_readyCount stored (find_ready_spec ready).2
    omega
  rw [State.streamEnd_next ready, State.takeFrame_store, State.setStore_store]
  refine ⟨freed.currentFrame_taken stored, Store.find_freed _ _ _, Store.take_readEnd (Store.syncReadEnd_readEnd _) _, ?_⟩
  rw [State.takeFrame_eq, State.setStore_store, fewer, same]
  rfl

/-- R120: the next READY frame of the loop takes over, or the ended one plays again. -/
theorem State.loopEnd_hands_on {before after : List FrameDesc} (loop : w.store.mode = .loop)
    (frames : w.store.frames = before ++ f :: after)
    (next : ((after.find? fun x => x.status.isReady).or (before.find? fun x => x.status.isReady)).getD
      { f with status := .ready } = g) :
    (w.loopEnd f).store.currentFrame = some { g with status := .playing 0 } ∧ (w.loopEnd f).notice = w.notice
      ∧ (g.id ≠ f.id → (w.loopEnd f).store.find f.id = some { f with status := .ready }) := by
  have hf : f ∈ w.store.frames := by simp [frames]
  have readied : (w.store.setStatus f.id .ready).Lawful := lawful.setStatus f.id rfl
  have found := lawful.nextInLoop_ready frames
  rw [next] at found
  have taken : w.loopEnd f = (w.setStore (w.store.setStatus f.id .ready)).takeFrame g.id := by
    simp only [State.loopEnd, found]
  rw [taken, State.takeFrame_store, State.setStore_store]
  refine ⟨readied.currentFrame_taken (Store.nextInLoop_spec found).1, ?_, lawful.find_handed_back hf⟩
  rw [State.takeFrame_eq, State.setStore_store, if_neg]
  · rfl
  · rintro ⟨stream, -⟩
    exact absurd (loop.symm.trans stream) nofun

end Steps

/-! ### The vector end at a frame's last vector (R129) -/

/-- R129, R138: the windows emptied when the pass was checked, the staged settings taken up. -/
def State.cleared (s : State) (checked : Bool) : State :=
  s.setExer { s.exer with
    staged := Settings.empty
    compare := if checked = true then s.exer.compare.map fun r => { r with windowCount := 0, firstMismatch := none }
      else s.exer.compare }

section VectorEnd

variable {s : State} {f : FrameDesc} {p : Nat}

theorem ExerState.isPlaying_iff (x : ExerState) : x.isPlaying = true ↔ x = .playing := by
  cases x <;> simp [ExerState.isPlaying]

theorem State.passEnd_over {checked : Bool}
    (halted : (if checked = true then s.judgePass else s).exer.state ≠ .playing) (wasTail : Bool) :
    s.passEnd checked wasTail = if checked = true then s.judgePass else s := by
  rw [State.passEnd, if_neg]
  rwa [ExerState.isPlaying_iff]

theorem State.passEnd_playing {checked : Bool} {judged : State}
    (is : (if checked = true then s.judgePass else s) = judged) (playing : judged.exer.state = .playing)
    (wasTail : Bool) :
    (s.passEnd checked wasTail).vectorFollows
        = ((judged.cleared checked).applySettings judged.exer.staged).passTurns wasTail
      ∧ (s.passEnd checked wasTail).exer.state
        = (((judged.cleared checked).applySettings judged.exer.staged).storePassEnd wasTail).exer.state := by
  have staged : (if checked = true then judged.setExer judged.exer.clearWindows else judged).applyStaged
      = (judged.cleared checked).applySettings judged.exer.staged := by
    cases checked <;> rfl
  have ended : s.passEnd checked wasTail =
      let t := ((judged.cleared checked).applySettings judged.exer.staged).storePassEnd wasTail
      t.setExer { t.exer with position := t.store.current.map fun _ => 0 } := by
    rw [State.passEnd, is, if_pos ((ExerState.isPlaying_iff _).mpr playing), ← staged]
  rw [ended]
  exact ⟨rfl, rfl⟩

theorem State.vectorEnds_last {u : State} (applied : (s.setExer s.exer.advanceClocks).applyBoundary = u)
    (now : u.store.currentFrame = some f) (at_last : u.exer.position = some p) (last : p + 1 = f.count) :
    s.vectorEnds =
      if (u.passEnd f.checked s.store.currentIsTail).exer.state.isPlaying then
        (u.passEnd f.checked s.store.currentIsTail).vectorFollows
      else u.passEnd f.checked s.store.currentIsTail := by
  simp only [State.vectorEnds, applied, now, at_last, last, if_true]

end VectorEnd

end Sys2Proof.Machine
end

section
/-! What a pass end comes to (R117 to R120, R129, R138). -/

namespace Sys2Proof.Machine

/-- R135: waiting settings move nothing of a frame in play but what times it. -/
theorem State.applySettings_playing {s : State} (playing : s.exer.state = .playing) (x : Settings) :
    (s.applySettings x).exer.state = .playing ∧ (s.applySettings x).exer.position = s.exer.position
      ∧ (s.applySettings x).exer.staged = s.exer.staged := by
  obtain ⟨channels, ages, -, exer⟩ := State.applySettings_exer s x (by simp [playing])
  rw [exer]
  exact ⟨playing, rfl, rfl⟩

theorem State.judgedPass_playJudged (s : State) (checked : Bool) :
    s.PlayJudged (if checked = true then s.judgePass else s) := by
  cases checked with
  | true => exact s.judgePass_playJudged
  | false => exact .refl s

/-- Play that has gone on to a frame, at its vector 0 with the vectors of a memory. -/
def State.Begins (w t : State) (m : List SlotCell) (x : FrameDesc) : Prop :=
  t.store.current = some x.id ∧ t.store.find x.id = some x ∧ t.exer = w.exer.begins m x

theorem FrameDesc.isTail_of_not {f : FrameDesc} (no_tail : f.status ≠ .tail) : f.status.isTail = false :=
  Bool.eq_false_iff.mpr (no_tail ∘ (FrameStatus.isTail_iff _).mp)

section Turned

variable {w v : State} {wasTail : Bool}

/-- With a frame current after the store steps, play stands at its vector 0. -/
theorem State.passTurns_goes (lawful : w.store.Lawful) (playing : w.exer.state = .playing)
    (ended : w.storePassEnd wasTail = v) {x : FrameDesc} (now : v.store.currentFrame = some x) :
    w.Begins (w.passTurns wasTail) w.store.memory x ∧ (w.passTurns wasTail).notice = v.notice := by
  obtain ⟨current, found⟩ := Store.find_of_currentFrame now
  have kept : (w.storePassEnd wasTail).store.memory = w.store.memory :=
    (State.storePassEnd_keepsOthers (touched := fun _ => True) lawful wasTail (fun _ _ => trivial)
      fun _ _ => trivial).memory
  have turned := State.passTurns_begins (wasTail := wasTail) lawful playing (ended ▸ now)
  rw [kept, ended] at turned
  rw [turned]
  exact ⟨⟨current, found, rfl⟩, rfl⟩

/-- A frame's last pass in Stream mode and a TAIL's pass end alike. -/
theorem State.storePassEnd_ended (lawful : w.store.Lawful) {f : FrameDesc} {n : Nat}
    (ended : (f.status ≠ .tail ∧ w.store.currentFrame = some { f with status := .playing n } ∧ n + 1 = f.repeats
        ∧ w.store.mode = .stream) ∨ w.store.currentFrame = some { f with status := .tail }) :
    ∃ x : FrameStatus, w.store.currentFrame = some { f with status := x } ∧ x.isReady = false
      ∧ w.storePassEnd f.status.isTail = w.streamEnd { f with status := x } := by
  obtain ⟨no_tail, now, last, stream⟩ | now := ended
  · refine ⟨_, now, rfl, ?_⟩
    rw [FrameDesc.isTail_of_not no_tail]
    exact State.storePassEnd_stream now rfl last stream
  · exact ⟨_, now, rfl, State.storePassEnd_tail lawful now rfl _⟩

variable (lawful : w.store.Lawful) (playing : w.exer.state = .playing) {f g : FrameDesc} {n : Nat}

include lawful playing

/-- R117, step 2. -/
theorem State.passTurns_again (no_tail : f.status ≠ .tail)
    (now : w.store.currentFrame = some { f with status := .playing n }) (more : n + 1 ≠ f.repeats) :
    w.Begins (w.passTurns f.status.isTail) w.store.memory { f with status := .playing (n + 1) }
      ∧ (w.passTurns f.status.isTail).notice = w.notice := by
  rw [FrameDesc.isTail_of_not no_tail]
  exact State.passTurns_goes lawful playing (State.storePassEnd_playing now rfl more)
    (lawful.currentFrame_restated now (x := .playing (n + 1)) rfl)

/-- Log 12. -/
theorem State.passTurns_turned (tail : f.status = .tail)
    (now : w.store.currentFrame = some { f with status := .playing n }) :
    w.Begins (w.passTurns f.status.isTail) w.store.memory { f with status := .playing n }
      ∧ (w.passTurns f.status.isTail).notice = w.notice := by
  rw [(FrameStatus.isTail_iff _).mpr tail]
  exact State.passTurns_goes lawful playing (State.storePassEnd_turned now rfl) now

section Ended

variable (ended : (f.status ≠ .tail ∧ w.store.currentFrame = some { f with status := .playing n } ∧ n + 1 = f.repeats
  ∧ w.store.mode = .stream) ∨ w.store.currentFrame = some { f with status := .tail })

include ended

/-- R118, R119: a READY frame takes over. -/
theorem State.passTurns_next (ready : w.store.firstReady = some g) :
    w.Begins (w.passTurns f.status.isTail) w.store.memory { g with status := .playing 0 }
      ∧ (w.passTurns f.status.isTail).store.find f.id = none
      ∧ (w.passTurns f.status.isTail).store.readEnd =
        (((w.passTurns f.status.isTail).store.frames.head?).map FrameDesc.first).getD
          (w.passTurns f.status.isTail).store.writeEnd
      ∧ (w.passTurns f.status.isTail).notice =
        (if w.store.mode = .stream ∧ w.store.lowWater < w.store.readyCount ∧ w.store.readyCount - 1 ≤ w.store.lowWater
          then w.notice.countRaise 7 else w.notice) := by
  obtain ⟨x, now, unready, ends⟩ := State.storePassEnd_ended lawful ended
  obtain ⟨takes, gone, read, raised⟩ := State.streamEnd_hands_on lawful now unready ready
  obtain ⟨begins, notice⟩ := State.passTurns_goes lawful playing ends takes
  rw [State.passTurns_store, ends]
  exact ⟨begins, gone, read, notice.trans raised⟩

/-- R118, R119: without a READY frame REPEAT plays the TAIL again. -/
theorem State.passTurns_repeats (ready : w.store.firstReady = none) (underrun : w.exer.underrun = .repeatLast) :
    w.Begins (w.passTurns f.status.isTail) w.store.memory { f with status := .tail }
      ∧ (w.passTurns f.status.isTail).notice = w.notice := by
  obtain ⟨x, now, -, ends⟩ := State.storePassEnd_ended lawful ended
  exact State.passTurns_goes lawful playing (ends.trans (State.streamEnd_repeats ready underrun))
    (lawful.currentFrame_restated now (x := .tail) rfl)

omit playing in
/-- R118, R119: without a READY frame PARK leaves the TAIL, and play stops or starves. -/
theorem State.passTurns_parked (ready : w.store.firstReady = none) (underrun : w.exer.underrun = .park) :
    (w.passTurns f.status.isTail).store.current = none
      ∧ (w.passTurns f.status.isTail).store.find f.id = some { f with status := .tail }
      ∧ (w.exer.stopRequested = true → (w.passTurns f.status.isTail).exer = w.exer.stalledAt .stopped none
        ∧ (w.passTurns f.status.isTail).notice = w.notice)
      ∧ (w.exer.stopRequested = false → (w.passTurns f.status.isTail).exer = w.exer.stalledAt .starved none
        ∧ (w.passTurns f.status.isTail).notice = w.notice.countRaise 7) := by
  obtain ⟨x, now, -, ends⟩ := State.storePassEnd_ended lawful ended
  have parks := ends.trans (State.streamEnd_parks ready underrun)
  have found := lawful.find_restated (Store.currentFrame_spec now).1 (x := .tail) rfl
  obtain ⟨stops, starves⟩ := State.passTurns_parks lawful (wasTail := f.status.isTail) (by rw [parks]; rfl)
  rw [parks] at stops starves
  rw [State.passTurns_store, parks]
  refine ⟨rfl, found, fun stop => ?_, fun stop => ?_⟩
  · rw [stops stop]
    exact ⟨rfl, rfl⟩
  · rw [starves stop]
    exact ⟨rfl, rfl⟩

end Ended

/-- R120. -/
theorem State.passTurns_loops {before after : List FrameDesc} (no_tail : f.status ≠ .tail)
    (now : w.store.currentFrame = some { f with status := .playing n }) (last : n + 1 = f.repeats)
    (loop : w.store.mode = .loop) (frames : w.store.frames = before ++ { f with status := .playing n } :: after)
    (next : ((after.find? fun x => x.status = .ready).or (before.find? fun x => x.status = .ready)).getD f = g) :
    w.Begins (w.passTurns f.status.isTail) w.store.memory { g with status := .playing 0 }
      ∧ (w.passTurns f.status.isTail).notice = w.notice
      ∧ (g.id ≠ f.id → (w.passTurns f.status.isTail).store.find f.id = some { f with status := .ready }) := by
  have is_ready : (fun x : FrameDesc => decide (x.status = .ready)) = fun x => x.status.isReady :=
    funext fun x => Bool.eq_iff_iff.mpr (decide_eq_true_iff.trans (FrameStatus.isReady_iff _).symm)
  rw [is_ready] at next
  obtain ⟨y, found, same⟩ : ∃ y, ((after.find? fun x => x.status.isReady).or (before.find? fun x => x.status.isReady)).getD
      { f with status := .ready } = y ∧ { y with status := .playing 0 } = ({ g with status := .playing 0 } : FrameDesc) := by
    refine ⟨_, rfl, ?_⟩
    rw [← next]
    cases (after.find? fun x => x.status.isReady).or (before.find? fun x => x.status.isReady) <;> rfl
  have ids : y.id = g.id := (FrameDesc.mk.inj same).1
  obtain ⟨takes, silent, back⟩ := State.loopEnd_hands_on lawful loop frames found
  have ends := State.storePassEnd_loop now rfl last loop
  rw [← FrameDesc.isTail_of_not no_tail] at ends
  rw [same] at takes
  rw [ids] at back
  obtain ⟨begins, notice⟩ := State.passTurns_goes lawful playing ends takes
  rw [State.passTurns_store, ends]
  exact ⟨begins, notice.trans silent, back⟩

end Turned

/-- R129, step 2: play that outlasts the judging takes up the staged settings and goes through the store steps. -/
theorem State.passEnd_turns {u : State} {f : FrameDesc}
    (plays : (if f.checked = true then u.judgePass else u).exer.state = .playing)
    (wasTail : Bool) :
    ∃ w, ((if f.checked = true then u.judgePass else u).cleared f.checked).Applied w u.exer.staged
      ∧ w.exer.state = .playing ∧ w.store = u.store.withPlay u.exer.staged.play
      ∧ (u.passEnd f.checked wasTail).exer.state = .playing
      ∧ (u.passEnd f.checked wasTail).vectorFollows = w.passTurns wasTail := by
  obtain ⟨-, store, exer⟩ := u.judgedPass_playJudged f.checked plays
  obtain ⟨turns, state⟩ := State.passEnd_playing (s := u) rfl plays wasTail
  generalize (if f.checked = true then u.judgePass else u) = judged at plays store exer turns state ⊢
  have staged : judged.exer.staged = u.exer.staged := by rw [exer]
  have cleared_plays : (judged.cleared f.checked).exer.state = .playing := plays
  have not_starved : (judged.cleared f.checked).exer.state ≠ .starved := by simp [cleared_plays]
  have w_plays := (State.applySettings_playing cleared_plays u.exer.staged).1
  rw [staged] at turns state
  refine ⟨_, State.applySettings_applied _ _ not_starved, w_plays, ?_,
    state.trans ((State.storePassEnd_exerState _ _).trans w_plays), turns⟩
  rw [State.applySettings_store _ _ not_starved, State.cleared, State.setExer_store, store]

/-- Settles O35: the pass end's judging, then each case of the store steps, then the vector that follows. -/
theorem passEndMovesTheStream : Obligations.PassEndMovesTheStream := by
  unfold Obligations.PassEndMovesTheStream
  intro s f g p n before after law playing was position last advanced
  have lawful := s.storeLaw_iff.mp law
  have going : advanced.exer.state = .playing := playing
  have not_starved : advanced.exer.state ≠ .starved := by simp [going]
  refine ⟨advanced.applySettings s.exer.boundary, advanced.applySettings_applied _ not_starved, ?_⟩
  have boundary : (s.setExer s.exer.advanceClocks).applyBoundary = advanced.applySettings s.exer.boundary := rfl
  have put := advanced.applySettings_store s.exer.boundary not_starved
  obtain ⟨goes_on, stands, waiting⟩ := State.applySettings_playing going s.exer.boundary
  generalize advanced.applySettings s.exer.boundary = u at boundary put goes_on stands waiting ⊢
  obtain ⟨y, now⟩ := Store.withPlay_currentFrame was s.exer.boundary.play
  have ends := State.vectorEnds_last (f := { f with status := y }) boundary (put ▸ now) (stands.trans position) last
  have wasTail : s.store.currentIsTail = f.status.isTail := by rw [Store.currentIsTail, was]
  have stepped : exec .vectorEnd s = .next s.vectorEnds :=
    congrArg Host.Outcome.next (if_pos ((ExerState.isPlaying_iff _).mpr playing))
  rw [wasTail] at ends
  rw [stepped, ends]
  intro judged cleared
  refine ⟨fun halted => ?_, fun plays => ?_⟩
  · have ended : u.passEnd f.checked f.status.isTail = judged := State.passEnd_over halted _
    dsimp only
    rw [ended, if_neg (halted ∘ (ExerState.isPlaying_iff _).mp)]
  · obtain ⟨w, applied, w_plays, w_store, still, turns⟩ := State.passEnd_turns plays f.status.isTail
    rw [waiting] at applied
    rw [waiting, put] at w_store
    have w_lawful : w.store.Lawful := by
      rw [w_store]
      exact (lawful.withPlay _).withPlay _
    have current : w.store.current = some f.id := by
      rw [w_store]
      simpa [advanced] using (Store.currentFrame_spec was).2
    have memory : w.store.memory = s.store.memory := by simp [w_store, advanced]
    refine ⟨w, w.passTurns f.status.isTail, applied, ?_, State.passTurns_onlyPlayMoved w_lawful _, ?_⟩
    · dsimp only
      rw [if_pos ((ExerState.isPlaying_iff _).mpr still), turns]
    · obtain ⟨after_lawful, kept, write_end, mode, mark, others⟩ := State.storePassEnd_keepsOthers
        (touched := fun id => id = f.id ∨ (w.storePassEnd f.status.isTail).store.current = some id) w_lawful
        f.status.isTail (fun id is => .inl (Option.some.inj (is.symm.trans current))) fun id is => .inr is
      rw [← State.passTurns_store] at after_lawful kept write_end mode mark others
      rw [← memory]
      refine ⟨kept, write_end, mode, mark, fun x hx no_tail other idle => ?_,
        State.passTurns_again w_lawful w_plays, State.passTurns_turned w_lawful w_plays,
        State.passTurns_next w_lawful w_plays, State.passTurns_repeats w_lawful w_plays,
        State.passTurns_parked w_lawful, State.passTurns_loops w_lawful w_plays⟩
      exact (after_lawful w_lawful).find_mem (others x hx no_tail fun touched => touched.elim other idle)

end Sys2Proof.Machine
end

section
/-! The strobe of a vector (R136). -/

namespace Sys2Proof.Machine

section Strobe

variable {s : State} {lines : BitVec 48}

/-- Log 25: a strobe finds its vector once, in PLAYING. -/
theorem exec_vectorStrobe_past (h : s.exer.state ≠ .playing ∨ s.exer.strobeDue = false) :
    exec (.vectorStrobe lines) s = .next s := by
  refine congrArg Host.Outcome.next (if_neg fun due => ?_)
  obtain ⟨playing, strobe⟩ := (Bool.and_eq_true _ _).mp due
  rcases h with other | past
  · exact other ((ExerState.isPlaying_iff _).mp playing)
  · exact Bool.false_ne_true (past.symm.trans strobe)

theorem exec_vectorStrobe_due (playing : s.exer.state = .playing) (due : s.exer.strobeDue = true) :
    exec (.vectorStrobe lines) s = .next (s.strobes lines) := by
  refine congrArg Host.Outcome.next (if_pos ?_)
  rw [(ExerState.isPlaying_iff _).mpr playing, due]
  rfl

theorem Expectation.level_of_high (high : Bool) :
    (if high = true then Expectation.high else Expectation.low).level = some high := by
  cases high <;> rfl

variable {f : FrameDesc} {p : Nat} (now : s.store.currentFrame = some f) (position : s.exer.position = some p)

include now position

theorem State.strobes_silent (silent : f.checked = false ∨ s.exer.vector.expect = .dontCare) :
    s.strobes lines = s.setExer { s.exer with strobeDue := false } := by
  rcases silent with unchecked | care
  · cases asked : s.exer.vector.expect.level with
    | none => simp only [State.strobes, asked]
    | some level =>
      simp only [State.strobes, asked, now, position, unchecked, Bool.false_eq_true, if_false]
  · have asked : s.exer.vector.expect.level = none := by rw [care]; rfl
    simp only [State.strobes, asked]

theorem State.strobes_compares (checked : f.checked = true) {level : Bool}
    (asked : s.exer.vector.expect.level = some level) :
    s.strobes lines =
      s.setExer { s.exer with strobeDue := false, compare := s.compared level p lines } := by
  simp only [State.strobes, asked, now, position, checked, if_true]
  rfl

end Strobe

/-- R136: who is compared, and what a mismatch moves. -/
theorem State.compared_get (s : State) (level : Bool) (p : Nat) (lines : BitVec 48) (k : Fin 48) :
    (s.compared level p lines).get k =
      if ((s.sock.sockets.get k).state = .active ∨ (s.sock.sockets.get k).state = .warned)
        ∧ (s.sock.sockets.get k).blanking = none ∧ lines.getLsbD k.val ≠ level
      then (s.exer.compare.get k).mismatch p else s.exer.compare.get k := by
  rw [State.compared, Bank.get_ofFn]
  refine if_congr ?_ rfl rfl
  rw [Bool.and_eq_true, SocketRec.judged_iff, bne_iff_ne, and_assoc]

/-- Settles O32: a strobe past, a strobe that asks for nothing, and the compare records of one that does. -/
theorem vectorStrobeCompares : Obligations.VectorStrobeCompares := by
  unfold Obligations.VectorStrobeCompares
  intro s lines f p high seen
  refine ⟨exec_vectorStrobe_past, fun playing due now position => ?_⟩
  rw [exec_vectorStrobe_due playing due]
  refine ⟨fun silent => congrArg Host.Outcome.next (State.strobes_silent now position silent),
    fun checked expect => ?_⟩
  have asked : s.exer.vector.expect.level = some high := by rw [expect, Expectation.level_of_high]
  exact ⟨_, rfl, by rw [State.strobes_compares now position checked asked]; rfl,
    fun k => by rw [State.strobes_compares now position checked asked]; exact s.compared_get high p lines k⟩

end Sys2Proof.Machine
end

section
/-! The stimulus levels (R134): which channel's settings time a channel, and what it shows. -/

namespace Sys2Proof.Machine

/-! ### The channel above a PAIR (R134) -/

theorem pairPartner_eq_some (c p : Fin 16) : pairPartner c = some p ↔ p.val % 2 = 0 ∧ p.val + 1 = c.val := by
  unfold pairPartner
  split
  · simp only [Option.some.injEq, Fin.ext_iff]
    omega
  · refine iff_of_false nofun ?_
    omega

section Levels

variable {e : Exerciser} {c p : Fin 16}

theorem Exerciser.pairedUnder_eq_some :
    e.pairedUnder c = some p ↔ (p.val % 2 = 0 ∧ p.val + 1 = c.val) ∧ (e.channels.get p).mode = .pair := by
  rw [← pairPartner_eq_some, Exerciser.pairedUnder, Option.bind_eq_some_iff]
  constructor
  · rintro ⟨b, partner, test⟩
    obtain ⟨pair, same⟩ := Option.ite_none_right_eq_some.mp test
    obtain rfl := Option.some.inj same
    exact ⟨partner, pair⟩
  · rintro ⟨partner, pair⟩
    exact ⟨p, partner, if_pos pair⟩

theorem Exerciser.pairedUnder_eq_none
    (alone : ¬ ∃ b : Fin 16, b.val % 2 = 0 ∧ b.val + 1 = c.val ∧ (e.channels.get b).mode = .pair) :
    e.pairedUnder c = none :=
  Option.eq_none_iff_forall_ne_some.mpr fun p paired => by
    obtain ⟨⟨even, next⟩, pair⟩ := Exerciser.pairedUnder_eq_some.mp paired
    exact alone ⟨p, even, next, pair⟩

/-- An even channel is above none. -/
theorem Exerciser.pairedUnder_even (even : c.val % 2 = 0) : e.pairedUnder c = none :=
  Exerciser.pairedUnder_eq_none fun ⟨b, below, next, _⟩ => by omega

/-! ### What a channel shows -/

theorem Exerciser.channelLevel_parked (parked : e.state ≠ .playing) (c : Fin 16) (t : Nat) :
    e.channelLevel c t = e.parkLevel c :=
  if_neg (parked ∘ (ExerState.isPlaying_iff _).mp)

theorem Exerciser.channelLevel_playing (playing : e.state = .playing) (c : Fin 16) (t : Nat) :
    e.channelLevel c t = e.playLevel c t :=
  if_pos ((ExerState.isPlaying_iff _).mpr playing)

theorem Exerciser.parkLevel_alone (alone : e.pairedUnder c = none) : e.parkLevel c = (e.channels.get c).park := by
  rw [Exerciser.parkLevel, alone]

theorem Exerciser.parkLevel_paired (paired : e.pairedUnder c = some p) :
    e.parkLevel c = (e.channels.get p).park.complement := by
  rw [Exerciser.parkLevel, paired]

theorem Exerciser.playLevel_paired (paired : e.pairedUnder c = some p) (t : Nat) :
    e.playLevel c t =
      let x := clockPhase (e.clockAge.get p) t (e.channels.get p).period
      levelOfBool (decide ((e.channels.get p).high + (e.channels.get p).dead ≤ x)
        && decide (x + (e.channels.get p).dead < (e.channels.get p).period)) := by
  rw [Exerciser.playLevel, paired]

section Alone

variable (alone : e.pairedUnder c = none)

include alone

theorem Exerciser.playLevel_vector (mode : (e.channels.get c).mode = .vector) (t : Nat) :
    e.playLevel c t = levelOfBool (e.vector.drive.getLsbD c.val) := by
  simp only [Exerciser.playLevel, alone, mode]

theorem Exerciser.playLevel_fixed (mode : (e.channels.get c).mode = .fixed) (t : Nat) :
    e.playLevel c t = levelOfBool (e.channels.get c).fixedHigh := by
  simp only [Exerciser.playLevel, alone, mode]

theorem Exerciser.playLevel_clock (mode : (e.channels.get c).mode = .clock ∨ (e.channels.get c).mode = .pair)
    (t : Nat) :
    e.playLevel c t =
      levelOfBool (decide (clockPhase (e.clockAge.get c) t (e.channels.get c).period < (e.channels.get c).high)) := by
  rcases mode with mode | mode <;> simp only [Exerciser.playLevel, alone, mode]

end Alone

/-- HIGH exactly when the test that gives the level holds. -/
theorem levelOfBool_shows {b : Bool} {high : Prop} (is : b = true ↔ high) :
    (high → levelOfBool b = .high) ∧ (¬ high → levelOfBool b = .low) :=
  ⟨fun h => if_pos (is.mpr h), fun h => if_neg (mt is.mp h)⟩

theorem levelOfBool_eq_high {b : Bool} : levelOfBool b = .high ↔ b = true := by
  cases b <;> simp [levelOfBool]

theorem clockPhase_eq {period : Nat} (runs : 1 ≤ period) (age t : Nat) :
    clockPhase age t period = (age + t) % period :=
  if_neg (Nat.one_le_iff_ne_zero.mp runs)

/-- A clock's phase past a vector end: it runs on. -/
theorem clockPhase_clockPhase (age d t period : Nat) :
    clockPhase (clockPhase age d period) t period = clockPhase age (d + t) period := by
  unfold clockPhase
  split
  · rfl
  · rw [Nat.mod_add_mod, Nat.add_assoc]

/-! ### Clocks across a vector end -/

/-- At the next vector start a channel that the vector does not drive goes on as it was. -/
theorem Exerciser.playLevel_advanceClocks (t : Nat)
    (timed : (∃ p, e.pairedUnder c = some p) ∨ (e.channels.get c).mode ≠ .vector) :
    e.advanceClocks.playLevel c t = e.playLevel c (e.vecPeriod + t) := by
  have on (p : Fin 16) : clockPhase (e.advanceClocks.clockAge.get p) t (e.channels.get p).period =
      clockPhase (e.clockAge.get p) (e.vecPeriod + t) (e.channels.get p).period := by
    rw [Exerciser.advanceClocks, Bank.get_ofFn, clockPhase_clockPhase]
  cases paired : e.pairedUnder c with
  | some p =>
    rw [Exerciser.playLevel_paired paired, Exerciser.playLevel_paired (e := e.advanceClocks) paired, ← on]
    rfl
  | none =>
    have driven : (e.channels.get c).mode ≠ .vector := timed.resolve_left (by simp [paired])
    cases mode : (e.channels.get c).mode with
    | vector => exact absurd mode driven
    | fixed =>
      rw [Exerciser.playLevel_fixed paired mode, Exerciser.playLevel_fixed (e := e.advanceClocks) paired mode]
      rfl
    | clock =>
      rw [Exerciser.playLevel_clock paired (.inl mode),
        Exerciser.playLevel_clock (e := e.advanceClocks) paired (.inl mode), ← on]
      rfl
    | pair =>
      rw [Exerciser.playLevel_clock paired (.inr mode),
        Exerciser.playLevel_clock (e := e.advanceClocks) paired (.inr mode), ← on]
      rfl

end Levels

/-- Settles O33: parked levels, played levels by mode, and the clocks across a vector end. -/
theorem stimulusLevels : Obligations.StimulusLevels := by
  unfold Obligations.StimulusLevels
  intro e c pair t lo hi above ch phase is
  have upper (mode : (e.channels.get lo).mode = .pair) : e.pairedUnder hi = some lo :=
    Exerciser.pairedUnder_eq_some.mpr ⟨⟨by simp [lo], rfl⟩, mode⟩
  have lower : e.pairedUnder lo = none := Exerciser.pairedUnder_even (by simp [lo])
  refine ⟨fun parked => ⟨fun alone => ?_, fun mode => ?_⟩, fun playing => ⟨fun alone => ?_, fun mode runs => ?_, ?_⟩⟩
  · rw [Exerciser.channelLevel_parked parked, Exerciser.parkLevel_alone (Exerciser.pairedUnder_eq_none alone)]
  · rw [Exerciser.channelLevel_parked parked, Exerciser.parkLevel_paired (upper mode)]
    cases (e.channels.get lo).park <;> rfl
  · have own := Exerciser.pairedUnder_eq_none alone
    simp only [is, Exerciser.channelLevel_playing playing]
    refine ⟨fun mode => ?_, fun mode => ?_, fun mode runs => ?_⟩
    · rw [Exerciser.playLevel_vector own mode]
      exact levelOfBool_shows Iff.rfl
    · rw [Exerciser.playLevel_fixed own mode]
      exact levelOfBool_shows Iff.rfl
    · rw [Exerciser.playLevel_clock own mode, clockPhase_eq runs]
      exact levelOfBool_shows decide_eq_true_iff
  · simp only [is, Exerciser.channelLevel_playing playing]
    rw [Exerciser.playLevel_paired (upper mode), Exerciser.playLevel_clock lower (.inr mode), clockPhase_eq runs]
    refine ⟨levelOfBool_shows (by simp [phase]), ?_⟩
    simp only [levelOfBool_eq_high, Bool.and_eq_true, decide_eq_true_eq]
    omega
  · intro timed
    rw [Exerciser.channelLevel_playing playing, Exerciser.channelLevel_playing (e := e.advanceClocks) playing]
    refine Exerciser.playLevel_advanceClocks t (timed.imp_left fun ⟨b, even, next, mode⟩ => ?_)
    exact ⟨b, Exerciser.pairedUnder_eq_some.mpr ⟨⟨even, next⟩, mode⟩⟩

end Sys2Proof.Machine
end

section
/-! The vector end within a frame (R129). -/

namespace Sys2Proof.Machine

/-! ### A vector that is not its frame's last -/

/-- R135: settings applied to play leave its marks, its holds, its stalls and what the judging goes by. -/
theorem State.applySettings_kept {s : State} (playing : s.exer.state = .playing) (x : Settings) :
    (s.applySettings x).exer.stopRequested = s.exer.stopRequested
      ∧ (s.applySettings x).exer.holdBudget = s.exer.holdBudget ∧ (s.applySettings x).exer.holdPause = s.exer.holdPause
      ∧ (s.applySettings x).exer.stalls = s.exer.stalls
      ∧ (s.applySettings x).exer.threshold = s.exer.threshold ∧ (s.applySettings x).exer.policy = s.exer.policy := by
  obtain ⟨channels, ages, -, exer⟩ := State.applySettings_exer s x (by simp [playing])
  rw [exer]
  exact ⟨rfl, rfl, rfl, rfl, rfl, rfl⟩

/-- Play standing at a vector of its frame. -/
def State.standsAt (s : State) (p : Nat) : State := s.setExer { s.exer with position := some p }

section Within

variable {s u : State} {f : FrameDesc} {p : Nat}

theorem exec_vectorEnd_idle (idle : s.exer.state ≠ .playing) : exec .vectorEnd s = .next s :=
  congrArg Host.Outcome.next (if_neg (idle ∘ (ExerState.isPlaying_iff _).mp))

theorem exec_vectorEnd_playing (playing : s.exer.state = .playing) : exec .vectorEnd s = .next s.vectorEnds :=
  congrArg Host.Outcome.next (if_pos ((ExerState.isPlaying_iff _).mpr playing))

theorem State.vectorEnds_within (applied : (s.setExer s.exer.advanceClocks).applyBoundary = u)
    (now : u.store.currentFrame = some f) (position : u.exer.position = some p) (more : p + 1 ≠ f.count)
    (playing : u.exer.state = .playing) : s.vectorEnds = (u.standsAt (p + 1)).vectorFollows := by
  simp only [State.vectorEnds, applied, now, position, more, if_false]
  exact if_pos ((ExerState.isPlaying_iff _).mpr playing)

/-- R131: a requested stop is made at whatever vector comes next. -/
theorem State.standsAt_stops (p : Nat) (stop : u.exer.stopRequested = true) :
    (u.standsAt p).vectorFollows = u.setExer (u.exer.stalledAt .stopped (some p)) :=
  State.vectorFollows_stopped (s := u.standsAt p) stop

variable (going : u.exer.stopRequested = false) (now : u.store.currentFrame = some f)

include going now

/-- R130: a hold is made at whatever vector comes next. -/
theorem State.standsAt_held (p : Nat) (holds : u.exer.holdSet = true) :
    (u.standsAt p).vectorFollows = u.setExer { u.exer with
      position := some p, state := .held, stalls := u.exer.stalls + 1, holdRequested := false, strobeDue := false } := by
  rw [State.vectorFollows_held (s := u.standsAt p) going (Store.currentFrame_spec now).2 holds,
    Exerciser.stalledAt_unstopped (e := (u.standsAt p).exer) going]
  rfl

/-- R134, R135: the vector starts with the timing then in force. -/
theorem State.standsAt_plays (p : Nat) (playing : u.exer.state = .playing) (free : u.exer.holdSet = false) :
    (u.standsAt p).vectorFollows = u.setExer { u.exer with
      position := some p, vecPeriod := u.exer.timing.period, vecOffset := u.exer.timing.offset, strobeDue := true
      vector := Memory.read u.store.memory ((f.first + p) % 8192) } := by
  have current : (u.standsAt p).store.current = some f.id := (Store.currentFrame_spec now).2
  have follows : (u.standsAt p).vectorFollows = (u.standsAt p).startVector :=
    (if_neg (Bool.eq_false_iff.mp going)).trans ((if_neg (by simp [current])).trans (if_neg (Bool.eq_false_iff.mp free)))
  rw [follows]
  simp only [State.startVector, State.standsAt, State.setExer_store, State.setExer_exer, now]
  rw [← playing]
  rfl

end Within

/-- Settles O34: the boundary settings applied, then the vector at the next position, a stop or a hold. -/
theorem vectorEndWithinAFrame : Obligations.VectorEndWithinAFrame := by
  unfold Obligations.VectorEndWithinAFrame
  intro s f p advanced
  refine ⟨exec_vectorEnd_idle, fun playing was position more => ?_⟩
  have plays : advanced.exer.state = .playing := playing
  have not_starved : advanced.exer.state ≠ .starved := by simp [plays]
  refine ⟨advanced.applySettings s.exer.boundary, advanced.applySettings_applied _ not_starved, ?_⟩
  have boundary : (s.setExer s.exer.advanceClocks).applyBoundary = advanced.applySettings s.exer.boundary := rfl
  have store := advanced.applySettings_store s.exer.boundary not_starved
  obtain ⟨going, stands, -⟩ := State.applySettings_playing plays s.exer.boundary
  obtain ⟨stop, budget, pause, stalls, -⟩ := State.applySettings_kept plays s.exer.boundary
  generalize advanced.applySettings s.exer.boundary = u at boundary store going stands stop budget pause stalls ⊢
  obtain ⟨y, framed⟩ := Store.withPlay_currentFrame was s.exer.boundary.play
  have now : u.store.currentFrame = some { f with status := y } := store ▸ framed
  have memory : u.store.memory = s.store.memory := by simp [store, advanced]
  have holds : u.exer.holdSet = (s.exer.holdBudget || s.exer.holdPause) := congrArg₂ or budget pause
  have counted : u.exer.stalls = s.exer.stalls := stalls
  rw [exec_vectorEnd_playing playing, State.vectorEnds_within boundary now (stands.trans position) more going,
    ← counted, ← memory]
  refine ⟨fun stops => ?_, fun goes held => ?_, fun goes no_budget no_pause => ?_⟩
  · rw [State.standsAt_stops _ (stop.trans stops)]
    rfl
  · rw [State.standsAt_held (stop.trans goes) now _ (holds.trans (Bool.or_eq_true_iff.mpr held))]
  · rw [State.standsAt_plays (stop.trans goes) now _ going (holds.trans (Bool.or_eq_false_iff.mpr ⟨no_budget, no_pause⟩))]

end Sys2Proof.Machine
end

section
/-! EXERCISE_STOP and EXERCISE_START, and the first READY frame taken where ids alone are known distinct (R116, R131). -/

namespace Sys2Proof.Machine

/-! ### A frame taken (R116) -/

section Taken

variable {st : Store} {g : FrameDesc}

theorem Store.syncReadEnd_eq (st : Store) :
    st.syncReadEnd = { st with readEnd := ((st.frames.head?).map FrameDesc.first).getD st.writeEnd } := by
  rw [← Store.syncReadEnd_readEnd]
  rfl

/-- R116: the whole store after a frame is taken. -/
theorem Store.take_eq (st : Store) (id : Byte) :
    st.take id =
      let put := st.frames.map fun x => if x.id = id then { x with status := .playing 0 } else x
      let kept := if st.mode = .stream then put.filter fun x => decide (x.status ≠ .tail) else put
      { st with
        frames := kept, current := some id
        readEnd := if st.mode = .stream then ((kept.head?).map FrameDesc.first).getD st.writeEnd else st.readEnd } := by
  have put : (st.setStatus id (.playing 0)).frames
      = st.frames.map fun x => if x.id = id then { x with status := .playing 0 } else x :=
    List.map_congr_left fun x _ => if_congr beq_iff_eq rfl rfl
  have kept : (st.setStatus id (.playing 0)).frames.filter (fun x => !x.status.isTail || some id == some x.id)
      = (st.setStatus id (.playing 0)).frames.filter fun x => decide (x.status ≠ .tail) := by
    refine List.filter_congr fun x hx => ?_
    obtain ⟨y, -, rfl⟩ := List.mem_map.mp hx
    by_cases same : y.id = id
    · simp [same, FrameStatus.isTail]
    · rw [Bool.eq_iff_iff]
      simp [same, Ne.symm same, ← FrameStatus.isTail_iff]
  rw [← put]
  unfold Store.take Store.freeIdleTail
  by_cases stream : st.mode = .stream
  · have mode : (st.setStatus id (.playing 0)).mode = .stream := stream
    rw [if_pos mode, Store.keepFrames, kept, Store.syncReadEnd_eq]
    simp only [if_pos stream]
    rfl
  · have mode : ¬ (st.setStatus id (.playing 0)).mode = .stream := stream
    rw [if_neg mode]
    simp only [if_neg stream]
    rfl

variable (ids : (st.frames.map (·.id)).Nodup)

theorem find_of_distinct {l : List FrameDesc} (ids : (l.map (·.id)).Nodup) {f : FrameDesc} (hf : f ∈ l) :
    l.find? (fun x => x.id == f.id) = some f := by
  cases found : l.find? (fun x => x.id == f.id) with
  | none => exact absurd (List.find?_eq_none.mp found f hf) (by simp)
  | some y =>
    have same : y.id = f.id := by simpa using List.find?_some found
    rw [List.inj_on_of_nodup_map ids (List.mem_of_find?_eq_some found) hf same]

include ids

theorem Store.take_ids (id : Byte) : ((st.take id).frames.map (·.id)).Nodup := by
  have put : ((st.frames.map (FrameDesc.restate id (.playing 0))).map (·.id)).Nodup := by
    simpa [Function.comp_def, (FrameDesc.restates id _).id] using ids
  unfold Store.take Store.freeIdleTail
  split
  · exact put.sublist (List.filter_sublist.map _)
  · exact put

theorem Store.currentFrame_taken_of_distinct (hg : g ∈ st.frames) :
    (st.take g.id).currentFrame = some { g with status := .playing 0 } := by
  have stored : { g with status := .playing 0 } ∈ (st.take g.id).frames :=
    (st.mem_take g.id _).mpr ⟨⟨g, hg, g.restate_same _⟩, fun _ _ => rfl⟩
  rw [Store.currentFrame, Store.take_current]
  exact find_of_distinct (Store.take_ids ids g.id) stored

/-- R123: of the READY frames the one taken is READY no more. -/
theorem Store.take_readyCount_of_distinct (ready : st.firstReady = some g) :
    (st.take g.id).readyCount = st.readyCount - 1 := by
  obtain ⟨hg, status⟩ := find_ready_spec ready
  obtain ⟨before, after, frames⟩ := List.append_of_mem hg
  rw [frames, List.map_append, List.map_cons] at ids
  obtain ⟨-, cons, disjoint⟩ := List.nodup_append.mp ids
  have others {l : List FrameDesc} (apart : ∀ y ∈ l, y.id ≠ g.id) :
      l.map (FrameDesc.restate g.id (.playing 0)) = l :=
    (List.map_congr_left fun y hy => FrameDesc.restate_other _ (apart y hy)).trans (List.map_id l)
  have ahead := others fun y hy => disjoint _ (List.mem_map_of_mem hy) _ List.mem_cons_self
  have behind := others fun y hy same => (List.nodup_cons.mp cons).1 (same ▸ List.mem_map_of_mem hy)
  have counted : (st.take g.id).readyCount = (st.setStatus g.id (.playing 0)).readyCount :=
    (Store.freeIdleTail_ready { st.setStatus g.id (.playing 0) with current := some g.id }).2
  have was : g.status.isReady = true := (FrameStatus.isReady_iff _).mpr status
  have no_more : (FrameStatus.playing 0).isReady = false := rfl
  rw [counted]
  simp only [Store.readyCount, Store.setStatus_eq, frames, List.map_append, List.map_cons, ahead, behind,
    FrameDesc.restate_same, List.countP_append, List.countP_cons, was, no_more, if_true, Bool.false_eq_true, if_false]
  omega

end Taken

/-! ### The first READY frame taken (R131, R132) -/

section FirstReady

variable {s : State} {g : FrameDesc}

theorem State.takeFirstReady_none (unready : s.store.firstReady = none) : s.takeFirstReady =
    (s.setExer { s.exer with
      state := .starved, position := none, stalls := s.exer.stalls + 1, holdRequested := false,
      strobeDue := false }).setNotice (s.notice.countRaise 7) := by
  rw [State.takeFirstReady, unready]
  rfl

theorem State.takeFirstReady_plays_of_distinct (ids : (s.store.frames.map (·.id)).Nodup)
    (ready : s.store.firstReady = some g) (free : s.exer.holdSet = false) :
    s.takeFirstReady = (s.takeFrame g.id).setExer { s.exer with
      state := .playing, position := some 0, clockAge := Bank.replicate 16 0, vecPeriod := s.exer.timing.period,
      vecOffset := s.exer.timing.offset, strobeDue := true,
      vector := Memory.read s.store.memory (g.first % 8192) } := by
  have frame : (s.takeFrame g.id).store.currentFrame = some { g with status := .playing 0 } := by
    rw [State.takeFrame_store]
    exact Store.currentFrame_taken_of_distinct ids (find_ready_spec ready).1
  have position : (s.takeFrame g.id).exer.position = some 0 := by rw [State.takeFrame_exer]
  have holds : ¬ (s.takeFrame g.id).exer.holdSet = true := by
    rw [State.takeFrame_exer]
    exact Bool.eq_false_iff.mp free
  rw [State.takeFirstReady_some ready, State.playOrHold, if_neg holds, State.enterPlaying_eq frame position,
    State.takeFrame_store, State.takeFrame_exer, Store.take_memory]
  rfl

end FirstReady

/-! ### The rules of EXERCISE_STOP and EXERCISE_START (R131) -/

theorem Exerciser.holdSet_iff (e : Exerciser) : e.holdSet = true ↔ e.holdBudget = true ∨ e.holdPause = true :=
  Bool.or_eq_true_iff

theorem Exerciser.holdSet_eq_false {e : Exerciser} (budget : e.holdBudget = false) (pause : e.holdPause = false) :
    e.holdSet = false :=
  Bool.or_eq_false_iff.mpr ⟨budget, pause⟩

section Rules

variable (c : Call) {s : State}

theorem handleExerciseStop_elsewhere (h : s.slot.state ≠ .running) :
    handleExerciseStop c s = s.refuse .wrongState 0 :=
  if_neg h

theorem handleExerciseStart_elsewhere (h : s.slot.state ≠ .running) :
    handleExerciseStart c s = s.refuse .wrongState 0 :=
  if_neg h

variable (running : s.slot.state = .running)

include running

theorem handleExerciseStop_static (static : s.exer.dynamic = false) : handleExerciseStop c s = s.ok := by
  rw [handleExerciseStop, if_pos running, static]
  rfl

theorem handleExerciseStart_static (static : s.exer.dynamic = false) : handleExerciseStart c s = s.ok := by
  rw [handleExerciseStart, if_pos running, static]
  rfl

theorem handleExerciseStop_dynamic (dynamic : s.exer.dynamic = true) : handleExerciseStop c s = s.stopPlay.ok := by
  rw [handleExerciseStop, if_pos running, if_pos dynamic]

theorem handleExerciseStart_dynamic (dynamic : s.exer.dynamic = true) : handleExerciseStart c s = s.startPlay.ok := by
  rw [handleExerciseStart, if_pos running, if_pos dynamic]

theorem handleExerciseStop_idle (idle : s.exer.dynamic = false ∨ s.exer.state = .stopped ∨ s.exer.state = .idle) :
    handleExerciseStop c s = s.ok := by
  cases dynamic : s.exer.dynamic with
  | false => exact handleExerciseStop_static c running dynamic
  | true =>
    rw [handleExerciseStop_dynamic c running dynamic, State.stopPlay]
    rcases idle.resolve_left (by simp [dynamic]) with state | state <;> rw [state]

theorem handleExerciseStart_idle (idle : s.exer.dynamic = false ∨ s.exer.state = .held ∨ s.exer.state = .starved
    ∨ s.exer.state = .idle) : handleExerciseStart c s = s.ok := by
  cases dynamic : s.exer.dynamic with
  | false => exact handleExerciseStart_static c running dynamic
  | true =>
    rw [handleExerciseStart_dynamic c running dynamic, State.startPlay]
    rcases idle.resolve_left (by simp [dynamic]) with state | state | state <;> rw [state]

end Rules

section Play

variable {s : State}

theorem State.stopPlay_playing (playing : s.exer.state = .playing) :
    s.stopPlay = s.setExer { s.exer with stopRequested := true } := by
  rw [State.stopPlay, playing]

theorem State.stopPlay_waiting (waiting : s.exer.state = .held ∨ s.exer.state = .starved) :
    s.stopPlay = s.enterStopped := by
  rcases waiting with state | state <;> rw [State.stopPlay, state]

theorem State.startPlay_playing (playing : s.exer.state = .playing) :
    s.startPlay = s.setExer { s.exer with stopRequested := false } := by
  rw [State.startPlay, playing]

theorem State.startPlay_anew (stopped : s.exer.state = .stopped) (none_current : s.store.current = none) :
    s.startPlay = s.takeFirstReady := by
  rw [State.startPlay, stopped]
  simp only [State.restartPlay, none_current]

variable {f : FrameDesc} (stopped : s.exer.state = .stopped) (now : s.store.currentFrame = some f)

include stopped now

/-- R131: the current frame from its vector 0, its windows empty. -/
theorem State.startPlay_again :
    s.startPlay = (s.setExer { s.exer.clearWindows with position := some 0 }).playOrHold := by
  rw [State.startPlay, stopped]
  simp only [State.restartPlay, (Store.currentFrame_spec now).2]

theorem State.startPlay_held (holds : s.exer.holdSet = true) :
    s.startPlay = s.setExer { s.exer.clearWindows with
      position := some 0, state := .held, stalls := s.exer.stalls + 1, holdRequested := false, strobeDue := false } := by
  rw [State.startPlay_again stopped now]
  exact if_pos holds

theorem State.startPlay_plays (free : s.exer.holdSet = false) :
    s.startPlay = s.setExer { s.exer.clearWindows with
      position := some 0, state := .playing, clockAge := Bank.replicate 16 0, vecPeriod := s.exer.timing.period,
      vecOffset := s.exer.timing.offset, strobeDue := true,
      vector := Memory.read s.store.memory (f.first % 8192) } := by
  rw [State.startPlay_again stopped now]
  refine (if_neg (Bool.eq_false_iff.mp free)).trans ?_
  exact State.enterPlaying_eq (s := s.setExer { s.exer.clearWindows with position := some 0 }) now rfl

end Play

/-- Settles O51: both rules by the exerciser's state, and the first READY frame taken, held or played. -/
theorem exerciseStopAndStart : Obligations.ExerciseStopAndStart := by
  unfold Obligations.ExerciseStopAndStart
  intro s q f g e stopped fresh onStop onStart
  refine ⟨fun t => ⟨fun h => exec_taken rfl t (handleExerciseStop_elsewhere _ h),
      fun running idle => exec_taken rfl t (handleExerciseStop_idle _ running idle), fun running dynamic => ?_⟩,
    fun t => ⟨fun h => exec_taken rfl t (handleExerciseStart_elsewhere _ h),
      fun running idle => exec_taken rfl t (handleExerciseStart_idle _ running idle), fun running dynamic => ?_⟩,
    State.takeFirstReady_none, fun ready ids => ?_⟩
  · have stops {u : State} (is : s.heard.stopPlay = u) : onStop u :=
      exec_taken rfl t (is ▸ handleExerciseStop_dynamic _ (s := s.heard) running dynamic)
    exact ⟨fun playing => stops (State.stopPlay_playing playing), fun waiting => stops (State.stopPlay_waiting waiting)⟩
  · have starts {u : State} (is : s.heard.startPlay = u) : onStart u :=
      exec_taken rfl t (is ▸ handleExerciseStart_dynamic _ (s := s.heard) running dynamic)
    refine ⟨fun playing => starts (State.startPlay_playing playing),
      fun state none_current => starts (State.startPlay_anew state none_current), fun state now => ⟨fun holds => ?_,
      fun budget pause => ?_⟩⟩
    · exact starts (State.startPlay_held (s := s.heard) state now ((Exerciser.holdSet_iff _).mpr holds))
    · exact starts (State.startPlay_plays (s := s.heard) state now (Exerciser.holdSet_eq_false budget pause))
  · intro put kept headFirst taken
    have takes : s.takeFrame g.id = taken.setExer { s.exer with position := some 0 } := by
      rw [State.takeFrame_eq, Store.take_readyCount_of_distinct ids ready, Store.take_eq]
      rfl
    refine ⟨fun holds => ?_, fun budget pause => ?_⟩
    · rw [State.takeFirstReady_held ready ((Exerciser.holdSet_iff _).mpr holds), takes]
      rfl
    · rw [State.takeFirstReady_plays_of_distinct ids ready (Exerciser.holdSet_eq_false budget pause), takes]
      rfl

end Sys2Proof.Machine
end

section
/-! The judging of a checked pass (R138, R139), socket by socket: what one socket's turn makes of the records, and what it
leaves the others. -/

namespace Sys2Proof.Machine

/-! ### Recorder and notices, but for the classes of a run end and of the store -/

/-- Notices that agree but for the classes C0 and C7. -/
structure Notices.Alike (n m : Notices) : Prop where
  capture : m.capture = n.capture
  classes : ∀ c, c ≠ 0 → c ≠ 7 → m.classes.get c = n.classes.get c

/-- Parts whose recorders are one and whose notices agree but for C0 and C7. -/
structure State.RecordsAlike (s t : State) : Prop where
  fail : t.fail = s.fail
  stamp : t.credit.accumulated = s.credit.accumulated
  notice : s.notice.Alike t.notice

section Records

variable {n m l : Notices} {s t u : State}

theorem Notices.Alike.refl (n : Notices) : n.Alike n := ⟨rfl, fun _ _ _ => rfl⟩

theorem Notices.Alike.trans (h : n.Alike m) (h' : m.Alike l) : n.Alike l :=
  ⟨h'.capture.trans h.capture, fun c run store => (h'.classes c run store).trans (h.classes c run store)⟩

/-- One class raised in both. -/
theorem Notices.Alike.raise (h : n.Alike m) (c : Fin 12) : (n.countRaise c).Alike (m.countRaise c) where
  capture := by simpa using h.capture
  classes d run store := by
    have silenced : m.silenced c = n.silenced c := by rw [Notices.silenced, Notices.silenced, h.capture]
    rw [Notices.countRaise_get, Notices.countRaise_get, h.classes d run store, silenced]
    by_cases same : c = d
    · rw [same, h.classes d run store]
    · rw [if_neg fun raised => same raised.1, if_neg fun raised => same raised.1]

/-- A class raised that is C0 or C7. -/
theorem Notices.Alike.raised (n : Notices) {c : Fin 12} (either : c = 0 ∨ c = 7) : n.Alike (n.countRaise c) where
  capture := Notices.countRaise_capture n c
  classes d run store := by
    rw [Notices.countRaise_get, if_neg]
    rintro ⟨rfl, -⟩
    exact either.elim run store

namespace State.RecordsAlike

theorem of_eq (fail : t.fail = s.fail := by rfl) (credit : t.credit = s.credit := by rfl)
    (notice : t.notice = s.notice := by rfl) : s.RecordsAlike t :=
  ⟨fail, congrArg _ credit, notice ▸ .refl _⟩

theorem refl (s : State) : s.RecordsAlike s := .of_eq

theorem trans (h : s.RecordsAlike t) (h' : t.RecordsAlike u) : s.RecordsAlike u :=
  ⟨h'.fail.trans h.fail, h'.stamp.trans h.stamp, h.notice.trans h'.notice⟩

theorem notify (h : s.RecordsAlike t) (c : Fin 12) (x : Source) : (s.notify c x).RecordsAlike (t.notify c x) :=
  ⟨h.fail, h.stamp, h.notice.raise c⟩

theorem logFailure (h : s.RecordsAlike t) (x : FailureKind) (k : Option (Fin 48)) (u : Option Nat) (d : Word16) :
    (s.logFailure x k u d).RecordsAlike (t.logFailure x k u d) where
  fail := by rw [State.logFailure_fail, State.logFailure_fail, h.fail, h.stamp]
  stamp := by simpa using h.stamp
  notice := by
    rw [State.logFailure_notice, State.logFailure_notice, h.fail]
    split
    · exact h.notice.raise 10
    · exact h.notice

theorem enterDraining (s : State) (c : EndCause) : s.RecordsAlike (s.enterDraining c) where
  fail := State.enterDraining_fail s c
  stamp := by rw [State.enterDraining_credit]; rfl
  notice := by
    rw [State.enterDraining_notice]
    exact (Notices.Alike.raised _ (.inl rfl)).trans (.raised _ (.inl rfl))

end State.RecordsAlike

end Records

/-! ### What the judging says of a socket -/

/-- R138: the socket's window reaches the functional threshold. -/
abbrev Exerciser.fails (e : Exerciser) (k : Fin 48) : Prop := e.threshold ≤ (e.compare.get k).windowCount

/-- R138, R139: the entries and notices of a socket's turn, as the compare records stand in `e`. -/
def Exerciser.tells (e : Exerciser) (v : State) (k : Fin 48) : State :=
  let v1 := if e.fails k ∧ (e.compare.get k).logged = false then
      (v.logFailure .functional (some k) none (BitVec.ofNat 16 ((e.compare.get k).firstMismatch.getD 0))).notify 3 .a
    else v
  if e.fails k ∧ e.policy = .retire then (v1.logFailure .retired (some k) none 2).notify 2 .a else v1

/-- R138: a compare record after its socket's turn, its window aside. -/
def CompareRec.judged (r : CompareRec) (threshold : Nat) : CompareRec :=
  if threshold ≤ r.windowCount then { r with functionalFails := satInc 255 r.functionalFails, logged := true } else r

/-- R139: the socket is out for its functional failures. -/
def State.Out (s : State) (k : Fin 48) : Prop :=
  (s.sock.sockets.get k).state = .retired ∧ (s.sock.sockets.get k).cause = some .functional
    ∧ (s.sock.sockets.get k).switchClosed = false

/-- R137: only a powered socket has a window to judge, and an empty window reaches no threshold. -/
structure State.WindowsSound (s : State) : Prop where
  unpowered : ∀ k, (s.sock.sockets.get k).state.powered = false → (s.exer.compare.get k).windowCount = 0
  threshold : 1 ≤ s.exer.threshold

/-- Play goes on, or its windows are empty. -/
def State.Rests (s : State) : Prop :=
  s.exer.state = .playing ∨ ∀ k, (s.exer.compare.get k).clearWindow = s.exer.compare.get k

/-- A socket's compare record is as it was, or its window, not at the threshold, is emptied. -/
def Exerciser.SameWindow (e e' : Exerciser) (k : Fin 48) : Prop :=
  e'.compare.get k = e.compare.get k ∨ (¬ e.fails k ∧ e'.compare.get k = (e.compare.get k).clearWindow)

theorem Exerciser.tells_alike {v w : State} (alike : v.RecordsAlike w) (e : Exerciser) (k : Fin 48) :
    (e.tells v k).RecordsAlike (e.tells w k) := by
  have logs : (if e.fails k ∧ (e.compare.get k).logged = false then (v.logFailure .functional (some k) none
        (BitVec.ofNat 16 ((e.compare.get k).firstMismatch.getD 0))).notify 3 .a else v).RecordsAlike
      (if e.fails k ∧ (e.compare.get k).logged = false then (w.logFailure .functional (some k) none
        (BitVec.ofNat 16 ((e.compare.get k).firstMismatch.getD 0))).notify 3 .a else w) := by
    split
    · exact (alike.logFailure _ _ _ _).notify _ _
    · exact alike
  unfold Exerciser.tells
  dsimp only
  split
  · exact (logs.logFailure _ _ _ _).notify _ _
  · exact logs

theorem Exerciser.tells_passes {e : Exerciser} {k : Fin 48} (passes : ¬ e.fails k) (v : State) : e.tells v k = v := by
  unfold Exerciser.tells
  rw [if_neg fun h => passes h.1, if_neg fun h => passes h.1]

/-- R138: the entry of a first failure in the run. -/
def Exerciser.logs (e : Exerciser) (v : State) (k : Fin 48) : State :=
  if (e.compare.get k).logged = false then
    (v.logFailure .functional (some k) none (BitVec.ofNat 16 ((e.compare.get k).firstMismatch.getD 0))).notify 3 .a
  else v

theorem Exerciser.tells_fails {e : Exerciser} {k : Fin 48} (fails : e.fails k) (v : State) :
    e.tells v k =
      if e.policy = .retire then ((e.logs v k).logFailure .retired (some k) none 2).notify 2 .a else e.logs v k := by
  unfold Exerciser.tells Exerciser.logs
  simp only [fails, true_and]

theorem CompareRec.judged_fails {r : CompareRec} {threshold : Nat} (fails : threshold ≤ r.windowCount) :
    r.judged threshold = { r with functionalFails := satInc 255 r.functionalFails, logged := true } :=
  if_pos fails

theorem CompareRec.judged_passes {r : CompareRec} {threshold : Nat} (passes : ¬ threshold ≤ r.windowCount) :
    r.judged threshold = r :=
  if_neg passes

theorem CompareRec.clearWindow_twice (r : CompareRec) : r.clearWindow.clearWindow = r.clearWindow := rfl

/-- R137: a failing socket is powered. -/
theorem State.WindowsSound.powered {s : State} (sound : s.WindowsSound) {k : Fin 48} (fails : s.exer.fails k) :
    (s.sock.sockets.get k).state.powered = true :=
  Bool.eq_true_of_not_eq_false fun off => by
    have positive := sound.threshold.trans fails
    rw [sound.unpowered k off] at positive
    exact absurd positive (Nat.not_succ_le_zero 0)

namespace Exerciser.SameWindow

variable {e e' : Exerciser} {k : Fin 48} (same : e.SameWindow e' k)

include same

theorem clearWindow : (e'.compare.get k).clearWindow = (e.compare.get k).clearWindow := by
  rcases same with same | ⟨-, same⟩
  · rw [same]
  · rw [same, CompareRec.clearWindow_twice]

theorem of_fails (fails : e.fails k) : e'.compare.get k = e.compare.get k :=
  same.resolve_right fun h => h.1 fails

variable (threshold : e'.threshold = e.threshold) (positive : 1 ≤ e.threshold)

include threshold positive

theorem fails_iff : e'.fails k ↔ e.fails k := by
  rcases same with same | ⟨passes, same⟩
  · rw [Exerciser.fails, same, threshold]
  · refine iff_of_false (fun fails => ?_) passes
    rw [Exerciser.fails, same, threshold] at fails
    exact absurd (positive.trans fails) (Nat.not_succ_le_zero 0)

theorem judged : ((e'.compare.get k).judged e'.threshold).clearWindow
    = ((e.compare.get k).judged e.threshold).clearWindow := by
  by_cases fails : e.fails k
  · rw [same.of_fails fails, threshold]
  · rw [CompareRec.judged_passes fails, CompareRec.judged_passes (mt (same.fails_iff threshold positive).mp fails),
      same.clearWindow]

theorem tells (policy : e'.policy = e.policy) (v : State) : e'.tells v k = e.tells v k := by
  by_cases fails : e.fails k
  · unfold Exerciser.tells Exerciser.fails
    rw [same.of_fails fails, threshold, policy]
  · rw [Exerciser.tells_passes fails, Exerciser.tells_passes (mt (same.fails_iff threshold positive).mp fails)]

end Exerciser.SameWindow

/-! ### One socket's turn -/

/-- What a turn of the judging does: to its own socket, to the others and to the part. -/
structure State.SocketJudged (s t : State) (k : Fin 48) : Prop where
  sound : t.WindowsSound
  threshold : t.exer.threshold = s.exer.threshold
  policy : t.exer.policy = s.exer.policy
  own : (t.exer.compare.get k).clearWindow = ((s.exer.compare.get k).judged s.exer.threshold).clearWindow
  others : ∀ j, j ≠ k → s.exer.SameWindow t.exer j
  out : s.exer.policy = .retire → s.exer.fails k → t.Out k
  stays : ∀ j, s.Out j → t.Out j
  kept : s.exer.policy = .keep → t.sock = s.sock ∧ t.slot = s.slot
  told : (s.exer.tells s k).RecordsAlike t
  rests : s.Rests → t.Rests

/-- R128: the entry to DRAINING empties every window and leaves what the judging goes by. -/
theorem State.enterDraining_judging (s : State) (c : EndCause) :
    (∀ j, (s.enterDraining c).exer.compare.get j = (s.exer.compare.get j).clearWindow)
      ∧ (s.enterDraining c).exer.policy = s.exer.policy ∧ (s.enterDraining c).exer.threshold = s.exer.threshold := by
  obtain ⟨-, -, -, -, -, -, -, -, -, -, -, -, -, -, -, cleared, -, -, -, -, policy, threshold, -⟩ :=
    s.enterDraining_quiesced c
  exact ⟨cleared, policy, threshold⟩

section Turn

variable {s : State} {k : Fin 48}

/-- A window below the threshold is not judged. -/
theorem State.SocketJudged.passes (sound : s.WindowsSound) (passes : ¬ s.exer.fails k) : s.SocketJudged s k where
  sound := sound
  threshold := rfl
  policy := rfl
  own := by rw [CompareRec.judged_passes passes]
  others _ _ := .inl rfl
  out _ fails := absurd fails passes
  stays _ out := out
  kept _ := ⟨rfl, rfl⟩
  told := by rw [Exerciser.tells_passes passes]; exact .refl s
  rests rests := rests

/-- R138: a functional failure counted, and logged once a run. -/
def State.counted (s : State) (k : Fin 48) : State :=
  (s.modCompare k fun x => { x with functionalFails := satInc 255 x.functionalFails }).logFunctional k

theorem State.counted_get (s : State) (k j : Fin 48) :
    (s.counted k).exer.compare.get j =
      if k = j then { s.exer.compare.get j with
        functionalFails := satInc 255 (s.exer.compare.get j).functionalFails, logged := true }
      else s.exer.compare.get j := by
  unfold State.counted State.logFunctional
  dsimp only
  split
  · next logged =>
    rw [State.modCompare_get] at logged ⊢
    split
    · next same =>
      subst same
      rw [if_pos rfl] at logged
      rw [← logged]
    · rfl
  · rw [State.modCompare_get, State.notify_exer, State.logFailure_exer, State.modCompare_get]
    split <;> rfl

theorem State.counted_frame (s : State) (k : Fin 48) :
    (s.counted k).sock = s.sock ∧ (s.counted k).slot = s.slot
      ∧ (s.counted k).exer = { s.exer with compare := (s.counted k).exer.compare } := by
  unfold State.counted State.logFunctional
  dsimp only
  split
  · exact ⟨rfl, rfl, rfl⟩
  · refine ⟨by simp, by simp, ?_⟩
    simp [State.modCompare]

theorem State.counted_records (s : State) (k : Fin 48) : (s.exer.logs s k).RecordsAlike (s.counted k) := by
  have record : (s.modCompare k fun x => { x with functionalFails := satInc 255 x.functionalFails }).exer.compare.get k
      = { s.exer.compare.get k with functionalFails := satInc 255 (s.exer.compare.get k).functionalFails } := by simp
  unfold State.counted State.logFunctional Exerciser.logs
  dsimp only
  rw [record]
  cases (s.exer.compare.get k).logged with
  | true => exact .of_eq
  | false =>
    have moved : s.RecordsAlike (s.modCompare k fun x => { x with functionalFails := satInc 255 x.functionalFails }) :=
      .of_eq
    exact ((moved.logFailure _ _ _ _).notify 3 .a).trans .of_eq

section Retired

variable (powered : (s.sock.sockets.get k).state.powered = true) (cause : RetireCause)

include powered in
theorem State.retired_exer :
    (s.retired k cause).exer =
      { s.exer with compare := s.exer.compare.set k (s.exer.compare.get k).clearWindow } := by
  simp only [State.retired, State.notify_exer, State.logFailure_exer, State.left, State.setExer_exer]
  exact if_pos ((SocketState.powered_iff _).mp powered)

theorem State.retired_get (s : State) (k : Fin 48) (cause : RetireCause) (j : Fin 48) :
    (s.retired k cause).sock.sockets.get j =
      if k = j then (s.sock.sockets.get k).retired cause else s.sock.sockets.get j := by
  simp only [State.retired, State.notify_sock, State.logFailure_sock, State.left_sock]
  exact Bank.get_set _ _ _ _

theorem State.retired_records (s : State) (k : Fin 48) (cause : RetireCause) :
    ((s.logFailure .retired (some k) none (BitVec.ofNat 16 cause.code)).notify 2 .a).RecordsAlike (s.retired k cause) :=
  have left : s.RecordsAlike (s.left k ((s.sock.sockets.get k).retired cause)) := .of_eq
  (left.logFailure _ _ _ _).notify 2 .a

theorem State.out_of_retired {t : State} (r : SocketRec) (powered : r.state.powered = true)
    (is : t.sock.sockets.get k = r.retired .functional) : t.Out k := by
  rw [State.Out, is, SocketRec.retired, SocketRec.depart, if_pos powered]
  exact ⟨rfl, rfl, rfl⟩

end Retired

variable (sound : s.WindowsSound) (fails : s.exer.fails k)

include sound fails

/-- Only a window in play can fail. -/
theorem State.Rests.plays (rests : s.Rests) : s.exer.state = .playing :=
  rests.resolve_right fun clear => by
    have positive := sound.threshold.trans fails
    rw [← clear k] at positive
    exact absurd positive (Nat.not_succ_le_zero 0)

/-- R138: under KEEP the failure is counted. -/
theorem State.SocketJudged.counted (keep : s.exer.policy = .keep) : s.SocketJudged (s.counted k) k := by
  obtain ⟨sock, slot, exer⟩ := s.counted_frame k
  have record := s.counted_get k
  have told : s.exer.tells s k = s.exer.logs s k := by rw [Exerciser.tells_fails fails, if_neg (by simp [keep])]
  exact {
    sound := ⟨fun j off => by
      rw [sock] at off
      rw [record, ← sound.unpowered j off]
      split <;> rfl, by rw [exer]; exact sound.threshold⟩
    threshold := by rw [exer]
    policy := by rw [exer]
    own := by rw [record, if_pos rfl, CompareRec.judged_fails fails]
    others := fun j other => .inl (by rw [record, if_neg other.symm])
    out := fun retire => absurd (keep.symm.trans retire) nofun
    stays := fun j out => by rw [State.Out, sock]; exact out
    kept := fun _ => ⟨sock, slot⟩
    told := told ▸ s.counted_records k
    rests := fun rests => .inl (by rw [exer]; exact rests.plays sound fails) }

/-- R139: under RETIRE the socket is retired too; the run's end is not yet judged. -/
theorem State.SocketJudged.retired (retire : s.exer.policy = .retire) :
    s.SocketJudged ((s.counted k).retired k .functional) k := by
  obtain ⟨sock, slot, counted⟩ := s.counted_frame k
  have powered : ((s.counted k).sock.sockets.get k).state.powered = true := by rw [sock]; exact sound.powered fails
  have exer := State.retired_exer powered .functional
  have socket := (s.counted k).retired_get k .functional
  have record (j : Fin 48) : ((s.counted k).retired k .functional).exer.compare.get j =
      if k = j then { s.exer.compare.get j with
        functionalFails := satInc 255 (s.exer.compare.get j).functionalFails, logged := true }.clearWindow
      else s.exer.compare.get j := by
    rw [exer, Bank.get_set, s.counted_get, s.counted_get, if_pos rfl]
    split
    · next same => rw [same]
    · rfl
  have out : ((s.counted k).retired k .functional).Out k :=
    State.out_of_retired _ powered ((socket k).trans (if_pos rfl))
  have told : s.exer.tells s k = ((s.exer.logs s k).logFailure .retired (some k) none 2).notify 2 .a := by
    rw [Exerciser.tells_fails fails, if_pos retire]
  exact {
    sound := ⟨fun j off => by
      rw [record]
      split
      · rfl
      · next other =>
        rw [socket, if_neg other, sock] at off
        exact sound.unpowered j off, by rw [exer, counted]; exact sound.threshold⟩
    threshold := by rw [exer, counted]
    policy := by rw [exer, counted]
    own := by rw [record, if_pos rfl, CompareRec.judged_fails fails, CompareRec.clearWindow_twice]
    others := fun j other => .inl (by rw [record, if_neg other.symm])
    out := fun _ _ => out
    stays := fun j was => by
      by_cases same : k = j
      · exact same ▸ out
      · rw [State.Out, socket, if_neg same, sock]
        exact was
    kept := fun keep => absurd (keep.symm.trans retire) nofun
    told := by
      rw [told]
      exact (((s.counted_records k).logFailure _ _ _ _).notify 2 .a).trans ((s.counted k).retired_records k .functional)
    rests := fun rests => .inl (by rw [exer, counted]; exact rests.plays sound fails) }

omit sound fails in
/-- R16, R139: a run end finds no socket left to judge, so what it empties below the threshold is all that it moves. -/
theorem State.SocketJudged.checkRunEnd (retire : s.exer.policy = .retire) {t : State} (judged : s.SocketJudged t k) :
    s.SocketJudged t.checkRunEnd k := by
  unfold State.checkRunEnd
  split
  · next ends =>
    obtain ⟨-, final⟩ := (Bool.and_eq_true _ _).mp ends
    have unpowered (j : Fin 48) : (t.sock.sockets.get j).state.powered = false := by
      rcases (State.allFinal_iff t).mp final j with state | state | state <;> rw [state] <;> rfl
    obtain ⟨clear, policy, threshold⟩ := t.enterDraining_judging .complete
    have ended (j : Fin 48) : (t.enterDraining .complete).sock.sockets.get j = (t.sock.sockets.get j).endRun := by
      rw [State.enterDraining_sock, Bank.get_map]
    have stays (j : Fin 48) (out : t.Out j) : (t.enterDraining .complete).Out j := by
      obtain ⟨state, cause, -⟩ := out
      rw [State.Out, ended, SocketRec.endRun_eq]
      simp [state, cause]
    exact {
      sound := ⟨fun j _ => by rw [clear]; rfl, threshold.symm ▸ judged.sound.threshold⟩
      threshold := threshold.trans judged.threshold
      policy := policy.trans judged.policy
      own := by rw [clear, CompareRec.clearWindow_twice, judged.own]
      others := fun j other => .inr ⟨fun fails => by
        have same := (judged.others j other).of_fails fails
        have lasts : t.exer.fails j := by rw [Exerciser.fails, same, judged.threshold]; exact fails
        exact Bool.false_ne_true ((unpowered j).symm.trans (judged.sound.powered lasts)),
        by rw [clear, (judged.others j other).clearWindow]⟩
      out := fun _ fails => stays k (judged.out retire fails)
      stays := fun j out => stays j (judged.stays j out)
      kept := fun keep => absurd (keep.symm.trans retire) nofun
      told := judged.told.trans (.enterDraining t .complete)
      rests := fun _ => .inr fun j => by rw [clear, CompareRec.clearWindow_twice] }
  · exact judged

omit fails in
/-- A socket's turn, whatever its window. -/
theorem State.judgeSocket_judged (k : Fin 48) : s.SocketJudged (s.judgeSocket k) k := by
  unfold State.judgeSocket
  split
  · next fails =>
    cases policy : s.exer.policy with
    | keep => exact .counted sound fails policy
    | retire =>
      have retires := State.SocketJudged.checkRunEnd policy (.retired sound fails policy)
      rw [← State.retire_eq] at retires
      exact retires
  · next passes => exact .passes sound passes

end Turn

end Sys2Proof.Machine
end

section
/-! A checked pass judged as a whole (R138, R139), and what the rest of the vector end leaves of it (R129). -/

namespace Sys2Proof.Machine

/-! ### Every socket in its turn -/

/-- What the judging of the sockets in a list does. -/
structure State.SocketsJudged (s t : State) (l : List (Fin 48)) : Prop where
  windows : ∀ k, (t.exer.compare.get k).clearWindow =
    (if k ∈ l then (s.exer.compare.get k).judged s.exer.threshold else s.exer.compare.get k).clearWindow
  out : s.exer.policy = .retire → ∀ k ∈ l, s.exer.fails k → t.Out k
  stays : ∀ k, s.Out k → t.Out k
  kept : s.exer.policy = .keep → t.sock = s.sock ∧ t.slot = s.slot
  told : ∀ w, w.RecordsAlike s → (l.foldl s.exer.tells w).RecordsAlike t
  rests : s.Rests → t.Rests

theorem State.SocketsJudged.nil (s : State) : s.SocketsJudged s [] where
  windows _ := rfl
  out _ _ member := absurd member List.not_mem_nil
  stays _ out := out
  kept _ := ⟨rfl, rfl⟩
  told _ alike := alike
  rests rests := rests

/-- A turn taken first leaves the other sockets' turns as they were. -/
theorem State.SocketsJudged.cons {s t u : State} {k : Fin 48} {l : List (Fin 48)} (fresh : k ∉ l)
    (positive : 1 ≤ s.exer.threshold) (turn : s.SocketJudged t k) (rest : t.SocketsJudged u l) :
    s.SocketsJudged u (k :: l) where
  windows j := by
    rw [rest.windows]
    by_cases same : j = k
    · rw [same, if_neg fresh, if_pos List.mem_cons_self, turn.own]
    · have alone := turn.others j same
      by_cases later : j ∈ l
      · rw [if_pos later, if_pos (List.mem_cons_of_mem _ later), alone.judged turn.threshold positive]
      · rw [if_neg later, if_neg (List.not_mem_cons_of_ne_of_not_mem same later), alone.clearWindow]
  out retire j member fails := by
    by_cases same : j = k
    · exact rest.stays j (same ▸ turn.out retire (same ▸ fails))
    · refine rest.out (turn.policy.trans retire) j ((List.mem_cons.mp member).resolve_left same) ?_
      exact ((turn.others j same).fails_iff turn.threshold positive).mpr fails
  stays j out := rest.stays j (turn.stays j out)
  kept keep := by
    obtain ⟨sock, slot⟩ := turn.kept keep
    obtain ⟨sock', slot'⟩ := rest.kept (turn.policy.trans keep)
    exact ⟨sock'.trans sock, slot'.trans slot⟩
  told w alike := by
    have same : l.foldl s.exer.tells (s.exer.tells w k) = l.foldl t.exer.tells (s.exer.tells w k) :=
      List.foldl_ext _ _ _ fun v j member =>
        ((turn.others j fun is => fresh (is ▸ member)).tells turn.threshold positive turn.policy v).symm
    rw [List.foldl_cons, same]
    exact rest.told _ ((Exerciser.tells_alike alike s.exer k).trans turn.told)
  rests rests := rest.rests (turn.rests rests)

theorem State.foldl_judgeSocket {l : List (Fin 48)} (once : l.Nodup) {s : State} (sound : s.WindowsSound) :
    s.SocketsJudged (l.foldl State.judgeSocket s) l := by
  induction l generalizing s with
  | nil => exact .nil s
  | cons k l ih =>
    obtain ⟨fresh, rest⟩ := List.nodup_cons.mp once
    have turn := State.judgeSocket_judged sound k
    exact .cons fresh sound.threshold turn (ih rest turn.sound)

theorem State.judgePass_judged {s : State} (sound : s.WindowsSound) :
    s.SocketsJudged s.judgePass (List.finRange 48) :=
  State.foldl_judgeSocket (List.nodup_finRange 48) sound

/-! ### The rest of the vector end -/

/-- What play's own moves leave as they are: sockets, slot, compare records, recorder and all classes but C0 and C7. -/
structure State.PlaysOn (s t : State) : Prop where
  sock : t.sock = s.sock
  slot : t.slot = s.slot
  compare : t.exer.compare = s.exer.compare
  records : s.RecordsAlike t

section PlaysOn

variable {s t u : State}

namespace State.PlaysOn

theorem of_eq (sock : t.sock = s.sock := by rfl) (slot : t.slot = s.slot := by rfl)
    (compare : t.exer.compare = s.exer.compare := by rfl) (fail : t.fail = s.fail := by rfl)
    (credit : t.credit = s.credit := by rfl) (notice : t.notice = s.notice := by rfl) : s.PlaysOn t :=
  ⟨sock, slot, compare, .of_eq fail credit notice⟩

theorem refl (s : State) : s.PlaysOn s := .of_eq

theorem trans (h : s.PlaysOn t) (h' : t.PlaysOn u) : s.PlaysOn u :=
  ⟨h'.sock.trans h.sock, h'.slot.trans h.slot, h'.compare.trans h.compare, h.records.trans h'.records⟩

/-- R123, R132: the class of the store raised. -/
theorem raise_store (s : State) (x : Source) : s.PlaysOn (s.notify 7 x) :=
  ⟨rfl, rfl, rfl, rfl, rfl, .raised _ (.inr rfl)⟩

theorem lowWater (s : State) (before : Nat) : s.PlaysOn (s.lowWater before) := by
  unfold State.lowWater
  split
  · exact raise_store s .a
  · exact refl s

theorem takeFrame (s : State) (st : Store) (id : Byte) : s.PlaysOn ((s.setStore st).takeFrame id) :=
  .trans .of_eq (.lowWater _ _)

theorem streamEnd (s : State) (f : FrameDesc) : s.PlaysOn (s.streamEnd f) := by
  unfold State.streamEnd
  split
  · exact takeFrame s _ _
  · exact .of_eq

theorem loopEnd (s : State) (f : FrameDesc) : s.PlaysOn (s.loopEnd f) := by
  unfold State.loopEnd
  dsimp only
  split
  · exact takeFrame s _ _
  · exact .of_eq

theorem tailEnd (s : State) (f : FrameDesc) : s.PlaysOn (s.tailEnd f) := by
  unfold State.tailEnd
  split
  · exact takeFrame s _ _
  · split
    · exact .of_eq
    · exact refl s

theorem storePassEnd (s : State) (wasTail : Bool) : s.PlaysOn (s.storePassEnd wasTail) := by
  unfold State.storePassEnd
  split
  · exact refl s
  · next f _ =>
    split
    · split
      · exact refl s
      · split
        · split
          · exact streamEnd s f
          · exact loopEnd s f
        · exact .of_eq
    · exact tailEnd s f
    · exact refl s

theorem startVector (s : State) : s.PlaysOn s.startVector := by
  unfold State.startVector
  split
  · exact .of_eq
  · exact refl s

theorem vectorFollows (s : State) : s.PlaysOn s.vectorFollows := by
  unfold State.vectorFollows
  split
  · exact .of_eq
  · split
    · exact .trans .of_eq (raise_store _ .b)
    · split
      · exact .of_eq
      · exact startVector s

theorem passTurns (s : State) (wasTail : Bool) : s.PlaysOn (s.passTurns wasTail) :=
  (storePassEnd s wasTail).trans (.trans .of_eq (vectorFollows _))

/-- R135, R123: settings applied to play. -/
theorem applySettings (x : Settings) (awake : s.exer.state ≠ .starved) : s.PlaysOn (s.applySettings x) where
  sock := State.applySettings_sock s x
  slot := State.applySettings_slot s x
  compare := by
    obtain ⟨channels, ages, -, exer⟩ := State.applySettings_exer s x awake
    rw [exer]
  records := by
    refine ⟨State.applySettings_fail s x, congrArg _ (State.applySettings_credit s x), ?_⟩
    obtain ⟨-, -, -, unplayed, played, -⟩ := s.applySettings_applied x awake
    cases play : x.play with
    | none =>
      rw [(unplayed play).2]
      exact .refl _
    | some p =>
      rw [(played p play).2.2]
      split
      · exact .raised _ (.inr rfl)
      · exact .refl _

end State.PlaysOn

end PlaysOn

/-- Play goes on from a judged pass with its windows empty, as it stands empty where the run has ended. -/
theorem State.vectorEnds_judged {s u : State} {f : FrameDesc} {p : Nat}
    (applied : (s.setExer s.exer.advanceClocks).applyBoundary = u) (now : u.store.currentFrame = some f)
    (position : u.exer.position = some p) (last : p + 1 = f.count) (checked : f.checked = true)
    (rests : u.judgePass.Rests) :
    s.vectorEnds.sock = u.judgePass.sock ∧ s.vectorEnds.slot = u.judgePass.slot
      ∧ (∀ k, s.vectorEnds.exer.compare.get k = (u.judgePass.exer.compare.get k).clearWindow)
      ∧ u.judgePass.RecordsAlike s.vectorEnds := by
  have is : (if f.checked = true then u.judgePass else u) = u.judgePass := if_pos checked
  have ends (halted : u.judgePass.exer.state ≠ .playing) : u.passEnd f.checked s.store.currentIsTail = u.judgePass :=
    (State.passEnd_over (is.symm ▸ halted) _).trans is
  have turns := State.passEnd_playing is (wasTail := s.store.currentIsTail)
  rw [State.vectorEnds_last applied now position last]
  generalize u.judgePass = judged at rests is ends turns ⊢
  by_cases playing : judged.exer.state = .playing
  · obtain ⟨follows, state⟩ := turns playing
    have awake : (judged.cleared f.checked).exer.state ≠ .starved := playing.trans_ne nofun
    have goes := (State.PlaysOn.applySettings judged.exer.staged awake).trans (.passTurns _ s.store.currentIsTail)
    have still : ((judged.cleared f.checked).applySettings judged.exer.staged).exer.state = .playing :=
      (State.applySettings_playing (s := judged.cleared f.checked) playing _).1
    rw [state, State.storePassEnd_exerState, if_pos ((ExerState.isPlaying_iff _).mpr still), follows]
    refine ⟨goes.sock, goes.slot, fun k => ?_, State.RecordsAlike.trans .of_eq goes.records⟩
    rw [goes.compare, State.cleared, checked]
    exact Bank.get_map _ _ k
  · rw [ends playing, if_neg (playing ∘ (ExerState.isPlaying_iff _).mp)]
    exact ⟨rfl, rfl, fun k => ((rests.resolve_left playing) k).symm, .refl _⟩

theorem Exerciser.tells_congr {e e' : Exerciser} (compare : e'.compare = e.compare)
    (threshold : e'.threshold = e.threshold) (policy : e'.policy = e.policy) : e'.tells = e.tells := by
  unfold Exerciser.tells Exerciser.fails
  rw [compare, threshold, policy]

/-- No socket at the threshold, nothing is told. -/
theorem Exerciser.foldl_tells_passes {e : Exerciser} (passes : ∀ k, ¬ e.fails k) (l : List (Fin 48)) (s : State) :
    l.foldl e.tells s = s := by
  induction l with
  | nil => rfl
  | cons k l ih => rw [List.foldl_cons, Exerciser.tells_passes (passes k), ih]

theorem CompareRec.clearWindow_judged (r : CompareRec) (threshold : Nat) :
    (r.judged threshold).clearWindow = { r with
      windowCount := 0, firstMismatch := none
      functionalFails := if threshold ≤ r.windowCount then min 255 (r.functionalFails + 1) else r.functionalFails
      logged := if threshold ≤ r.windowCount then true else r.logged } := by
  unfold CompareRec.judged
  split <;> rfl

/-- Settles O36: the boundary settings leave what is judged, the judging socket by socket, then play's own moves. -/
theorem checkedPassIsJudged : Obligations.CheckedPassIsJudged := by
  unfold Obligations.CheckedPassIsJudged
  intro s f p law running playing was checked position last old fails entered told
  let advanced := s.setExer { s.exer.advanceClocks with boundary := Settings.empty }
  have going : advanced.exer.state = .playing := playing
  have awake : advanced.exer.state ≠ .starved := going.trans_ne nofun
  have boundary : (s.setExer s.exer.advanceClocks).applyBoundary = advanced.applySettings s.exer.boundary := rfl
  have carried : s.PlaysOn (advanced.applySettings s.exer.boundary) :=
    .trans (t := advanced) .of_eq (.applySettings _ awake)
  have store := advanced.applySettings_store s.exer.boundary awake
  obtain ⟨plays, stands, -⟩ := State.applySettings_playing going s.exer.boundary
  obtain ⟨-, -, -, -, threshold, policy⟩ := State.applySettings_kept going s.exer.boundary
  generalize advanced.applySettings s.exer.boundary = u at boundary carried store stands plays threshold policy
  obtain ⟨y, framed⟩ := Store.withPlay_currentFrame was s.exer.boundary.play
  have now : u.store.currentFrame = some { f with status := y } := store ▸ framed
  have sound : u.WindowsSound := by
    obtain ⟨unpowered, positive⟩ := law
    refine ⟨fun k off => ?_, threshold ▸ positive (by rw [running]; rfl)⟩
    rw [carried.sock] at off
    rw [carried.compare]
    exact unpowered k off
  have judged := State.judgePass_judged sound
  obtain ⟨sock, slot, windows, records⟩ :=
    State.vectorEnds_judged boundary now (stands.trans position) last checked (judged.rests (.inl plays))
  have alike : told.RecordsAlike s.vectorEnds := by
    have tells := judged.told s carried.records
    rw [Exerciser.tells_congr carried.compare threshold policy] at tells
    exact tells.trans records
  have failing {k : Fin 48} (h : fails k) : u.exer.fails k := by
    rw [Exerciser.fails, carried.compare, threshold]
    exact h
  refine ⟨s.vectorEnds, exec_vectorEnd_playing playing, fun k => ?_, alike.fail, alike.notice.classes,
    fun passes => alike.fail.trans (congrArg State.fail (Exerciser.foldl_tells_passes passes _ s)),
    fun keep => ?_, fun retire k h => ?_⟩
  · rw [windows, judged.windows, if_pos (List.mem_finRange k), carried.compare, threshold]
    exact CompareRec.clearWindow_judged _ _
  · obtain ⟨sock', slot'⟩ := judged.kept (policy.trans keep)
    exact ⟨sock.trans (sock'.trans carried.sock), slot.trans (slot'.trans carried.slot)⟩
  · rw [sock]
    exact judged.out (policy.trans retire) k (List.mem_finRange k) (failing h)

end Sys2Proof.Machine
end

section
/-! The credit interval's expiry (R143 to R147): the second credited, and the sockets that it completes. -/

namespace Sys2Proof.Machine

/-! ### Sockets completed one after another (R75, R146) -/

/-- R75: a completed socket's record. -/
def SocketRec.completed (r : SocketRec) : SocketRec := { r.depart with state := .completed }

/-- R75, R146: a socket completed, the run's end not yet judged. -/
def State.completed (s : State) (k : Fin 48) : State :=
  ((s.modAccount k fun a => { a with stamp := some s.credit.accumulated }).left k
    (s.sock.sockets.get k).completed).notify 2 .b

theorem State.complete_eq (s : State) (k : Fin 48) : s.complete k = (s.completed k).checkRunEnd := by
  rw [State.complete, State.depart_modSocket]
  rfl

/-- What completing the sockets of a list does, all of them powered before. -/
structure State.Completes (s t : State) (l : List (Fin 48)) : Prop where
  socket : ∀ k, t.sock.sockets.get k =
    if k ∈ l then (s.sock.sockets.get k).completed else s.sock.sockets.get k
  account : ∀ k, t.credit.accounts.get k =
    if k ∈ l then { s.credit.accounts.get k with stamp := some s.credit.accumulated } else s.credit.accounts.get k
  compare : ∀ k, t.exer.compare.get k =
    if k ∈ l then (s.exer.compare.get k).clearWindow else s.exer.compare.get k
  sock : t.sock = { s.sock with sockets := t.sock.sockets }
  credit : t.credit = { s.credit with accounts := t.credit.accounts }
  exer : t.exer = { s.exer with compare := t.exer.compare }
  slot : t.slot = s.slot
  recipe : t.recipe = s.recipe
  fail : t.fail = s.fail
  freeCount : t.freeCount = s.freeCount
  notice : t.notice = l.foldl (fun n _ => n.countRaise 2) s.notice

theorem State.Completes.nil (s : State) : s.Completes s [] :=
  ⟨fun _ => rfl, fun _ => rfl, fun _ => rfl, rfl, rfl, rfl, rfl, rfl, rfl, rfl, rfl⟩

theorem State.completed_completes {s : State} {k : Fin 48} (powered : (s.sock.sockets.get k).state.powered = true) :
    s.Completes (s.completed k) [k] := by
  have exer : (s.completed k).exer =
      { s.exer with compare := s.exer.compare.set k (s.exer.compare.get k).clearWindow } :=
    if_pos ((SocketState.powered_iff _).mp powered)
  have socket (j : Fin 48) : (s.completed k).sock.sockets.get j =
      if k = j then (s.sock.sockets.get k).completed else s.sock.sockets.get j := Bank.get_set _ _ _ _
  have account (j : Fin 48) : (s.completed k).credit.accounts.get j =
      if k = j then { s.credit.accounts.get j with stamp := some s.credit.accumulated }
      else s.credit.accounts.get j := Bank.get_modify _ _ _ _
  have alone (j : Fin 48) : k = j ↔ j ∈ [k] := eq_comm.trans List.mem_singleton.symm
  refine ⟨fun j => ?_, fun j => (account j).trans (if_congr (alone j) rfl rfl), fun j => ?_, rfl, rfl, by rw [exer],
    rfl, rfl, rfl, rfl, rfl⟩
  · rw [socket, ite_congr (propext (alone j)) (fun member => by rw [(alone j).mpr member]) fun _ => rfl]
  · rw [exer, Bank.get_set, ite_congr (propext (alone j)) (fun member => by rw [(alone j).mpr member]) fun _ => rfl]

/-- A completion leaves the other sockets' records. -/
theorem State.Completes.others {s t : State} {k j : Fin 48} (first : s.Completes t [k]) (other : j ≠ k) :
    t.sock.sockets.get j = s.sock.sockets.get j := by
  rw [first.socket, if_neg (mt List.mem_singleton.mp other)]

/-- One socket, then others. -/
theorem State.Completes.cons {s t u : State} {k : Fin 48} {l : List (Fin 48)} (fresh : k ∉ l)
    (first : s.Completes t [k]) (rest : t.Completes u l) : s.Completes u (k :: l) := by
  have accumulated : t.credit.accumulated = s.credit.accumulated := by rw [first.credit]
  refine ⟨fun j => ?_, fun j => ?_, fun j => ?_, ?_, ?_, ?_, rest.slot.trans first.slot,
    rest.recipe.trans first.recipe, rest.fail.trans first.fail, rest.freeCount.trans first.freeCount, ?_⟩
  · rw [rest.socket, first.socket]
    by_cases same : j = k <;> simp [same, fresh]
  · rw [rest.account, first.account, accumulated]
    by_cases same : j = k <;> simp [same, fresh]
  · rw [rest.compare, first.compare]
    by_cases same : j = k <;> simp [same, fresh]
  · rw [rest.sock, first.sock]
  · rw [rest.credit, first.credit]
  · rw [rest.exer, first.exer]
  · rw [rest.notice, first.notice]
    rfl

theorem State.foldl_completed {l : List (Fin 48)} (once : l.Nodup) {s : State}
    (powered : ∀ k ∈ l, (s.sock.sockets.get k).state.powered = true) : s.Completes (l.foldl State.completed s) l := by
  induction l generalizing s with
  | nil => exact .nil s
  | cons k l ih =>
    obtain ⟨fresh, rest⟩ := List.nodup_cons.mp once
    have first := State.completed_completes (powered k List.mem_cons_self)
    refine first.cons fresh (ih rest fun j member => ?_)
    rw [first.others (ne_of_mem_of_not_mem member fresh)]
    exact powered j (List.mem_cons_of_mem _ member)

/-- R16: while a powered socket is left the run goes on. -/
theorem State.checkRunEnd_of_powered {s : State} {k : Fin 48} (powered : (s.sock.sockets.get k).state.powered = true) :
    s.checkRunEnd = s := by
  refine if_neg fun ends => ?_
  rcases s.allFinal_iff.mp (Bool.and_eq_true_iff.mp ends).2 k with state | state | state <;>
    rw [state] at powered <;> cases powered

/-- R16, R146: of the sockets completed together only the last can be the run's last. -/
theorem State.foldl_complete {l : List (Fin 48)} (once : l.Nodup) {s : State}
    (powered : ∀ k ∈ l, (s.sock.sockets.get k).state.powered = true) :
    l.foldl State.complete s = if l = [] then s else (l.foldl State.completed s).checkRunEnd := by
  induction l generalizing s with
  | nil => rfl
  | cons k l ih =>
    rw [List.foldl_cons, List.foldl_cons, State.complete_eq, if_neg (List.cons_ne_nil k l)]
    cases l with
    | nil => rfl
    | cons j l =>
      obtain ⟨fresh, rest⟩ := List.nodup_cons.mp once
      have first := State.completed_completes (powered k List.mem_cons_self)
      have left (i : Fin 48) (member : i ∈ j :: l) : ((s.completed k).sock.sockets.get i).state.powered = true := by
        rw [first.others (ne_of_mem_of_not_mem member fresh)]
        exact powered i (List.mem_cons_of_mem _ member)
      rw [State.checkRunEnd_of_powered (left j List.mem_cons_self), ih rest left, if_neg (List.cons_ne_nil j l)]

/-! ### The second credited (R143, R144) -/

/-- R143, steps 1 to 3. -/
def State.credited (s : State) : State := s.advanceSeconds.grantCredit.note

/-- R143, R146: the socket's credit of this second reaches the target. -/
abbrev State.Reaches (s : State) (k : Fin 48) : Prop :=
  s.slot.paused = false ∧ s.creditable k = true ∧ (s.credit.accounts.get k).credited + 1 = s.credit.target

/-- R143, step 4: the sockets that this second completes, in ascending order. -/
def State.completing (s : State) : List (Fin 48) := (List.finRange 48).filter fun k => decide (s.Reaches k)

theorem State.mem_completing (s : State) (k : Fin 48) : k ∈ s.completing ↔ s.Reaches k := by
  simp [State.completing]

theorem State.completing_nodup (s : State) : s.completing.Nodup := (List.nodup_finRange 48).filter _

theorem State.completing_eq_nil (s : State) : s.completing = [] ↔ ∀ k, ¬ s.Reaches k := by
  simp [List.eq_nil_iff_forall_not_mem, State.mem_completing]

/-- R144: only a powered socket is credited. -/
theorem State.creditable_powered {s : State} {k : Fin 48} (h : s.creditable k = true) :
    (s.sock.sockets.get k).state.powered = true := by
  unfold State.creditable at h
  dsimp only at h
  split at h
  · cases h
  · simp only [SocketRec.judged, Bool.and_eq_true, and_assoc] at h
    exact h.1

theorem State.completing_powered {s : State} {k : Fin 48} (member : k ∈ s.completing) :
    (s.sock.sockets.get k).state.powered = true := by
  obtain ⟨-, creditable, -⟩ := (s.mem_completing k).mp member
  exact State.creditable_powered creditable

section Credited

variable (s : State)

@[simp] theorem State.credited_slot : s.credited.slot = s.slot := by
  unfold State.credited State.advanceSeconds
  dsimp only
  split <;> rfl

@[simp] theorem State.credited_sock : s.credited.sock = s.sock := by
  unfold State.credited State.advanceSeconds
  dsimp only
  split <;> rfl

@[simp] theorem State.credited_exer : s.credited.exer = s.exer := by
  unfold State.credited State.advanceSeconds
  dsimp only
  split <;> rfl

@[simp] theorem State.credited_recipe : s.credited.recipe = s.recipe := by
  unfold State.credited State.advanceSeconds
  dsimp only
  split <;> rfl

@[simp] theorem State.credited_fail : s.credited.fail = s.fail := by
  unfold State.credited State.advanceSeconds
  dsimp only
  split <;> rfl

@[simp] theorem State.credited_notice : s.credited.notice = s.notice := by
  unfold State.credited State.advanceSeconds
  dsimp only
  split <;> rfl

/-- R143, step 1: where the seconds and the free values go. -/
theorem State.credited_seconds :
    (s.credit.accumulated ≠ BitVec.allOnes 32 →
        s.credited.credit.accumulated = s.credit.accumulated + 1 ∧ s.credited.freeCount = s.freeCount)
      ∧ (s.credit.accumulated = BitVec.allOnes 32 →
        s.credited.credit.accumulated = Config.runSecondsPastTop s.freeCount
          ∧ s.credited.freeCount = s.freeCount + 1) := by
  unfold State.credited State.advanceSeconds
  dsimp only
  split
  · next top => exact ⟨fun below => absurd top below, fun _ => ⟨rfl, rfl⟩⟩
  · next below => exact ⟨fun _ => ⟨rfl, rfl⟩, fun top => absurd top below⟩

/-- R142, R143: the credit unit after the second is credited and noted. -/
theorem State.credited_credit :
    s.credited.credit = { s.credit with
      timer := none, currentRun := s.credit.currentRun + 1
      accumulated := s.credited.credit.accumulated
      notedExcursions := s.rail.rails.map RailRec.excursions
      notedBreaches := s.therm.zones.map ZoneRec.breaches
      notedStalls := s.exer.stalls
      accounts := s.credited.credit.accounts } := by
  unfold State.credited State.advanceSeconds
  dsimp only
  split <;> rfl

/-- The seconds advanced are not what R144 goes by. -/
theorem State.advanceSeconds_earns : s.advanceSeconds.earns = s.earns := by
  unfold State.advanceSeconds
  dsimp only
  split <;> rfl

/-- R143, steps 2 and 3, for one socket. -/
theorem State.credited_account (k : Fin 48) :
    s.credited.credit.accounts.get k = { s.credit.accounts.get k with
      credited := (s.credit.accounts.get k).credited + (if s.earns k = true then 1 else 0)
      notedOff := (s.sock.sockets.get k).offCount } := by
  have advanced : s.advanceSeconds.sock = s.sock ∧ s.advanceSeconds.credit.accounts = s.credit.accounts := by
    unfold State.advanceSeconds
    dsimp only
    split <;> exact ⟨rfl, rfl⟩
  have noted : s.credited.credit.accounts.get k = { s.advanceSeconds.grantCredit.credit.accounts.get k with
      notedOff := (s.advanceSeconds.sock.sockets.get k).offCount } := Bank.get_ofFn _ k
  have granted : s.advanceSeconds.grantCredit.credit.accounts.get k =
      if s.advanceSeconds.earns k = true then
        { s.advanceSeconds.credit.accounts.get k with
          credited := (s.advanceSeconds.credit.accounts.get k).credited + 1 }
      else s.advanceSeconds.credit.accounts.get k := Bank.get_ofFn _ k
  rw [noted, granted, s.advanceSeconds_earns, advanced.1, advanced.2]
  split <;> rfl

end Credited

/-! ### The expiry as a whole (R143) -/

/-- A fold whose turns leave its test alone goes by the test as it stands first. -/
theorem foldl_steady {α β : Type} (p : α → β → Bool) (f : α → β → α) (steady : ∀ a b, p (f a b) = p a) (l : List β)
    (a : α) : l.foldl (fun t b => if p t b then f t b else t) a = (l.filter (p a)).foldl f a := by
  rw [List.foldl_filter]
  suffices same : ∀ q, q = p a → l.foldl (fun t b => if p t b then f t b else t) a =
      l.foldl (fun t b => if q b then f t b else t) a from same _ rfl
  intro q is
  induction l generalizing a with
  | nil => rfl
  | cons b l ih =>
    rw [List.foldl_cons, List.foldl_cons, is]
    refine (ih _ ?_).trans (by rw [is])
    split
    · exact is.trans (steady a b).symm
    · exact is

/-- R143, step 4: a completion moves neither credit nor target. -/
theorem State.complete_credit (s : State) (k : Fin 48) :
    (s.complete k).credit.target = s.credit.target
      ∧ ∀ j, ((s.complete k).credit.accounts.get j).credited = (s.credit.accounts.get j).credited := by
  have account (j : Fin 48) :
      ((s.completed k).credit.accounts.get j).credited = (s.credit.accounts.get j).credited := by
    refine (congrArg AccountRec.credited (Bank.get_modify _ _ _ _)).trans ?_
    split <;> rfl
  rw [State.complete_eq, State.checkRunEnd]
  split
  · rw [State.enterDraining_credit]
    exact ⟨rfl, account⟩
  · exact ⟨rfl, account⟩

theorem State.completeAll_eq (s : State) (c : Fin 48 → Bool) :
    s.completeAll c = ((List.finRange 48).filter fun k =>
      c k && (s.credit.accounts.get k).credited == s.credit.target).foldl State.complete s := by
  refine foldl_steady (fun (t : State) k => c k && (t.credit.accounts.get k).credited == t.credit.target)
    State.complete (fun t k => ?_) _ s
  obtain ⟨target, credited⟩ := t.complete_credit k
  simp only [target, credited]

/-- The second credited and its sockets completed, the run's end not yet judged. -/
def State.secondDone (s : State) : State := s.completing.foldl State.completed s.credited

theorem State.secondDone_completes (s : State) : s.credited.Completes s.secondDone s.completing :=
  State.foldl_completed s.completing_nodup fun k member => by
    rw [State.credited_sock]
    exact State.completing_powered member

theorem State.creditExpires_eq (s : State) :
    s.creditExpires = (if s.completing = [] then s.secondDone else s.secondDone.checkRunEnd).nextInterval := by
  have chosen : ((List.finRange 48).filter fun k => s.advanceSeconds.earns k
      && (s.credited.credit.accounts.get k).credited == s.credited.credit.target) = s.completing := by
    refine List.filter_congr fun k _ => ?_
    have target : s.credited.credit.target = s.credit.target := by rw [State.credited_credit]
    rw [s.advanceSeconds_earns, State.credited_account, target, Bool.eq_iff_iff]
    by_cases earns : s.earns k = true
    · have parts := earns
      simp only [State.earns, Bool.and_eq_true, Bool.not_eq_true'] at parts
      simp [earns, parts]
    · have not_both : ¬ (s.slot.paused = false ∧ s.creditable k = true) := by simpa [State.earns] using earns
      simp only [earns, Bool.false_and, decide_eq_true_eq]
      exact iff_of_false Bool.false_ne_true fun reaches => not_both ⟨reaches.1, reaches.2.1⟩
  have powered (k : Fin 48) (member : k ∈ s.completing) : (s.credited.sock.sockets.get k).state.powered = true := by
    rw [State.credited_sock]
    exact State.completing_powered member
  have all : s.creditExpires = (s.credited.completeAll s.advanceSeconds.earns).nextInterval := rfl
  rw [all, State.completeAll_eq, chosen, State.foldl_complete s.completing_nodup powered]
  by_cases none_completed : s.completing = []
  · rw [if_pos none_completed, if_pos none_completed, State.secondDone, none_completed]
    rfl
  · rw [if_neg none_completed, if_neg none_completed]
    rfl

/-- R16, R146: the sockets of this second completed, the run's last among them. -/
theorem State.secondDone_final (s : State) : s.secondDone.allFinal = true ↔
    ∀ k, s.Reaches k ∨ (s.sock.sockets.get k).state = .vacant ∨ (s.sock.sockets.get k).state = .retired
      ∨ (s.sock.sockets.get k).state = .completed := by
  rw [State.allFinal_iff]
  refine forall_congr' fun k => ?_
  rw [s.secondDone_completes.socket, s.credited_sock]
  by_cases reaches : s.Reaches k
  · rw [if_pos ((s.mem_completing k).mpr reaches)]
    exact iff_of_true (.inr (.inr rfl)) (.inl reaches)
  · rw [if_neg (mt (s.mem_completing k).mp reaches)]
    exact (or_iff_right reaches).symm

section Outcome

variable {s : State}

/-- R146: the completed sockets leave no other, and the run is at its end. -/
def State.Finishes (s : State) : Prop :=
  (∃ k, s.Reaches k) ∧ ∀ k, s.Reaches k ∨ (s.sock.sockets.get k).state = .vacant
    ∨ (s.sock.sockets.get k).state = .retired ∨ (s.sock.sockets.get k).state = .completed

/-- R16: a run under way ends with its last completion. -/
theorem State.creditExpires_finishes (live : s.slot.state.inRun = true) (finishes : s.Finishes) :
    s.creditExpires = s.secondDone.enterDraining .complete := by
  obtain ⟨some_reaches, final⟩ := finishes
  have some_completed : s.completing ≠ [] := fun nil => by
    obtain ⟨k, reaches⟩ := some_reaches
    exact s.completing_eq_nil.mp nil k reaches
  have ends : s.secondDone.checkRunEnd = s.secondDone.enterDraining .complete := by
    refine if_pos ?_
    rw [s.secondDone_completes.slot, s.credited_slot, live, s.secondDone_final.mpr final]
    rfl
  rw [s.creditExpires_eq, if_neg some_completed, ends, State.nextInterval, State.enterDraining_slot]
  exact if_neg nofun

/-- R147: without a last completion the second ends by the run limit. -/
theorem State.creditExpires_goes_on (on : ¬ (s.slot.state.inRun = true ∧ s.Finishes)) :
    s.creditExpires = s.secondDone.nextInterval := by
  rw [s.creditExpires_eq]
  split
  · rfl
  · next some_completed =>
    refine congrArg State.nextInterval (if_neg fun ends => on ?_)
    rw [Bool.and_eq_true, s.secondDone_completes.slot, s.credited_slot, s.secondDone_final] at ends
    obtain ⟨live, final⟩ := ends
    refine ⟨live, ?_, final⟩
    by_contra none_reaches
    exact some_completed (s.completing_eq_nil.mpr fun k reaches => none_reaches ⟨k, reaches⟩)

/-- What the end of the interval can make of the part: nothing, the end of the run, or the next interval. -/
theorem State.creditExpires_cases (s : State) :
    (∃ c, s.creditExpires = s.secondDone.enterDraining c) ∨
      ∃ timer, s.creditExpires = s.secondDone.setCredit { s.secondDone.credit with timer := timer } := by
  by_cases finishes : s.slot.state.inRun = true ∧ s.Finishes
  · exact .inl ⟨_, State.creditExpires_finishes finishes.1 finishes.2⟩
  · rw [State.creditExpires_goes_on finishes, State.nextInterval]
    split
    · split
      · exact .inl ⟨_, rfl⟩
      · exact .inr ⟨_, rfl⟩
    · exact .inr ⟨s.secondDone.credit.timer, rfl⟩

end Outcome

/-! ### What an expiry leaves in the credit unit (R142, R143) -/

section Expired

variable (s : State)

/-- R143: the expiry moves nothing of the credited second but its timer and its stamps. -/
theorem State.creditExpires_credit :
    s.creditExpires.credit = { s.credited.credit with
        timer := s.creditExpires.credit.timer, accounts := s.secondDone.credit.accounts }
      ∧ s.creditExpires.freeCount = s.credited.freeCount := by
  have done := s.secondDone_completes
  rcases s.creditExpires_cases with ⟨c, ends⟩ | ⟨timer, goes_on⟩
  · rw [ends, State.enterDraining_credit, State.enterDraining_freeCount, done.freeCount]
    exact ⟨by rw [CreditUnit.endRun, done.credit], rfl⟩
  · rw [goes_on]
    exact ⟨by rw [State.setCredit_credit, done.credit], done.freeCount⟩

theorem State.creditExpires_account (k : Fin 48) :
    s.creditExpires.credit.accounts.get k = { s.credit.accounts.get k with
      credited := (s.credit.accounts.get k).credited + (if s.earns k = true then 1 else 0)
      notedOff := (s.sock.sockets.get k).offCount
      stamp := if s.Reaches k then some s.creditExpires.credit.accumulated else (s.credit.accounts.get k).stamp } := by
  obtain ⟨credit, -⟩ := s.creditExpires_credit
  rw [credit, s.secondDone_completes.account, s.credited_account]
  by_cases reaches : s.Reaches k
  · rw [if_pos ((s.mem_completing k).mpr reaches), if_pos reaches]
  · rw [if_neg (mt (s.mem_completing k).mp reaches), if_neg reaches]

end Expired

/-- R144: the conditions of a credited second, one by one. -/
theorem State.creditable_iff (s : State) (k : Fin 48) :
    s.creditable k = true ↔
      ((s.sock.sockets.get k).state = .active ∨ (s.sock.sockets.get k).state = .warned)
      ∧ (s.sock.sockets.get k).blanking = none
      ∧ (s.sock.sockets.get k).offCount = (s.credit.accounts.get k).notedOff
      ∧ (∃ w, s.wire k = some w
        ∧ (s.rail.rails.get w.rail).excursions = s.credit.notedExcursions.get w.rail
        ∧ (s.rail.rails.get w.rail).inWindow = true
        ∧ (s.therm.zones.get w.zone).state = .regulating
        ∧ (s.therm.zones.get w.zone).breaches = s.credit.notedBreaches.get w.zone
        ∧ (s.therm.zones.get w.zone).inWindow = true)
      ∧ (s.exer.dynamic = true → s.exer.state = .playing ∧ s.exer.stalls = s.credit.notedStalls) := by
  have play : (!s.exer.dynamic || (s.exer.state.isPlaying && s.exer.stalls == s.credit.notedStalls)) = true
      ↔ (s.exer.dynamic = true → s.exer.state = .playing ∧ s.exer.stalls = s.credit.notedStalls) := by
    cases s.exer.dynamic <;> simp [ExerState.isPlaying_iff]
  unfold State.creditable
  dsimp only
  cases s.wire k with
  | none => simp
  | some w =>
    simp only [Bool.and_eq_true, beq_iff_eq, play, SocketRec.judged_iff, and_assoc, Option.some.injEq,
      exists_eq_left']

/-- R143: an expiry of the running timer; of a stopped one there is none (log 4). -/
theorem exec_creditIntervalExpiry_running {s : State} (h : s.credit.timer.isSome = true) :
    exec .creditIntervalExpiry s = .next s.creditExpires :=
  congrArg Host.Outcome.next (if_pos h)

theorem exec_creditIntervalExpiry_stopped {s : State} (h : s.credit.timer = none) :
    exec .creditIntervalExpiry s = .next s :=
  congrArg Host.Outcome.next (if_neg (by simp [h]))

/-- Settles O52, by the socket's state and its retirement cause. -/
theorem verdictIsR151 : Obligations.VerdictIsR151 := by
  unfold Obligations.VerdictIsR151
  intro s k r fails
  have verdict : s.verdict k = verdictOf r.state r.cause fails := rfl
  rw [verdict]
  refine ⟨fun h => ?_, fun h none_failed => ?_, fun h failed => ?_, fun h cause => ?_, fun h cause => ?_,
    fun h cause => ?_, fun vacant completed retired => ?_⟩
  · rw [h, verdictOf]
  · rw [h, verdictOf, if_pos none_failed]
  · rw [h, verdictOf, if_neg failed.ne']
  · rw [h, cause, verdictOf]
  · rw [h, cause, verdictOf]
  · rw [h, cause, verdictOf]
  · cases h : r.state with
    | vacant => exact absurd h vacant
    | completed => exact absurd h completed
    | retired => exact absurd h retired
    | off | active | warned | heldOff | isolated => rfl

/-- Settles O30: the credit unit of the credited second, which the completions and the next interval leave, and R144
by `State.creditable_iff`. -/
theorem creditedSecond : Obligations.CreditedSecond := by
  unfold Obligations.CreditedSecond
  intro s
  refine ⟨exec_creditIntervalExpiry_stopped, fun running =>
    ⟨s.creditExpires, exec_creditIntervalExpiry_running running, ?_⟩⟩
  obtain ⟨credit, freeCount⟩ := s.creditExpires_credit
  obtain ⟨below, top⟩ := s.credited_seconds
  have accumulated : s.creditExpires.credit.accumulated = s.credited.credit.accumulated := by rw [credit]
  refine ⟨by rw [credit, s.credited_credit], by rw [accumulated, freeCount]; exact below,
    by rw [accumulated, freeCount]; exact top, by rw [credit, s.credited_credit], by rw [credit, s.credited_credit],
    by rw [credit, s.credited_credit], by rw [credit, s.credited_credit], by rw [credit, s.credited_credit],
    fun r => ?_, fun z => ?_, fun k => ?_⟩
  · rw [credit, s.credited_credit]
    exact Bank.get_map _ _ r
  · rw [credit, s.credited_credit]
    exact Bank.get_map _ _ z
  · intro earns
    have earns_iff : s.earns k = true ↔ earns := by
      rw [State.earns, Bool.and_eq_true, Bool.not_eq_true', s.creditable_iff]
    rw [s.creditExpires_account]
    exact ⟨rfl, fun yes => by rw [if_pos (earns_iff.mpr yes)], fun no => by rw [if_neg (mt earns_iff.mp no)]; rfl⟩

/-! ### The sockets completed, and the end of the run (R146, R147) -/

/-- R75: a powered socket's record when it is completed. -/
theorem SocketRec.completed_eq {r : SocketRec} (powered : r.state.powered = true) :
    r.completed = { r with
      state := .completed, switchClosed := false, blanking := none, offCount := r.offCount + 1 } := by
  rw [SocketRec.completed, SocketRec.depart, if_pos powered]

/-- R16, R147: an expiry in RUNNING ends the run or begins the next second. -/
theorem State.creditExpires_running {s : State} (running : s.slot.state = .running) :
    (s.Finishes → s.creditExpires = s.secondDone.enterDraining .complete)
      ∧ (¬ s.Finishes → s.credit.currentRun + 1 = s.credit.runLimit →
        s.creditExpires = s.secondDone.enterDraining .runLimit)
      ∧ (¬ s.Finishes → s.credit.currentRun + 1 ≠ s.credit.runLimit →
        s.creditExpires = s.secondDone.setCredit { s.secondDone.credit with timer := some 1 }) := by
  have second := s.secondDone_completes
  have slot : s.secondDone.slot.state = .running := by rw [second.slot, s.credited_slot, running]
  have currentRun : s.secondDone.credit.currentRun = s.credit.currentRun + 1 := by rw [second.credit, s.credited_credit]
  have runLimit : s.secondDone.credit.runLimit = s.credit.runLimit := by rw [second.credit, s.credited_credit]
  have goes_on (unfinished : ¬ s.Finishes) := State.creditExpires_goes_on fun ends => unfinished ends.2
  refine ⟨State.creditExpires_finishes (by rw [running]; rfl), fun unfinished last => ?_, fun unfinished more => ?_⟩
  · rw [goes_on unfinished, State.nextInterval, if_pos slot, currentRun, runLimit, if_pos last]
  · rw [goes_on unfinished, State.nextInterval, if_pos slot, currentRun, runLimit, if_neg more]
    rfl

/-- Settles O31: the sockets completed together by `State.secondDone_completes`, then the end of the run by the last
completion or by the run limit, or the next interval. -/
theorem completionAndRunLimit : Obligations.CompletionAndRunLimit := by
  unfold Obligations.CompletionAndRunLimit
  intro s running timer done finished ended completed drained told
  have second := s.secondDone_completes
  obtain ⟨finishes, limited, goes_on⟩ := State.creditExpires_running running
  have outcome : (ended ∧ ∃ c, s.creditExpires = s.secondDone.enterDraining c)
      ∨ (¬ ended ∧ s.creditExpires = s.secondDone.setCredit { s.secondDone.credit with timer := some 1 }) := by
    by_cases last : finished
    · exact .inl ⟨.inl last, _, finishes last⟩
    · by_cases limit : s.credit.currentRun + 1 = s.credit.runLimit
      · exact .inl ⟨.inr limit, _, limited last limit⟩
      · exact .inr ⟨not_or.mpr ⟨last, limit⟩, goes_on last limit⟩
  have socket (k : Fin 48) : s.secondDone.sock.sockets.get k = completed k := by
    rw [second.socket, s.credited_sock]
    by_cases reaches : done k
    · have member := (s.mem_completing k).mpr reaches
      rw [if_pos member, SocketRec.completed_eq (State.completing_powered member)]
      exact (if_pos reaches).symm
    · rw [if_neg (mt (s.mem_completing k).mp reaches)]
      exact (if_neg reaches).symm
  have compare (k : Fin 48) : s.secondDone.exer.compare.get k =
      if done k then (s.exer.compare.get k).clearWindow else s.exer.compare.get k := by
    rw [second.compare, s.credited_exer]
    exact if_congr (s.mem_completing k) rfl rfl
  have notice : s.secondDone.notice = told := by
    rw [second.notice, s.credited_notice]
    rfl
  have ended_record (r : SocketRec) : r.endRun = drained r := by
    cases state : r.state <;> simp [SocketRec.endRun, SocketRec.depart, SocketState.powered, drained, state]
  refine ⟨s.creditExpires, exec_creditIntervalExpiry_running timer, fun k => ?_, ?_, fun k => ?_, fun k => ?_,
    fun c run store => ?_, fun on => ?_, ?_, fun last => ?_, fun more limit => ?_, fun more below => ?_⟩
  · rcases outcome with ⟨ends, c, is⟩ | ⟨on, is⟩
    · rw [is, State.enterDraining_sock, Bank.get_map, socket, if_pos ends, ended_record]
    · rw [is, if_neg on]
      exact socket k
  · rcases outcome with ⟨-, c, is⟩ | ⟨-, is⟩
    · rw [is, State.enterDraining_sock, second.sock, s.credited_sock]
    · rw [is]
      exact second.sock.trans (by rw [s.credited_sock]; rfl)
  · rcases outcome with ⟨ends, c, is⟩ | ⟨on, is⟩
    · rw [is, (s.secondDone.enterDraining_judging c).1, if_pos (show ended ∨ done k from .inl ends), compare]
      split <;> rfl
    · rw [is]
      exact (compare k).trans (if_congr (or_iff_right on).symm rfl rfl)
  · exact congrArg AccountRec.stamp (s.creditExpires_account k)
  · rcases outcome with ⟨-, c', is⟩ | ⟨-, is⟩
    · rw [is, (State.RecordsAlike.enterDraining s.secondDone c').notice.classes c run store, notice]
    · rw [is]
      exact congrArg (fun n : Notices => n.classes.get c) notice
  · obtain ⟨-, is⟩ := outcome.resolve_left fun h => on h.1
    rw [is]
    exact notice
  · rcases outcome with ⟨-, c, is⟩ | ⟨-, is⟩
    · rw [is, State.enterDraining_fail, second.fail, s.credited_fail]
    · rw [is]
      exact second.fail.trans s.credited_fail
  · rw [finishes last, State.enterDraining_slot, State.enterDraining_credit]
    exact ⟨rfl, rfl, rfl⟩
  · rw [limited more limit, State.enterDraining_slot, State.enterDraining_credit]
    exact ⟨rfl, rfl, rfl⟩
  · rw [goes_on more below]
    exact ⟨second.slot.trans s.credited_slot, rfl⟩

end Sys2Proof.Machine
end

section
/-! What the accounts' laws ask of one socket (R56, R137, R146) and of play (R127 to R131), and what each of the part's
moves makes of it. -/

namespace Sys2Proof.Machine

/-! ### One socket -/

/-- A populated socket short of its target: all but VACANT and COMPLETED. -/
def SocketState.short : SocketState → Bool
  | .vacant | .completed => false
  | _ => true

theorem SocketState.short_iff (x : SocketState) : x.short = true ↔ x ≠ .vacant ∧ x ≠ .completed := by
  cases x <;> simp [SocketState.short]

theorem SocketState.short_of_powered {x : SocketState} (h : x.powered = true) : x.short = true := by
  cases x with
  | active | warned => rfl
  | off | heldOff | isolated | retired | completed | vacant => cases h

theorem SocketState.short_of_retirable {x : SocketState} (h : x.retirable = true) : x.short = true := by
  cases x with
  | off | active | warned | heldOff | isolated => rfl
  | retired | completed | vacant => cases h

/-- What the accounts' laws ask of a socket, by whether a run is on and the target in force: its state and switch, its
credit, and the count of its compare window. -/
structure SocketAccounted (live : Bool) (target : Nat) (x : SocketState) (closed : Bool) (credited window : Nat) :
    Prop where
  switch : closed = x.powered
  resting : live = false → x.resting = true
  window : x.powered = false → window = 0
  within : credited ≤ target
  vacant : x = .vacant → credited = 0
  reached : x ≠ .vacant → (x = .completed ↔ credited = target)

namespace SocketAccounted

variable {live : Bool} {target : Nat} {x y : SocketState} {closed closed' : Bool} {credited window window' : Nat}

/-- A socket short of its target. -/
theorem of_short (short : x.short = true) (switch : closed = x.powered) (resting : live = false → x.resting = true)
    (window_empty : x.powered = false → window = 0) (below : credited < target) :
    SocketAccounted live target x closed credited window := by
  obtain ⟨not_vacant, not_completed⟩ := x.short_iff.mp short
  exact ⟨switch, resting, window_empty, below.le, fun is => absurd is not_vacant,
    fun _ => iff_of_false not_completed below.ne⟩

variable (h : SocketAccounted live target x closed credited window)

include h

theorem below (short : x.short = true) : credited < target := by
  obtain ⟨not_vacant, not_completed⟩ := x.short_iff.mp short
  exact lt_of_le_of_ne h.within (mt (h.reached not_vacant).mpr not_completed)

/-- R56: a powered socket's slot is in a run. -/
theorem live_of_powered (powered : x.powered = true) : live = true :=
  Bool.eq_true_of_not_eq_false fun idle =>
    Bool.false_ne_true ((SocketState.not_powered (h.resting idle)).symm.trans powered)

/-- From one state short of the target to another. -/
theorem moves (before : x.short = true) (after : y.short = true) (switch : closed' = y.powered)
    (resting : live = false → y.resting = true) (window_empty : y.powered = false → window' = 0) :
    SocketAccounted live target y closed' credited window' :=
  of_short after switch resting window_empty (h.below before)

/-- A window moves as long as it stays empty in a socket that is not powered. -/
theorem counts (window_empty : x.powered = false → window = 0 → window' = 0) :
    SocketAccounted live target x closed credited window' :=
  ⟨h.switch, h.resting, fun off => window_empty off (h.window off), h.within, h.vacant, h.reached⟩

/-- R77: at the end of a run. -/
theorem endRun {r : SocketRec} (is : r.state = x) :
    SocketAccounted false target r.endRun.state r.endRun.switchClosed credited 0 := by
  have rests := r.endRun_resting
  have off : r.endRun.switchClosed = r.endRun.state.powered := (SocketState.not_powered rests).symm
  by_cases short : x.short = true
  · have after : r.endRun.state.short = true := by
      rw [SocketRec.endRun_eq, is]
      cases x with
      | vacant | completed => cases short
      | off | active | warned | heldOff | isolated | retired => rfl
    exact of_short after off (fun _ => rests) (fun _ => rfl) (h.below short)
  · have same : r.endRun.state = x := by
      rw [SocketRec.endRun_eq, is]
      cases x with
      | vacant | completed => rfl
      | off | active | warned | heldOff | isolated | retired => exact absurd rfl short
    rw [same] at rests off ⊢
    exact ⟨off, fun _ => rests, fun _ => rfl, h.within, h.vacant, h.reached⟩

/-- R59: after RESTART. -/
theorem afterRestart {r : SocketRec} (is : r.state = x) :
    SocketAccounted false target r.afterRestart.state r.afterRestart.switchClosed credited 0 := by
  have rests := r.afterRestart_resting
  have off : r.afterRestart.switchClosed = r.afterRestart.state.powered := (SocketState.not_powered rests).symm
  by_cases short : x.short = true
  · have after : r.afterRestart.state.short = true := by
      unfold SocketRec.afterRestart
      rw [is]
      cases x with
      | vacant | completed => cases short
      | off | active | warned | heldOff | isolated | retired => rfl
    exact of_short after off (fun _ => rests) (fun _ => rfl) (h.below short)
  · have same : r.afterRestart.state = x := by
      unfold SocketRec.afterRestart
      rw [is]
      cases x with
      | vacant | completed => rfl
      | off | active | warned | heldOff | isolated | retired => exact absurd rfl short
    rw [same] at rests off ⊢
    exact ⟨off, fun _ => rests, fun _ => rfl, h.within, h.vacant, h.reached⟩

end SocketAccounted

/-! ### The exerciser -/

/-- R129, R130, R131: the marks belong to PLAYING. -/
def Exerciser.MarksLaw (e : Exerciser) : Prop :=
  (e.holdRequested = true → e.state = .playing) ∧ (e.stopRequested = true → e.state = .playing)

/-- What play's own moves make of the exerciser: run copies as they were, marks in PLAYING alone, no window filled. -/
structure Exerciser.Follows (e e' : Exerciser) : Prop where
  dynamic : e'.dynamic = e.dynamic
  threshold : e'.threshold = e.threshold
  marks : e.MarksLaw → e'.MarksLaw
  window : ∀ k, (e.compare.get k).windowCount = 0 → (e'.compare.get k).windowCount = 0

namespace Exerciser.Follows

variable {e e' e'' : Exerciser}

theorem of_eq (state : e'.state = e.state := by rfl) (dynamic : e'.dynamic = e.dynamic := by rfl)
    (threshold : e'.threshold = e.threshold := by rfl) (hold : e'.holdRequested = e.holdRequested := by rfl)
    (stop : e'.stopRequested = e.stopRequested := by rfl) (compare : e'.compare = e.compare := by rfl) : e.Follows e' :=
  ⟨dynamic, threshold, by rw [Exerciser.MarksLaw, Exerciser.MarksLaw, state, hold, stop]; exact id,
    by rw [compare]; exact fun _ => id⟩

theorem refl (e : Exerciser) : e.Follows e := .of_eq

theorem trans (h : e.Follows e') (h' : e'.Follows e'') : e.Follows e'' :=
  ⟨h'.dynamic.trans h.dynamic, h'.threshold.trans h.threshold, h'.marks ∘ h.marks, fun k => h'.window k ∘ h.window k⟩

/-- Into PLAYING the marks may stand. -/
theorem to_playing (state : e'.state = .playing) (dynamic : e'.dynamic = e.dynamic := by rfl)
    (threshold : e'.threshold = e.threshold := by rfl) (compare : e'.compare = e.compare := by rfl) : e.Follows e' :=
  ⟨dynamic, threshold, fun _ => ⟨fun _ => state, fun _ => state⟩, by rw [compare]; exact fun _ => id⟩

theorem clearWindows (e : Exerciser) : e.Follows e.clearWindows :=
  ⟨rfl, rfl, id, fun k _ => congrArg CompareRec.windowCount (Bank.get_map CompareRec.clearWindow e.compare k)⟩

theorem applyTiming (e : Exerciser) (x : Option Timing) : e.Follows (e.applyTiming x) := by
  cases x <;> exact .of_eq

theorem applyChannels (e : Exerciser) (x : Bank (Option ChannelSection) 16) : e.Follows (e.applyChannels x) :=
  List.foldlRecOn _ _ (refl e) fun u hu c _ => hu.trans (by split <;> exact .of_eq)

end Exerciser.Follows

/-! ### Play's own moves (R127 to R135) -/

section Play

variable (s : State)

theorem State.clearWindows_follows (p : Option Nat) :
    s.exer.Follows { s.exer.clearWindows with position := p } :=
  (Exerciser.Follows.clearWindows s.exer).trans .of_eq

theorem State.startVector_follows : s.exer.Follows s.startVector.exer := by
  unfold State.startVector
  split
  · exact .to_playing rfl
  · exact .refl _

theorem State.enterPlaying_follows : s.exer.Follows s.enterPlaying.exer :=
  .trans .of_eq (State.startVector_follows _)

theorem State.takeFrame_follows (id : Byte) : s.exer.Follows (s.takeFrame id).exer := by
  rw [State.takeFrame_exer]
  exact .of_eq

/-- R131: the entry to STOPPED clears both marks. -/
theorem State.enterStopped_follows : s.exer.Follows s.enterStopped.exer :=
  ⟨rfl, rfl, fun _ => ⟨nofun, nofun⟩, fun _ => id⟩

/-- R133: a stall ends the request to hold; no stop is requested where none was or play has stopped. -/
theorem State.enterStall_follows (x : ExerState) (quiet : s.exer.stopRequested = false ∨ s.exer.state ≠ .playing) :
    s.exer.Follows (s.enterStall x).exer :=
  ⟨rfl, rfl, fun marks => ⟨nofun, fun stop => (quiet.elim (fun none => Bool.false_ne_true (none.symm.trans stop))
    fun still => still (marks.2 stop)).elim⟩, fun _ => id⟩

section Quiet

variable (quiet : s.exer.stopRequested = false ∨ s.exer.state ≠ .playing)

include quiet

theorem State.enterStarved_follows : s.exer.Follows s.enterStarved.exer :=
  (s.enterStall_follows .starved quiet).trans .of_eq

theorem State.playOrHold_follows : s.exer.Follows s.playOrHold.exer := by
  unfold State.playOrHold
  split
  · exact s.enterStall_follows .held quiet
  · exact s.enterPlaying_follows

theorem State.takeFirstReady_follows : s.exer.Follows s.takeFirstReady.exer := by
  unfold State.takeFirstReady
  split
  · next f _ =>
    exact (s.takeFrame_follows f.id).trans (State.playOrHold_follows _ (by rw [State.takeFrame_exer]; exact quiet))
  · exact s.enterStarved_follows quiet

end Quiet

/-- R129, step 3. -/
theorem State.vectorFollows_follows : s.exer.Follows s.vectorFollows.exer := by
  unfold State.vectorFollows
  split
  · exact s.enterStopped_follows
  · next stop =>
    have quiet := Or.inl (b := s.exer.state ≠ .playing) (Bool.eq_false_of_not_eq_true stop)
    split
    · exact s.enterStarved_follows quiet
    · split
      · exact s.enterStall_follows .held quiet
      · exact s.startVector_follows

/-- R130: the request to hold belongs to PLAYING. -/
theorem State.setHolds_follows (budget pause : Bool) : s.exer.Follows (s.setHolds budget pause).exer := by
  have moved : s.exer.Follows (s.withHolds budget pause).exer := .of_eq
  rw [State.setHolds_eq]
  split
  · exact moved
  · split
    · next playing => exact moved.trans (.to_playing playing)
    · split
      · exact moved.trans (State.enterPlaying_follows _)
      · exact moved

theorem State.playPut_follows (p : PlaySettings) :
    s.exer.Follows (s.playPut p).exer ∧ (s.playPut p).exer.state = s.exer.state := by
  unfold State.playPut
  dsimp only
  split
  · exact ⟨.of_eq, rfl⟩
  · exact ⟨.of_eq, rfl⟩

/-- R135, R132. -/
theorem State.applyPlay_follows (p : PlaySettings) : s.exer.Follows (s.applyPlay p).exer := by
  obtain ⟨put, state⟩ := s.playPut_follows p
  rw [State.applyPlay_put]
  split
  · next taken =>
    obtain ⟨starved, -⟩ := taken
    exact put.trans (State.takeFirstReady_follows _ (.inr (by rw [state, starved]; exact nofun)))
  · exact put

theorem State.applySettings_follows (x : Settings) : s.exer.Follows (s.applySettings x).exer := by
  have applied : s.exer.Follows ((s.exer.applyTiming x.timing).applyChannels x.channels) :=
    (Exerciser.Follows.applyTiming s.exer x.timing).trans (.applyChannels _ x.channels)
  unfold State.applySettings
  dsimp only
  split
  · exact applied.trans (State.applyPlay_follows (s.setExer _) _)
  · exact applied

/-- R131. -/
theorem State.startPlay_follows : s.exer.Follows s.startPlay.exer := by
  unfold State.startPlay
  split
  · next playing => exact .to_playing playing
  · next stopped =>
    unfold State.restartPlay
    have quiet : s.exer.state ≠ .playing := stopped.trans_ne nofun
    split
    · exact (s.clearWindows_follows (some 0)).trans (State.playOrHold_follows (s.setExer _) (.inr quiet))
    · exact s.takeFirstReady_follows (.inr quiet)
  · exact .refl _
  · exact .refl _
  · exact .refl _

theorem State.stopPlay_follows : s.exer.Follows s.stopPlay.exer := by
  unfold State.stopPlay
  split
  · next playing => exact .to_playing playing
  · exact s.enterStopped_follows
  · exact s.enterStopped_follows
  · exact .refl _
  · exact .refl _

end Play

end Sys2Proof.Machine
end

section
/-! The accounts' bundle socket by socket, and the shared operations that keep it. -/

namespace Sys2Proof.Machine

-- One proof at a time: a proof per thread, each with its own stack, would pass the memory limit of the check.
set_option Elab.async false

/-! ### The bundle -/

/-- What the bundle reads of the slot record. -/
def SlotRec.runs (r : SlotRec) : SlotState × Timer × Timer × Bool := (r.state, r.armTimer, r.drainTimer, r.paused)

/-- What the bundle reads of the credit unit, the accounts aside. -/
def CreditUnit.runs (c : CreditUnit) : Timer × Nat × Nat × Nat := (c.timer, c.target, c.currentRun, c.runLimit)

/-- What the bundle reads of the exerciser, the windows aside. -/
def Exerciser.plays (e : Exerciser) : ExerState × Bool × Bool × Bool × Nat :=
  (e.state, e.holdRequested, e.stopRequested, e.dynamic, e.threshold)

/-- R32: a GENERAL section's target lies within its run limit, and neither target nor threshold is 0. -/
def Recipe.Runnable (x : Recipe) : Prop :=
  ∀ g, x.general = some g → 1 ≤ g.target ∧ g.target ≤ g.runLimit ∧ 1 ≤ g.threshold

/-- One socket of a state under the accounts' laws. -/
abbrev State.AccountedAs (s : State) (live : Bool) (target : Nat) (k : Fin 48) : Prop :=
  SocketAccounted live target (s.sock.sockets.get k).state (s.sock.sockets.get k).switchClosed
    (s.credit.accounts.get k).credited (s.exer.compare.get k).windowCount

/-- The accounts' bundle, socket by socket. -/
structure State.Accounted (s : State) : Prop where
  socket : ∀ k, s.AccountedAs s.slot.state.inRun s.credit.target k
  timers : s.TimerLaw
  play : s.PlayLaw
  threshold : s.slot.state.inRun = true → 1 ≤ s.exer.threshold
  limit : s.credit.currentRun ≤ s.credit.runLimit
  below : s.slot.state.inRun = true → s.credit.currentRun < s.credit.runLimit
  recipe : s.recipe.Runnable

theorem State.accountsSound_iff (s : State) : s.AccountsSound ↔ s.Accounted := by
  constructor
  · rintro ⟨switches, timers, play, ⟨windows, threshold⟩, credits, limit, below, recipe⟩
    refine ⟨fun k => ?_, timers, play, threshold, limit, below, recipe⟩
    obtain ⟨switch, resting⟩ := switches k
    obtain ⟨within, vacant, reached⟩ := credits k
    exact ⟨switch, resting, windows k, within, vacant, reached⟩
  · rintro ⟨socket, timers, play, threshold, limit, below, recipe⟩
    exact ⟨fun k => ⟨(socket k).switch, (socket k).resting⟩, timers, play, ⟨fun k => (socket k).window, threshold⟩,
      fun k => ⟨(socket k).within, (socket k).vacant, (socket k).reached⟩, limit, below, recipe⟩

section Left

variable (s : State) {k : Fin 48} (r : SocketRec)

theorem State.left_plays : (s.left k r).exer.plays = s.exer.plays := by
  rw [State.left, State.setExer_exer]
  split <;> rfl

/-- R137: a socket that leaves has an empty window, if only a powered one had any. -/
theorem State.left_window (window : (s.sock.sockets.get k).state.powered = false →
    (s.exer.compare.get k).windowCount = 0) : ((s.left k r).exer.compare.get k).windowCount = 0 := by
  rw [State.left, State.setExer_exer]
  split
  · rw [Bank.get_set_self]
    rfl
  · next off => exact window (Bool.eq_false_of_not_eq_true (mt (SocketState.powered_iff _).mp off))

theorem State.left_compare_ne {j : Fin 48} (other : k ≠ j) :
    (s.left k r).exer.compare.get j = s.exer.compare.get j := by
  rw [State.left, State.setExer_exer]
  split
  · exact Bank.get_set_ne _ _ other
  · rfl

end Left

theorem SocketRec.due_iff {r : SocketRec} : r.due = true ↔ r.state = .isolated ∧ r.retryDue = true := by
  simp [SocketRec.due]

/-- R73: a released socket has power. -/
theorem SocketRec.release_powered (r : SocketRec) : r.release.state.powered = true := by
  unfold SocketRec.release
  split
  · exact PriorState.toSocket_powered _
  · rfl

theorem SocketRec.release_closed (r : SocketRec) : r.release.switchClosed = true := by
  unfold SocketRec.release
  split <;> rfl

/-- R56, R76: a departed socket's switch is open. -/
theorem SocketAccounted.departed {live : Bool} {target credited window : Nat} {r : SocketRec}
    (h : SocketAccounted live target r.state r.switchClosed credited window) : r.depart.switchClosed = false := by
  unfold SocketRec.depart
  split
  · rfl
  · next off => exact h.switch.trans (Bool.eq_false_of_not_eq_true off)

namespace State.Accounted

variable {s t : State}

/-! ### What a change must leave -/

/-- Sockets and play moved within their laws, everything else as it was. -/
theorem of_parts (h : s.Accounted) (socket : ∀ k, t.AccountedAs s.slot.state.inRun s.credit.target k) (play : t.PlayLaw)
    (threshold : t.exer.threshold = s.exer.threshold := by simp) (slot : t.slot.runs = s.slot.runs := by simp)
    (credit : t.credit.runs = s.credit.runs := by simp) (recipe : t.recipe = s.recipe := by simp) : t.Accounted := by
  simp only [SlotRec.runs, Prod.mk.injEq] at slot
  simp only [CreditUnit.runs, Prod.mk.injEq] at credit
  obtain ⟨state, arm, drain, paused⟩ := slot
  obtain ⟨timer, target, run, limit⟩ := credit
  refine ⟨by rw [state, target]; exact socket, ?_, play, by rw [state, threshold]; exact h.threshold,
    by rw [run, limit]; exact h.limit, by rw [state, run, limit]; exact h.below, recipe ▸ h.recipe⟩
  rw [State.TimerLaw, state, arm, drain, paused, timer]
  exact h.timers

/-- Sockets moved within their laws while play stays. -/
theorem moved (h : s.Accounted)
    (socket : ∀ k, s.AccountedAs s.slot.state.inRun s.credit.target k →
      t.AccountedAs s.slot.state.inRun s.credit.target k)
    (exer : t.exer.plays = s.exer.plays := by simp) (slot : t.slot.runs = s.slot.runs := by simp)
    (credit : t.credit.runs = s.credit.runs := by simp) (recipe : t.recipe = s.recipe := by simp) : t.Accounted := by
  simp only [Exerciser.plays, Prod.mk.injEq] at exer
  obtain ⟨state, hold, stop, dynamic, threshold⟩ := exer
  refine h.of_parts (fun k => socket k (h.socket k)) ?_ threshold slot credit recipe
  simp only [SlotRec.runs, Prod.mk.injEq] at slot
  rw [State.PlayLaw, state, hold, stop, dynamic, slot.1]
  exact h.play

/-- What the bundle does not read. -/
theorem still (h : s.Accounted) (sock : t.sock = s.sock := by simp) (exer : t.exer = s.exer := by simp)
    (slot : t.slot.runs = s.slot.runs := by simp) (credit : t.credit = s.credit := by simp)
    (recipe : t.recipe = s.recipe := by simp) : t.Accounted :=
  h.moved (fun k hk => by rw [State.AccountedAs, sock, exer, credit]; exact hk) (congrArg _ exer) slot
    (congrArg _ credit) recipe

theorem foldl {α : Type} {f : State → α → State} (h : s.Accounted)
    (turn : ∀ (u : State) a, u.Accounted → (f u a).Accounted) (l : List α) : (l.foldl f s).Accounted :=
  List.foldlRecOn l f h fun u hu a _ => turn u a hu

/-- The exerciser moved by play's own moves, in a RUNNING dynamic run or without a change of its state. -/
theorem plays (h : s.Accounted) (follows : s.exer.Follows t.exer)
    (awake : s.slot.state = .running ∧ s.exer.dynamic = true ∨ t.exer.state = s.exer.state)
    (sock : t.sock = s.sock := by simp) (slot : t.slot.runs = s.slot.runs := by simp)
    (credit : t.credit = s.credit := by simp) (recipe : t.recipe = s.recipe := by simp) : t.Accounted := by
  obtain ⟨dynamic, threshold, marks, window⟩ := follows
  refine h.of_parts (fun k => ?_) ⟨fun at_work => ?_, marks h.play.2⟩ threshold slot (congrArg _ credit) recipe
  · rw [State.AccountedAs, sock, credit]
    exact (h.socket k).counts fun _ => window k
  · have live : s.slot.state = .running ∧ s.exer.dynamic = true :=
      awake.elim id fun same => h.play.1 (same ▸ at_work)
    have state : t.slot.state = s.slot.state := congrArg Prod.fst slot
    rw [state, dynamic]
    exact live

/-- R127, R128: an exerciser at work is in a RUNNING dynamic run. -/
theorem at_work (h : s.Accounted) {x : ExerState} (is : s.exer.state = x) (not_idle : x ≠ .idle := by nofun) :
    s.slot.state = .running ∧ s.exer.dynamic = true :=
  h.play.1 (is.trans_ne not_idle)

/-- R12, R17, R18: outside a run the slot moves with its sockets at rest; the drain timer belongs to DRAINING. -/
theorem elsewhere (h : s.Accounted) (before : s.slot.state.inRun = false) (after : t.slot.state.inRun = false)
    (drain : t.slot.drainTimer.isSome = true → t.slot.state = .draining)
    (arm : t.slot.armTimer = s.slot.armTimer := by simp) (paused : t.slot.paused = s.slot.paused := by simp)
    (sock : t.sock = s.sock := by simp) (exer : t.exer = s.exer := by simp) (credit : t.credit = s.credit := by simp)
    (recipe : t.recipe = s.recipe := by simp) : t.Accounted := by
  obtain ⟨armed, -, pausing, counting⟩ := h.timers
  have idle {x : SlotState} (live : x.inRun = true) : s.slot.state ≠ x := fun is =>
    Bool.false_ne_true (before.symm.trans ((congrArg _ is).trans live))
  refine ⟨fun k => ?_, ⟨fun on => ?_, drain, fun on => ?_, fun on => ?_⟩, ⟨fun at_work => ?_, ?_⟩, ?_, ?_, ?_,
    recipe ▸ h.recipe⟩
  · rw [State.AccountedAs, sock, exer, credit, after]
    exact before ▸ h.socket k
  · exact absurd (armed (arm ▸ on)) (idle rfl)
  · exact absurd (pausing (paused ▸ on)) (idle rfl)
  · exact absurd (counting (credit ▸ on)) (idle rfl)
  · exact absurd (h.play.1 (exer ▸ at_work)).1 (idle rfl)
  · rw [exer]
    exact h.play.2
  · exact fun live => absurd (after.symm.trans live) Bool.false_ne_true
  · rw [credit]
    exact h.limit
  · exact fun live => absurd (after.symm.trans live) Bool.false_ne_true

/-- A recipe whose GENERAL section can run. -/
theorem setRecipe (h : s.Accounted) {x : Recipe} (runnable : x.Runnable) : (s.setRecipe x).Accounted :=
  ⟨h.socket, h.timers, h.play, h.threshold, h.limit, h.below, runnable⟩

/-! ### One socket -/

/-- One socket's record replaced within its laws. -/
theorem put (h : s.Accounted) (k : Fin 48) {r : SocketRec}
    (socket : s.AccountedAs s.slot.state.inRun s.credit.target k →
      SocketAccounted s.slot.state.inRun s.credit.target r.state r.switchClosed (s.credit.accounts.get k).credited
        (s.exer.compare.get k).windowCount) : (s.putSocket k r).Accounted :=
  h.moved (fun j hj => by
    by_cases same : k = j
    · subst same
      rw [State.AccountedAs, State.putSocket_get_self]
      exact socket hj
    · have other : (s.putSocket k r).sock.sockets.get j = s.sock.sockets.get j := Bank.get_set_ne _ _ same
      rw [State.AccountedAs, other]
      exact hj) rfl rfl rfl rfl

/-- A record with state and switch as they were. -/
theorem mark (h : s.Accounted) (k : Fin 48) {r : SocketRec} (state : r.state = (s.sock.sockets.get k).state := by rfl)
    (switch : r.switchClosed = (s.sock.sockets.get k).switchClosed := by rfl) : (s.putSocket k r).Accounted :=
  h.put k fun hk => by rw [state, switch]; exact hk

/-- R56, R76, R137: a socket short of its target leaves for a state without power, its window emptied. -/
theorem left (h : s.Accounted) (k : Fin 48) {r : SocketRec} (before : (s.sock.sockets.get k).state.short = true)
    (after : r.state.short = true) (unpowered : r.state.powered = false)
    (switch : r.switchClosed = (s.sock.sockets.get k).depart.switchClosed)
    (resting : s.slot.state.inRun = false → r.state.resting = true) : (s.left k r).Accounted := by
  refine h.moved (fun j hj => ?_) (s.left_plays r) rfl rfl rfl
  by_cases same : k = j
  · subst same
    have placed : (s.left k r).sock.sockets.get k = r := State.putSocket_get_self s k r
    rw [State.AccountedAs, placed]
    exact hj.moves before after (switch.trans (hj.departed.trans unpowered.symm)) resting
      fun _ => s.left_window r hj.window
  · have other : (s.left k r).sock.sockets.get j = s.sock.sockets.get j := Bank.get_set_ne _ _ same
    rw [State.AccountedAs, other, s.left_compare_ne r same]
    exact hj

/-! ### The end of a run (R17, R19) -/

/-- The run is over: sockets and credit within their laws become a quiesced part's. -/
theorem ended (socket : ∀ k, s.AccountedAs s.slot.state.inRun s.credit.target k)
    (limit : s.credit.currentRun ≤ s.credit.runLimit) (recipe : s.recipe.Runnable) (quiesced : s.Quiesced t)
    (sock : t.sock = { s.sock with sockets := s.sock.sockets.map SocketRec.endRun })
    (not_live : t.slot.state.inRun = false) (timers : t.TimerLaw) (same : t.recipe = s.recipe) : t.Accounted := by
  obtain ⟨-, -, -, -, credit, idle, -, -, -, hold, stop, -, -, -, -, windows, -⟩ := quiesced
  refine ⟨fun k => ?_, timers, ⟨fun at_work => absurd idle at_work, fun on => ?_, fun on => ?_⟩,
    fun live => absurd (not_live.symm.trans live) Bool.false_ne_true, ?_,
    fun live => absurd (not_live.symm.trans live) Bool.false_ne_true, same ▸ recipe⟩
  · have socks : t.sock.sockets.get k = (s.sock.sockets.get k).endRun := by rw [sock, Bank.get_map]
    rw [State.AccountedAs, socks, credit, not_live, windows]
    exact (socket k).endRun rfl
  · exact absurd (hold.symm.trans on) Bool.false_ne_true
  · exact absurd (stop.symm.trans on) Bool.false_ne_true
  · rw [credit]
    exact limit

theorem draining (socket : ∀ k, s.AccountedAs s.slot.state.inRun s.credit.target k)
    (limit : s.credit.currentRun ≤ s.credit.runLimit) (recipe : s.recipe.Runnable) (c : EndCause) :
    (s.enterDraining c).Accounted :=
  ended socket limit recipe (s.enterDraining_quiesced c) (s.enterDraining_sock c) (by simp [SlotState.inRun])
    (by simp [State.TimerLaw, CreditUnit.endRun]) (by simp)

section Shared

variable (h : s.Accounted)

include h

theorem enterDraining (c : EndCause) : (s.enterDraining c).Accounted := draining h.socket h.limit h.recipe c

theorem enterSafe (c : EndCause) (f : FailureKind) (n : Fin 12) (x : Source) : (s.enterSafe c f n x).Accounted :=
  ended h.socket h.limit h.recipe (s.enterSafe_quiesced c f n x) (s.enterSafe_sock c f n x) (by simp [SlotState.inRun])
    (by simp [State.TimerLaw, CreditUnit.endRun]) (by simp)

theorem logFailure (f : FailureKind) (k : Option (Fin 48)) (n : Option Nat) (d : Word16) :
    (s.logFailure f k n d).Accounted :=
  h.still

theorem notify (c : Fin 12) (x : Source) : (s.notify c x).Accounted := h.still

theorem checkRunEnd : s.checkRunEnd.Accounted := by
  unfold State.checkRunEnd
  split
  · exact h.enterDraining _
  · exact h

/-- R68: only a socket short of its target is retired. -/
theorem retire {k : Fin 48} (short : (s.sock.sockets.get k).state.short = true) (cause : RetireCause) :
    (s.retire k cause).Accounted := by
  rw [State.retire_eq]
  have left : (s.left k ((s.sock.sockets.get k).retired cause)).Accounted :=
    h.left k short rfl rfl rfl fun _ => rfl
  exact ((left.logFailure _ _ _ _).notify 2 .a).checkRunEnd

/-- R67: only a powered socket is isolated. -/
theorem isolate {k : Fin 48} (powered : (s.sock.sockets.get k).state.powered = true) : (s.isolate k).Accounted := by
  have short := SocketState.short_of_powered powered
  by_cases limit : (s.sock.sockets.get k).retries = s.sock.retryLimit
  · rw [State.isolate_retires limit]
    exact h.retire short _
  · rw [State.isolate_cools limit]
    refine h.left k short rfl rfl rfl fun idle => ?_
    exact absurd (idle.symm.trans ((h.socket k).live_of_powered powered)) Bool.false_ne_true

/-- R72: only a powered socket is held off. -/
theorem holdOff (z : Fin 6) : (s.holdOff z).Accounted := by
  refine h.foldl (fun u k hu => ?_) _
  split
  · next out =>
    obtain ⟨-, powered⟩ := (Bool.and_eq_true _ _).mp out
    dsimp only
    rw [State.depart_modSocket]
    refine hu.left k (SocketState.short_of_powered powered) rfl rfl rfl fun idle => ?_
    exact absurd (idle.symm.trans ((hu.socket k).live_of_powered powered)) Bool.false_ne_true
  · exact hu

theorem railFault (r : Fin 4) (mv : Nat) : (s.railFault r mv).Accounted := by
  have faulted {u : State} (hu : u.Accounted) :
      (if u.slot.state.inRun then u.enterDraining .railFault else u).Accounted := by
    split
    · exact hu.enterDraining _
    · exact hu
  exact faulted h.still

/-- Sockets that are all powered or short, moved in a run. -/
theorem powers (live : s.slot.state.inRun = true) {f : Fin 48 → SocketRec}
    (on : ∀ k, f k = s.sock.sockets.get k ∨ (s.sock.sockets.get k).state.short = true ∧ (f k).state.short = true
      ∧ (f k).switchClosed = (f k).state.powered ∧ ((f k).state.powered = false →
        (s.sock.sockets.get k).state.powered = false)) :
    (s.setSock { s.sock with sockets := Bank.ofFn f }).Accounted := by
  refine h.moved (fun k hk => ?_) rfl rfl rfl rfl
  have get : (s.setSock { s.sock with sockets := Bank.ofFn f }).sock.sockets.get k = f k := Bank.get_ofFn f k
  rw [State.AccountedAs, get]
  rcases on k with same | ⟨before, after, switch, off⟩
  · rw [same]
    exact hk
  · exact hk.moves before after switch (fun idle => absurd (idle.symm.trans live) Bool.false_ne_true)
      fun dark => hk.window (off dark)

/-! ### Play and the entry to RUNNING (R12, R70, R127, R130, R135) -/

/-- R130: an IDLE exerciser stays IDLE. -/
theorem setHolds (budget pause : Bool) : (s.setHolds budget pause).Accounted := by
  refine h.plays (s.setHolds_follows budget pause) ?_
  by_cases idle : s.exer.state = .idle
  · refine .inr ?_
    rw [State.setHolds_eq]
    split
    · rfl
    · split
      · rfl
      · split
        · next held => exact absurd (held.1.symm.trans idle) nofun
        · rfl
  · exact .inl (h.play.1 idle)

/-- R132: settings move the state of a STARVED exerciser alone. -/
theorem applySettings (x : Settings) : (s.applySettings x).Accounted := by
  refine h.plays (s.applySettings_follows x) ?_
  by_cases starved : s.exer.state = .starved
  · exact .inl (h.at_work starved)
  · exact .inr (s.applySettings_exerState x starved)

theorem setExer {e : Exerciser} (follows : s.exer.Follows e) (state : e.state = s.exer.state) :
    (s.setExer e).Accounted :=
  h.plays follows (.inr state)

theorem takeSettings (x : Settings) (late : Bool) : (s.takeSettings x late).Accounted := by
  unfold State.takeSettings
  dsimp only
  split
  · split
    · exact h.setExer .of_eq rfl
    · exact h.setExer .of_eq rfl
  · refine applySettings ?_ x
    exact h.setExer .of_eq rfl

/-- R142: the counts noted. -/
theorem note : s.note.Accounted := by
  refine h.moved (fun k hk => ?_) rfl rfl rfl rfl
  have noted : s.note.credit.accounts.get k =
      { s.credit.accounts.get k with notedOff := (s.sock.sockets.get k).offCount } := Bank.get_ofFn _ k
  rw [State.AccountedAs, noted]
  exact hk

/-- R142: the credit interval belongs to RUNNING. -/
theorem setTimer (running : s.slot.state = .running) (x : Timer) :
    (s.setCredit { s.credit with timer := x }).Accounted := by
  obtain ⟨arm, drain, paused, -⟩ := h.timers
  exact ⟨h.socket, ⟨arm, drain, paused, fun _ => running⟩, h.play, h.threshold, h.limit, h.below, h.recipe⟩

/-- R70: a socket retried was ISOLATED. -/
theorem retryDue (live : s.slot.state.inRun = true) : s.retryDue.Accounted := by
  refine h.powers live fun k => ?_
  dsimp only
  split
  · next due =>
    obtain ⟨isolated, -⟩ := SocketRec.due_iff.mp ((Bool.and_eq_true _ _).mp due).1
    exact .inr ⟨by rw [isolated]; rfl, rfl, rfl, nofun⟩
  · exact .inl rfl

/-- R73, R70: a zone's sockets released were HELD_OFF, those retried ISOLATED. -/
theorem releaseZone (z : Fin 6) : (s.releaseZone z).Accounted := by
  unfold State.releaseZone
  split
  · next live =>
    refine h.powers live fun k => ?_
    dsimp only
    split
    · split
      · next held =>
        have on := SocketRec.release_powered (s.sock.sockets.get k)
        refine .inr ⟨by rw [held]; rfl, SocketState.short_of_powered on, ?_, fun off => ?_⟩
        · rw [on, SocketRec.release_closed]
        · exact absurd (off.symm.trans on) Bool.false_ne_true
      · split
        · next due =>
          obtain ⟨isolated, -⟩ := SocketRec.due_iff.mp ((Bool.and_eq_true _ _).mp due).1
          exact .inr ⟨by rw [isolated]; rfl, rfl, rfl, nofun⟩
        · exact .inl rfl
    · exact .inl rfl
  · exact h

/-- R48: a socket switched on, or held off at once, was OFF. -/
theorem switchOn (live : s.slot.state.inRun = true) : s.switchOn.Accounted := by
  refine h.powers live fun k => ?_
  dsimp only
  split
  · next was =>
    have dark : (s.sock.sockets.get k).state.powered = false := by rw [was]; rfl
    have short : (s.sock.sockets.get k).state.short = true := by rw [was]; rfl
    split
    · exact .inr ⟨short, rfl, (h.socket k).switch.trans dark, fun _ => dark⟩
    · exact .inr ⟨short, rfl, rfl, nofun⟩
  · exact .inl rfl

/-- R12: the slot's own move to RUNNING. -/
theorem entersRunning (arming : s.slot.state = .arming) :
    ((s.setSlot { s.slot with armTimer := none }).moveTo .running).Accounted := by
  have live : s.slot.state.inRun = true := by rw [arming]; rfl
  have socket (k : Fin 48) : s.AccountedAs true s.credit.target k := live ▸ h.socket k
  obtain ⟨-, drain, -, -⟩ := h.timers
  refine ⟨socket, ⟨nofun, fun on => ?_, fun _ => rfl, fun _ => rfl⟩, ⟨fun at_work => ?_, h.play.2⟩,
    fun _ => h.threshold live, h.limit, fun _ => h.below live, h.recipe⟩
  · exact absurd (arming.symm.trans (drain on)) nofun
  · exact absurd (arming.symm.trans (h.play.1 at_work).1) nofun

theorem underway (arming : s.slot.state = .arming) : s.underway.Accounted := by
  have entered := h.entersRunning arming
  have quiet : s.exer.state ≠ .playing := fun playing =>
    absurd (arming.symm.trans (h.at_work playing).1) nofun
  have running : s.running.Accounted := by
    unfold State.running State.beginPlay
    split
    · next dynamic => exact entered.plays (State.takeFirstReady_follows _ (.inr quiet)) (.inl ⟨rfl, dynamic⟩)
    · exact entered
  have is : s.running.slot.state = .running := by rw [State.running_slot]
  have live : s.running.slot.state.inRun = true := by rw [is]; rfl
  exact (running.retryDue live).note.setTimer is _

theorem armingTest : s.armingTest.Accounted := by
  unfold State.armingTest
  split
  · next armed =>
    have begun := h.underway armed.1
    rw [State.enterRunning_eq]
    split
    · exact begun.enterDraining _
    · exact begun
  · exact h

end Shared

end State.Accounted

end Sys2Proof.Machine
end

section
/-! The accounts' bundle through the events of sockets, rails and zones and of the slot. -/

namespace Sys2Proof.Machine

-- One proof at a time: a proof per thread, each with its own stack, would pass the memory limit of the check.
set_option Elab.async false

theorem State.attempting_state {s : State} (h : s.attempting = true) : s.slot.state = .identifying := by
  simp only [State.attempting, Bool.and_eq_true, beq_iff_eq] at h
  exact h.2

namespace State.Accounted

variable {s : State} (h : s.Accounted)

include h

/-! ### Sockets (R61 to R71) -/

section Sockets

variable {k : Fin 48}

theorem notifySocket (x : Source) (k : Fin 48) : (s.notifySocket x k).Accounted := h.still

/-- R63, R66: a trip counted and logged isolates its socket. -/
theorem trips (powered : (s.sock.sockets.get k).state.powered = true) {r : SocketRec} (f : FailureKind) (d : Word16)
    (x : Source) (state : r.state = (s.sock.sockets.get k).state := by rfl)
    (switch : r.switchClosed = (s.sock.sockets.get k).switchClosed := by rfl) :
    ((((s.putSocket k r).logFailure f (some k) none d).notifySocket x k).isolate k).Accounted := by
  refine (((h.mark k state switch).logFailure f _ _ d).notifySocket x k).isolate ?_
  simp [state, powered]

theorem hardTrip (powered : (s.sock.sockets.get k).state.powered = true) (v : Nat) : (s.hardTrip k v).Accounted :=
  h.trips powered _ _ _

theorem softTrip (powered : (s.sock.sockets.get k).state.powered = true) (v : Nat) : (s.softTrip k v).Accounted :=
  h.trips powered _ _ _

/-- R65: between ACTIVE and WARNED. -/
theorem warns {x : SocketState} (before : (s.sock.sockets.get k).state.powered = true) (after : x.powered = true) :
    (s.modSocket k fun r => { r with state := x }).Accounted := by
  refine h.put k fun hk => hk.moves (SocketState.short_of_powered before) (SocketState.short_of_powered after)
    ((hk.switch.trans before).trans after.symm) (fun idle => ?_) fun off => ?_
  · exact absurd (idle.symm.trans (hk.live_of_powered before)) Bool.false_ne_true
  · exact absurd (off.symm.trans after) Bool.false_ne_true

theorem warnStage (k : Fin 48) : (s.warnStage k).Accounted := by
  unfold State.warnStage
  dsimp only
  split
  · next active =>
    split
    · exact (h.warns (x := .warned) (by rw [active]; rfl) rfl).notifySocket _ k
    · exact h
  · next warned =>
    split
    · exact h.warns (x := .active) (by rw [warned]; rfl) rfl
    · exact h
  · exact h

theorem tripStage (k : Fin 48) (v : Nat) : (s.tripStage k v).Accounted := by
  unfold State.tripStage
  dsimp only
  split
  · next trips => exact h.softTrip (by rw [trips.1]; rfl) v
  · exact h

theorem judgeSample (powered : (s.sock.sockets.get k).state.powered = true) (v : Nat) (w : Wire) :
    (s.judgeSample k v w).Accounted := by
  unfold State.judgeSample
  dsimp only
  split
  · exact h.hardTrip powered v
  · refine (warnStage ?_ k).tripStage k v
    exact h.mark k

theorem socketSampled (k : Fin 48) (ma : Nat) : (s.socketSampled k ma).Accounted := by
  have sampled (f : SocketRec → SocketRec) (hf : ∀ r, f r = r.sampled (min 4000 ma)) : (s.modSocket k f).Accounted := by
    rw [State.modSocket_eq, hf]
    exact h.mark k
  unfold State.socketSampled
  dsimp only
  split
  · next judged =>
    split
    · refine (sampled _ fun _ => rfl).judgeSample ?_ _ _
      obtain ⟨powered, -⟩ := (Bool.and_eq_true _ _).mp judged
      rw [State.modSocket_eq, State.putSocket_get_self]
      exact powered
    · exact sampled _ fun _ => rfl
  · exact sampled _ fun _ => rfl

theorem cooldownExpires (k : Fin 48) : (s.cooldownExpires k).Accounted := by
  by_cases isolated : (s.sock.sockets.get k).state = .isolated
  · by_cases now : s.slot.state = .running ∧ s.zoneRegulating k = true
    · rw [State.cooldownExpires_retries isolated now]
      refine h.put k fun hk => hk.moves (by rw [isolated]; rfl) rfl rfl (fun idle => ?_) nofun
      rw [now.1] at idle
      cases idle
    · rw [State.cooldownExpires_marks isolated now]
      exact h.mark k
  · rw [State.cooldownExpires, if_neg isolated]
    exact h.mark k

end Sockets

/-! ### Rails (R46 to R52) -/

theorem sequenceStep (r : Fin 4) : (s.sequenceStep r).Accounted := by
  unfold State.sequenceStep
  split
  · next arming =>
    split
    · exact h.still
    · split
      · refine switchOn ?_ (by rw [State.setRail_slot, arming]; rfl)
        exact h.still
      · exact h
  · exact h

theorem judgeRegulated (r : Fin 4) : (s.judgeRegulated r).Accounted := by
  unfold State.judgeRegulated
  dsimp only
  split
  · exact h.still
  · split
    · refine railFault ?_ _ _
      split <;> exact h.still
    · split <;> exact h.still

theorem judgeRail (r : Fin 4) : (s.judgeRail r).Accounted := by
  have judged : (s.modRail r fun y => { y with inWindow := railInWindow y }).Accounted := h.still
  unfold State.judgeRail
  dsimp only
  split
  · exact h
  · exact h
  · split
    · exact ((judged.still : (State.modRail _ r _).Accounted).sequenceStep r).armingTest
    · exact judged
  · split
    · exact judged
    · exact judged.judgeRegulated r

theorem railSampled (readings : Bank RailReading 4) : (s.railSampled readings).Accounted := by
  refine foldl (h.still : (s.setRail _).Accounted) (fun u r hu => ?_) _
  split
  · exact hu
  · exact hu.judgeRail r

theorem settleExpires (r : Fin 4) : (s.settleExpires r).Accounted := by
  unfold State.settleExpires
  dsimp only
  split
  · exact h.railFault r _
  · exact h.still

/-! ### The control pass (R82 to R106) -/

theorem modZone (z : Fin 6) (f : ZoneRec → ZoneRec) : (s.modZone z f).Accounted := h.still

theorem sensorFails (z : Fin 6) : (s.sensorFails z).Accounted := by
  unfold State.sensorFails
  dsimp only
  split
  · refine holdOff ?_ z
    exact h.still
  · exact h.still

theorem zoneTrips (z : Fin 6) (t : Int) : (s.zoneTrips z t).Accounted := by
  unfold State.zoneTrips
  dsimp only
  split
  · refine holdOff ?_ z
    exact h.still
  · exact h.still

theorem zoneReturns (z : Fin 6) (t : Int) (c : ZoneCapture) : (s.zoneReturns z t c).Accounted :=
  ((h.modZone z _).releaseZone z).modZone z _

theorem classifyInvalid (z : Fin 6) : (s.classifyInvalid z).Accounted := by
  unfold State.classifyInvalid
  dsimp only
  split
  · split
    · exact h.sensorFails z
    · exact h.still
  · split
    · exact h.sensorFails z
    · exact h.still
  · exact h

theorem classifyValid (z : Fin 6) (t : Int) (c : ZoneCapture) (b : ZoneBoard) :
    (s.classifyValid z t c b).Accounted := by
  unfold State.classifyValid
  split
  · split
    · exact h.zoneTrips z t
    · exact h.still
  · split
    · exact h.zoneReturns z t c
    · exact h
  · split
    · exact h.zoneTrips z t
    · exact h.zoneReturns z t c
  · exact h

theorem classify (z : Fin 6) (code : Nat) (c : ZoneCapture) (board : Option ZoneBoard) :
    (s.classify z code c board).Accounted := by
  unfold State.classify
  split
  · exact h.classifyInvalid z
  · split
    · exact h.classifyValid z _ c _
    · exact h.still

theorem zoneStep (cap : PassCapture) (code : Nat) (computing : Bool) (z : Fin 6) :
    (s.zoneStep cap code computing z).Accounted := by
  unfold State.zoneStep
  dsimp only
  split
  · exact (h.modZone z _).classify z _ _ _
  · exact h.still

theorem controlStep (cap : PassCapture) (computing : Bool) (z : Fin 6) :
    (s.controlStep cap computing z).Accounted := by
  unfold State.controlStep
  split
  · exact h.still
  · exact h

/-- R105, R106, R130: the budget stage acts on play through the hold set. -/
theorem budgetStage (cap : PassCapture) (comp : Fin 6 → Bool) : (s.budgetStage cap comp).Accounted := by
  have granted : (s.grantStage cap).Accounted := by
    unfold State.grantStage
    dsimp only
    split <;> exact h.still
  have budgeted (b : BudgetRec) : ((s.grantStage cap).setBudgetRec b).Accounted := by
    unfold State.setBudgetRec
    exact granted.still
  unfold State.budgetStage
  split
  · unfold State.holdStage
    dsimp only
    split
    · split
      · exact ((budgeted _).setHolds _ _).notify 6 .b
      · exact budgeted _
    · split
      · exact (budgeted _).setHolds _ _
      · exact budgeted _
  · exact h

theorem passJudged (cap : PassCapture) (codes : Bank Nat 6) : (s.passJudged cap codes).Accounted := by
  have begun : (s.setTherm { s.therm with pass := none }).Accounted := h.still
  have turned := begun.foldl (fun _ z hu => hu.zoneStep cap (codes.get z) (s.computing cap z) z) (List.finRange 6)
  have controlled := turned.foldl (fun _ z hu => hu.controlStep cap (s.computing cap z) z) (List.finRange 6)
  exact budgetStage controlled cap _

/-! ### The slot (R4 to R28) -/

/-- R17: outside DRAINING the drain timer does not run. -/
theorem no_drain (state : s.slot.state ≠ .draining) : s.slot.drainTimer = none :=
  Option.not_isSome_iff_eq_none.mp (mt h.timers.2.1 state)

/-- R4 to R28: the slot moves outside a run and outside DRAINING. -/
theorem moveTo (x : SlotState) (before : s.slot.state.inRun = false) (state : s.slot.state ≠ .draining)
    (after : x.inRun = false := by rfl) : (s.moveTo x).Accounted := by
  refine h.elsewhere before (by simp [after]) fun on => ?_
  simp [h.no_drain state] at on

theorem enterIdentifying (before : s.slot.state.inRun = false) (state : s.slot.state ≠ .draining) :
    s.enterIdentifying.Accounted := by
  refine moveTo ?_ .identifying before state
  exact h.still

/-- R5, R20: the slot's own record moved, its state and timers as they were. -/
theorem setSlot {r : SlotRec} (runs : r.runs = s.slot.runs) : (s.setSlot r).Accounted :=
  h.still rfl rfl runs

theorem unseat : s.unseat.Accounted := by
  have unseated :
      (s.setSlot ({ s.slot with seated := false, openTimer := none }).watchMake).discardIdentity.Accounted :=
    h.still rfl rfl rfl
  unfold State.unseat
  dsimp only
  split
  · exact unseated.enterSafe _ _ _ _
  · next idle =>
    have before : s.slot.state.inRun = false := SlotState.inRun_of_not_live idle
    have stays : s.slot.state ≠ .draining := fun is => by simp [is, SlotState.live] at idle
    split
    · refine moveTo (notify ?_ 8 .b) .empty before stays
      exact unseated.still
    · exact moveTo (unseated.notify 8 .b) .empty before stays
    · exact moveTo (unseated.notify 8 .b) .empty before stays
    · exact unseated.notify 8 .b

theorem seatFound : s.seatFound.Accounted := by
  unfold State.seatFound
  dsimp only
  split
  · next empty =>
    refine enterIdentifying ?_ (by simp [empty, SlotState.inRun]) (by simp [empty])
    exact h.setSlot rfl
  · exact h.setSlot rfl

theorem chainOpens : s.chainOpens.Accounted := by
  unfold State.chainOpens
  dsimp only
  split
  · refine enterSafe ?_ _ _ _ _
    exact h.setSlot rfl
  · refine notify ?_ _ _
    exact h.setSlot rfl

theorem silenceExpires : s.silenceExpires.Accounted := by
  unfold State.silenceExpires
  dsimp only
  split
  · exact enterSafe h.still _ _ _ _
  · exact h.still

section Identifying

variable (attempting : s.attempting = true)

include attempting

theorem attemptFails : s.attemptFails.Accounted := by
  have state : s.slot.state = .identifying := State.attempting_state attempting
  unfold State.attemptFails
  split
  · exact h.still
  · refine moveTo ?_ .unidentified (by rw [State.setIdent_slot, state]; rfl) (state.trans_ne nofun)
    exact h.still

theorem attemptEnds (read : BusRead) : (s.attemptEnds read).Accounted := by
  have state : s.slot.state = .identifying := State.attempting_state attempting
  unfold State.attemptEnds
  split
  · exact h.attemptFails attempting
  · split
    · refine moveTo ?_ .ready (by rw [State.setIdent_slot, state]; rfl) (state.trans_ne nofun)
      exact h.still
    · exact h.attemptFails attempting

end Identifying

/-- R18: the drain timer stops as DRAINING is left. -/
theorem drainEnds (draining : s.slot.state = .draining) : s.drainEnds.Accounted := by
  unfold State.drainEnds
  refine h.elsewhere (by rw [draining]; rfl) ?_ nofun
  rw [State.moveTo_slot]
  dsimp only
  split <;> rfl

end State.Accounted

end Sys2Proof.Machine
end

section
/-! The accounts' bundle through the credit interval's expiry, the events of play, the resets and START. -/

namespace Sys2Proof.Machine

-- One proof at a time: a proof per thread, each with its own stack, would pass the memory limit of the check.
set_option Elab.async false

/-! ### The credit interval's expiry (R143 to R147) -/

section Second

variable {s : State}

/-- R144: a second credited to a socket short of its target brings it to the target at most. -/
theorem SocketAccounted.credits {live : Bool} {target credited window : Nat} {x : SocketState} {closed : Bool}
    (h : SocketAccounted live target x closed credited window) (powered : x.powered = true)
    (more : credited + 1 ≠ target) : SocketAccounted live target x closed (credited + 1) window :=
  .of_short (SocketState.short_of_powered powered) h.switch h.resting h.window
    (lt_of_le_of_ne (h.below (SocketState.short_of_powered powered)) more)

/-- R75, R146: a socket completed stands at its target, its switch open and its window empty. -/
theorem SocketAccounted.completes {live : Bool} {target credited window : Nat} {r : SocketRec}
    (h : SocketAccounted live target r.state r.switchClosed credited window) :
    SocketAccounted live target r.completed.state r.completed.switchClosed target 0 :=
  ⟨h.departed, fun _ => rfl, fun _ => rfl, le_rfl, nofun, fun _ => iff_of_true rfl rfl⟩

section Done

variable (s : State)

theorem State.secondDone_slot : s.secondDone.slot = s.slot := s.secondDone_completes.slot.trans s.credited_slot

theorem State.secondDone_recipe : s.secondDone.recipe = s.recipe :=
  s.secondDone_completes.recipe.trans s.credited_recipe

theorem State.secondDone_credit : s.secondDone.credit.timer = none ∧ s.secondDone.credit.target = s.credit.target
    ∧ s.secondDone.credit.currentRun = s.credit.currentRun + 1
    ∧ s.secondDone.credit.runLimit = s.credit.runLimit := by
  rw [s.secondDone_completes.credit, s.credited_credit]
  exact ⟨rfl, rfl, rfl, rfl⟩

theorem State.secondDone_exer : s.secondDone.exer.state = s.exer.state
    ∧ s.secondDone.exer.holdRequested = s.exer.holdRequested ∧ s.secondDone.exer.stopRequested = s.exer.stopRequested
    ∧ s.secondDone.exer.dynamic = s.exer.dynamic ∧ s.secondDone.exer.threshold = s.exer.threshold := by
  rw [s.secondDone_completes.exer, s.credited_exer]
  exact ⟨rfl, rfl, rfl, rfl, rfl⟩

end Done

namespace State.Accounted

variable (h : s.Accounted)

include h

/-- R144, R146: every socket after the second credited. -/
theorem secondDone_socket (k : Fin 48) : s.secondDone.AccountedAs s.slot.state.inRun s.credit.target k := by
  have second := s.secondDone_completes
  have hk := h.socket k
  have credited := s.credited_account k
  rw [State.AccountedAs, second.socket, second.account, second.compare, s.credited_sock, s.credited_exer]
  by_cases reaches : s.Reaches k
  · obtain ⟨running, creditable, last⟩ := reaches
    have earns : s.earns k = true := by simp [State.earns, running, creditable]
    simp only [if_pos ((s.mem_completing k).mpr ⟨running, creditable, last⟩)]
    rw [credited, if_pos earns]
    exact last ▸ hk.completes
  · simp only [if_neg (mt (s.mem_completing k).mp reaches)]
    rw [credited]
    by_cases earns : s.earns k = true
    · rw [if_pos earns]
      obtain ⟨running, creditable⟩ : s.slot.paused = false ∧ s.creditable k = true := by simpa [State.earns] using earns
      exact hk.credits (State.creditable_powered creditable) fun last => reaches ⟨running, creditable, last⟩
    · rw [if_neg earns]
      exact hk

theorem secondDone_limit (live : s.slot.state.inRun = true) :
    s.secondDone.credit.currentRun ≤ s.secondDone.credit.runLimit := by
  obtain ⟨-, -, run, limit⟩ := s.secondDone_credit
  rw [run, limit]
  exact h.below live

/-- R147: below the run limit the run goes on. -/
theorem secondDone (running : s.slot.state = .running) (more : s.credit.currentRun + 1 ≠ s.credit.runLimit) :
    s.secondDone.Accounted := by
  obtain ⟨-, target, run, limit⟩ := s.secondDone_credit
  obtain ⟨state, hold, stop, dynamic, threshold⟩ := s.secondDone_exer
  obtain ⟨arm, drain, paused, -⟩ := h.timers
  have live : s.slot.state.inRun = true := by rw [running]; rfl
  refine ⟨?_, ?_, ?_, ?_, h.secondDone_limit live, fun _ => ?_, s.secondDone_recipe ▸ h.recipe⟩
  · rw [s.secondDone_slot, target]
    exact h.secondDone_socket
  · rw [State.TimerLaw, s.secondDone_slot]
    exact ⟨arm, drain, paused, fun _ => running⟩
  · rw [State.PlayLaw, s.secondDone_slot, state, hold, stop, dynamic]
    exact h.play
  · rw [s.secondDone_slot, threshold]
    exact h.threshold
  · rw [run, limit]
    exact lt_of_le_of_ne (h.below live) more

/-- R146, R147: an expiry comes in RUNNING, where it credits, ends the run or begins the next second. -/
theorem creditExpires (timer : s.credit.timer.isSome = true) : s.creditExpires.Accounted := by
  obtain ⟨-, -, -, counting⟩ := h.timers
  have running := counting timer
  have ended (c : EndCause) : (s.secondDone.enterDraining c).Accounted := by
    refine draining ?_ (h.secondDone_limit (by rw [running]; rfl)) (s.secondDone_recipe ▸ h.recipe) c
    rw [s.secondDone_slot, s.secondDone_credit.2.1]
    exact h.secondDone_socket
  obtain ⟨finishes, limited, goes_on⟩ := State.creditExpires_running running
  by_cases final : s.Finishes
  · rw [finishes final]
    exact ended _
  · by_cases last : s.credit.currentRun + 1 = s.credit.runLimit
    · rw [limited final last]
      exact ended _
    · rw [goes_on final last]
      exact (h.secondDone running last).setTimer (by rw [s.secondDone_slot, running]) _

end State.Accounted

end Second

/-! ### The accounts at START (R148, R149) -/

section Start

variable {target target' window : Nat} {r : SocketRec} {a : AccountRec}
  (h : SocketAccounted false target r.state r.switchClosed a.credited window) (positive : 1 ≤ target')

include h

theorem SocketAccounted.closed : r.switchClosed = false :=
  h.switch.trans (SocketState.not_powered (h.resting rfl))

include positive

/-- R148: START NEW opens every account. -/
theorem SocketAccounted.renewed (populated : Bool) : SocketAccounted true target' (r.clearRun.renew populated).state
    (r.clearRun.renew populated).switchClosed 0 0 := by
  have closed : (r.clearRun.renew populated).switchClosed = false := h.closed
  rw [closed]
  cases populated with
  | true => exact .of_short rfl rfl nofun (fun _ => rfl) positive
  | false => exact ⟨rfl, nofun, fun _ => rfl, Nat.zero_le _, fun _ => rfl, absurd rfl⟩

/-- R149: START CONTINUE completes what stands at the new target, and leaves the rest short of it. -/
theorem SocketAccounted.carriedOn {limit : Nat} {now : Word32} :
    SocketAccounted true target' (r.clearRun.carryOn (decide (target' ≤ a.credited)) limit).state
      (r.clearRun.carryOn (decide (target' ≤ a.credited)) limit).switchClosed
      (a.carryOn r.state target' now).credited 0 := by
  have closed : (r.clearRun.carryOn (decide (target' ≤ a.credited)) limit).switchClosed = false := h.closed
  have state : (r.clearRun.carryOn (decide (target' ≤ a.credited)) limit).state =
      r.state.continued (decide (target' ≤ a.credited)) := rfl
  have reaches : SocketAccounted true target' .completed false target' 0 :=
    ⟨rfl, nofun, fun _ => rfl, le_rfl, nofun, fun _ => iff_of_true rfl rfl⟩
  have stays {x : SocketState} {n : Nat} (short : x.short = true) (off : x.powered = false) (below : n < target') :
      SocketAccounted true target' x false n 0 := .of_short short off.symm nofun (fun _ => rfl) below
  have resting := h.resting rfl
  have vacant := h.vacant
  rw [closed, state]
  generalize r.state = x at resting vacant
  unfold AccountRec.carryOn SocketState.continued
  by_cases reached : target' ≤ a.credited
  · simp only [reached, decide_true, if_true]
    cases x with
    | off | completed => exact reaches
    | retired => exact stays rfl rfl (Nat.sub_lt positive Nat.one_pos)
    | vacant => exact absurd (positive.trans reached) (by simp [vacant rfl])
    | active | warned | heldOff | isolated => cases resting
  · have below : a.credited < target' := Nat.lt_of_not_le reached
    simp only [reached, decide_false, Bool.false_eq_true, if_false]
    cases x with
    | off | completed | retired => exact stays rfl rfl below
    | vacant => exact ⟨rfl, nofun, fun _ => rfl, below.le, fun _ => vacant rfl, absurd rfl⟩
    | active | warned | heldOff | isolated => cases resting

end Start

/-- R11, R60: the credit unit's run copies at START. -/
theorem State.startRun_counts (s : State) (choice : StartChoice) (g : General) (d : Identity) :
    (s.startRun choice g d).credit.timer = s.credit.timer ∧ (s.startRun choice g d).credit.target = g.target
      ∧ (s.startRun choice g d).credit.currentRun = 0 ∧ (s.startRun choice g d).credit.runLimit = g.runLimit := by
  rw [State.startRun_credit, ((s.copied g d).setAccounts_copies choice d).2]
  exact ⟨rfl, rfl, rfl, rfl⟩

/-! ### Play (R116 to R120, R127 to R139) -/

theorem State.startPlay_onlyPlayMoved (s : State) : OnlyPlayMoved s s.startPlay := by
  unfold State.startPlay State.restartPlay
  split
  · simp [OnlyPlayMoved]
  · split <;> simp [OnlyPlayMoved]
  all_goals simp [OnlyPlayMoved]

theorem State.stopPlay_onlyPlayMoved (s : State) : OnlyPlayMoved s s.stopPlay := by
  unfold State.stopPlay
  split <;> simp [OnlyPlayMoved]

namespace State.Accounted

variable {s : State} (h : s.Accounted)

section Play

include h

/-- R138: a failure counted and logged moves no window. -/
theorem counted (k : Fin 48) : (s.counted k).Accounted := by
  obtain ⟨sock, slot, exer⟩ := s.counted_frame k
  have windows (j : Fin 48) : ((s.counted k).exer.compare.get j).windowCount = (s.exer.compare.get j).windowCount := by
    rw [s.counted_get]
    split <;> rfl
  have logged : (s.counted k).credit = s.credit ∧ (s.counted k).recipe = s.recipe := by
    unfold State.counted State.logFunctional
    dsimp only
    split
    · exact ⟨rfl, rfl⟩
    · exact ⟨by simp, by simp⟩
  obtain ⟨credit, recipe⟩ := logged
  refine h.moved (fun j hj => ?_) (by rw [exer]; rfl) (by rw [slot]) (by rw [credit]) recipe
  rw [State.AccountedAs, sock, credit, windows]
  exact hj

/-- R138, R139: a failing socket is powered. -/
theorem judgeSocket (sound : s.WindowsSound) (k : Fin 48) : (s.judgeSocket k).Accounted := by
  unfold State.judgeSocket
  split
  · next fails =>
    have counted := h.counted k
    dsimp only
    split
    · exact counted
    · refine counted.retire (SocketState.short_of_powered ?_) _
      have sock : (s.counted k).sock = s.sock := (s.counted_frame k).1
      rw [sock]
      exact sound.powered fails
  · exact h

theorem windowsSound (running : s.slot.state = .running) : s.WindowsSound :=
  ⟨fun k => (h.socket k).window, h.threshold (by rw [running]; rfl)⟩

theorem judgePass (running : s.slot.state = .running) : s.judgePass.Accounted := by
  have sound := h.windowsSound running
  refine (List.foldlRecOn (motive := fun u : State => u.Accounted ∧ u.WindowsSound) _ _ ⟨h, sound⟩
    fun u hu k _ => ?_).1
  exact ⟨hu.1.judgeSocket hu.2 k, (State.judgeSocket_judged hu.2 k).sound⟩

theorem takeFrame (st : Store) (id : Byte) : ((s.setStore st).takeFrame id).Accounted :=
  h.plays ((s.setStore st).takeFrame_follows id) (.inr (by simp))

theorem setStore (st : Store) : (s.setStore st).Accounted := h.still

/-- R118 to R120. -/
theorem storePassEnd (wasTail : Bool) : (s.storePassEnd wasTail).Accounted := by
  unfold State.storePassEnd
  split
  · exact h
  · split
    · split
      · exact h
      · split
        · split
          · unfold State.streamEnd
            split
            · exact h.takeFrame _ _
            · exact h.setStore _
          · unfold State.loopEnd
            dsimp only
            split
            · exact h.takeFrame _ _
            · exact h.setStore _
        · exact h.setStore _
    · unfold State.tailEnd
      split
      · exact h.takeFrame _ _
      · split
        · exact h.setStore _
        · exact h
    · exact h

/-- R129, R128: waiting settings emptied and applied. -/
theorem applyWaiting {e : Exerciser} (x : Settings) (follows : s.exer.Follows e) (state : e.state = s.exer.state) :
    ((s.setExer e).applySettings x).Accounted :=
  (h.setExer follows state).applySettings x

/-- R129, step 2. -/
theorem passEnd (running : s.slot.state = .running) (checked wasTail : Bool) :
    (s.passEnd checked wasTail).Accounted := by
  have judged : (if checked then s.judgePass else s).Accounted := by
    split
    · exact h.judgePass running
    · exact h
  unfold State.passEnd
  generalize (if checked = true then s.judgePass else s) = u at judged
  dsimp only
  split
  · have cleared : (if checked then u.setExer u.exer.clearWindows else u).Accounted := by
      split
      · exact judged.setExer (.clearWindows _) rfl
      · exact judged
    generalize (if checked = true then u.setExer u.exer.clearWindows else u) = v at cleared
    have staged : v.applyStaged.Accounted := cleared.applyWaiting _ .of_eq rfl
    exact (staged.storePassEnd wasTail).setExer .of_eq rfl
  · exact judged

/-- Play's own moves, made in a RUNNING dynamic run. -/
theorem playsAlone {t : State} (follows : s.exer.Follows t.exer)
    (awake : s.slot.state = .running ∧ s.exer.dynamic = true ∨ t.exer.state = s.exer.state) (only : OnlyPlayMoved s t) :
    t.Accounted := by
  obtain ⟨slot, -, recipe, -, sock, -, credit, -⟩ := only
  exact h.plays follows awake sock (by rw [slot]) credit recipe

/-- R129, step 3. -/
theorem vectorFollows (playing : s.exer.state = .playing) : s.vectorFollows.Accounted := by
  exact h.playsAlone s.vectorFollows_follows (.inl (h.at_work playing)) s.vectorFollows_onlyPlayMoved

theorem vectorEnds (playing : s.exer.state = .playing) : s.vectorEnds.Accounted := by
  have running := (h.at_work playing).1
  have applied : (s.setExer s.exer.advanceClocks).applyBoundary.Accounted := by
    refine applyWaiting ?_ _ .of_eq rfl
    exact h.setExer .of_eq rfl
  have on : (s.setExer s.exer.advanceClocks).applyBoundary.slot.state = .running := by simp [running]
  have followed {u : State} (hu : u.Accounted) : (if u.exer.state.isPlaying then u.vectorFollows else u).Accounted := by
    split
    · next playing => exact hu.vectorFollows (by simpa [ExerState.isPlaying] using playing)
    · exact hu
  unfold State.vectorEnds
  generalize (s.setExer s.exer.advanceClocks).applyBoundary = u at applied on
  dsimp only
  split
  · refine followed ?_
    split
    · exact applied.passEnd on _ _
    · exact applied.setExer .of_eq rfl
  · exact applied

/-- R136, R137: only a powered socket is compared. -/
theorem strobes (lines : BitVec 48) : (s.strobes lines).Accounted := by
  have strobed : (s.setExer { s.exer with strobeDue := false }).Accounted := h.setExer .of_eq rfl
  unfold State.strobes
  dsimp only
  split
  · next level _ p _ _ _ =>
    split
    · refine h.moved (fun k hk => hk.counts fun off empty => ?_) rfl rfl rfl rfl
      have compared := s.compared_get level p lines k
      rw [if_neg fun on => Bool.false_ne_true (off.symm.trans ((SocketState.powered_iff _).mpr on.1))] at compared
      exact (congrArg CompareRec.windowCount compared).trans empty
    · exact strobed
  · exact strobed

/-- R113, R132: an OPEN frame READY is taken by a STARVED exerciser. -/
theorem frameReady (id : Byte) : (s.frameReady id).Accounted := by
  have filled : (s.setStore (s.store.setStatus id .ready).freeIdleTail).Accounted := h.setStore _
  unfold State.frameReady
  dsimp only
  split
  · next starved =>
    exact filled.plays (State.takeFirstReady_follows _ (.inr (starved.trans_ne nofun))) (.inl (h.at_work starved))
  · exact filled

theorem deliver (f : FrameDesc) (start : Nat) (vectors : List StimVector) :
    (s.deliver f start vectors).Accounted := by
  rw [State.deliver_eq]
  split
  · exact (h.setStore _).frameReady f.id
  · exact h.setStore _

end Play

/-! ### The resets (R24, R59, R125, R141) -/

/-- After a reset the slot is in HOLD, play is at rest and no recipe is stored. -/
theorem of_reset {t : State} (socket : ∀ k, t.AccountedAs false t.credit.target k)
    (slot : t.slot.runs = SlotRec.atReset.runs) (exer : t.exer.plays = Exerciser.atReset.plays)
    (timer : t.credit.timer = none) (run : t.credit.currentRun = 0) (recipe : t.recipe.general = none) :
    t.Accounted := by
  simp only [SlotRec.runs, SlotRec.atReset, Prod.mk.injEq] at slot
  simp only [Exerciser.plays, Exerciser.atReset, Prod.mk.injEq] at exer
  obtain ⟨state, arm, drain, paused⟩ := slot
  obtain ⟨idle, hold, stop, -, -⟩ := exer
  have not_live : t.slot.state.inRun = false := by rw [state]; rfl
  refine ⟨by rw [not_live]; exact socket, ?_, ?_, fun live => ?_, by simp [run], fun live => ?_, fun g stored => ?_⟩
  · simp [State.TimerLaw, arm, drain, paused, timer]
  · simp [State.PlayLaw, idle, hold, stop]
  · exact absurd (not_live.symm.trans live) Bool.false_ne_true
  · exact absurd (not_live.symm.trans live) Bool.false_ne_true
  · exact absurd (recipe.symm.trans stored) nofun

theorem fullReset (s : State) (straps : Straps) (cause : RestartCause) : (s.fullReset straps cause).Accounted := by
  refine of_reset (fun k => ?_) rfl rfl rfl rfl rfl
  have socket : (s.fullReset straps cause).sock.sockets.get k = SocketRec.atReset := Bank.get_replicate _ k
  have account : (s.fullReset straps cause).credit.accounts.get k = { credited := 0, stamp := none, notedOff := 0 } :=
    Bank.get_replicate _ k
  have compare : (s.fullReset straps cause).exer.compare.get k = CompareRec.atReset := Bank.get_replicate _ k
  rw [State.AccountedAs, socket, account, compare]
  exact ⟨rfl, fun _ => rfl, fun _ => rfl, Nat.zero_le _, fun _ => rfl, absurd rfl⟩

include h in
theorem restartReset (straps : Straps) : (s.restartReset straps).Accounted := by
  refine of_reset (fun k => ?_) rfl rfl rfl rfl rfl
  have socket : (s.restartReset straps).sock.sockets.get k = (s.sock.sockets.get k).afterRestart := Bank.get_map _ _ k
  have account : (s.restartReset straps).credit.accounts.get k = { s.credit.accounts.get k with notedOff := 0 } :=
    Bank.get_map _ _ k
  have compare : (s.restartReset straps).exer.compare.get k = (s.exer.compare.get k).afterRestart := Bank.get_map _ _ k
  rw [State.AccountedAs, socket, account, compare]
  exact (h.socket k).afterRestart rfl

/-! ### START (R11, R148, R149) -/

section Start

include h

theorem startRun (ready : s.slot.state = .ready) (choice : StartChoice) {g : General}
    (stored : s.recipe.general = some g) (d : Identity) : (s.startRun choice g d).Accounted := by
  obtain ⟨positive, ordered, threshold⟩ := h.recipe g stored
  obtain ⟨-, drain, -, counting⟩ := h.timers
  obtain ⟨timer, target, run, limit⟩ := s.startRun_counts choice g d
  have rest (k : Fin 48) : s.AccountedAs false s.credit.target k := by
    have hk := h.socket k
    rw [ready] at hk
    exact hk
  have idle : s.exer.state = .idle := by
    by_contra at_work
    exact absurd (ready.symm.trans (h.play.1 at_work).1) nofun
  refine ⟨fun k => ?_, ⟨?_, ?_, ?_, ?_⟩, ⟨fun at_work => ?_, ?_⟩, fun _ => ?_, ?_, fun _ => ?_, ?_⟩
  · have window : ((s.startRun choice g d).exer.compare.get k).windowCount = 0 := by
      rw [State.startRun_compare]
      cases choice <;> rfl
    rw [State.AccountedAs, State.startRun_slot, target, window]
    match choice with
    | .new =>
      rw [State.startNew_socket, State.startNew_account]
      exact (rest k).renewed positive _
    | .continue =>
      rw [State.startContinue_socket, State.startContinue_account]
      exact (rest k).carriedOn positive
  · simp
  · rw [State.startRun_slot]
    exact fun on => absurd (ready.symm.trans (drain on)) nofun
  · simp
  · rw [timer]
    exact fun on => absurd (ready.symm.trans (counting on)) nofun
  · rw [State.startRun_exer] at at_work
    exact absurd idle at_work
  · rw [State.startRun_exer]
    exact h.play.2
  · rw [State.startRun_exer]
    exact threshold
  · rw [run]
    exact Nat.zero_le _
  · rw [run, limit]
    exact positive.trans ordered
  · rw [State.startRun_recipe]
    exact h.recipe

end Start

end State.Accounted

end Sys2Proof.Machine
end

section
/-! The accounts' bundle through every message rule and every event, and so through every step. -/

namespace Sys2Proof.Machine

-- One proof at a time: a proof per thread, each with its own stack, would pass the memory limit of the check.
set_option Elab.async false

/-! ### The recipe (R31, R32, R39, R40) -/

theorem Recipe.Runnable.of_general {x y : Recipe} (h : x.Runnable) (general : y.general = x.general := by rfl) :
    y.Runnable := by
  rw [Recipe.Runnable, general]
  exact h

/-- R39, R40: a GENERAL section rewritten in other fields. -/
theorem Recipe.Runnable.rewrite {x : Recipe} (h : x.Runnable) {f : General → General}
    (kept : ∀ g, (f g).target = g.target ∧ (f g).runLimit = g.runLimit ∧ (f g).threshold = g.threshold
      := by exact fun _ => ⟨rfl, rfl, rfl⟩) : Recipe.Runnable { x with general := x.general.map f } := by
  intro g stored
  obtain ⟨old, was, rfl⟩ := Option.map_eq_some_iff.mp stored
  obtain ⟨target, runLimit, threshold⟩ := kept old
  rw [target, runLimit, threshold]
  exact h old was

/-- A section read before it is stored. -/
theorem Except.ok_of_bind {ε α β : Type} {x : Except ε α} {f : α → Except ε β} {b : β} (h : x >>= f = .ok b) :
    ∃ a, f a = .ok b := by
  cases x with
  | error => cases h
  | ok a => exact ⟨a, h⟩

/-- R31, R32: the tests of a GENERAL section, and no other section touches it. -/
theorem Recipe.Runnable.load {p p' : Recipe} (h : p.Runnable) {d : Option Identity} {ref : SectionRef} {l : List Byte}
    {clamped : Bool} (loaded : p.load d ref l = .ok (p', clamped)) : p'.Runnable := by
  cases ref with
  | general =>
    rw [Recipe.load_general] at loaded
    obtain ⟨same, passed⟩ := judgedFrom_ok loaded
    obtain ⟨rfl, -⟩ := Prod.mk.inj same
    intro g stored
    cases stored
    simp only [generalTests, List.forall_mem_cons, decide_eq_true_eq] at passed
    obtain ⟨⟨positive, -⟩, ⟨ordered, -⟩, -, -, -, -, -, -, threshold, -⟩ := passed
    exact ⟨positive, ordered, threshold⟩
  | rail | zone | sockets | timing | channel =>
    obtain ⟨x, stored⟩ := Except.ok_of_bind loaded
    cases stored
    exact h.of_general

/-! ### The message rules (11.5) -/

section Rules

variable {s : State} (c : Call) (h : s.Accounted)

include h

theorem State.Accounted.setTherm (x : Thermal) : (s.setTherm x).Accounted := h.still

theorem State.Accounted.modRail (r : Fin 4) (f : RailRec → RailRec) : (s.modRail r f).Accounted := h.still

theorem State.Accounted.purge : ((s.setStore s.store.purge).lowWater s.store.readyCount).Accounted := h.still

theorem handleRelease_accounted : (handleRelease c s).state.Accounted := by
  unfold handleRelease
  split
  · next hold =>
    refine State.Accounted.moveTo ?_ _ (by rw [State.setSlot_slot, SlotRec.watchMake_eq, hold]; rfl) ?_
    · exact h.setSlot rfl
    · rw [State.setSlot_slot, SlotRec.watchMake_eq, hold]
      exact nofun
  · exact h

theorem handleReidentify_accounted : (handleReidentify c s).state.Accounted := by
  unfold handleReidentify
  split
  · next was => exact h.enterIdentifying (by rw [was]; rfl) (was.trans_ne nofun)
  · next was => exact h.enterIdentifying (by rw [was]; rfl) (was.trans_ne nofun)
  · exact h

theorem handleLoadRecipe_accounted : (handleLoadRecipe c s).state.Accounted := by
  unfold handleLoadRecipe
  split
  · split
    · exact h
    · split
      · exact h
      · next loaded => exact h.setRecipe (h.recipe.load loaded)
  · exact h

theorem handleStart_accounted : (handleStart c s).state.Accounted := by
  unfold handleStart
  split
  · exact h
  · split
    · next ready =>
      unfold State.tryStart
      split
      · exact h
      · split
        · exact h
        · split
          · exact h
          · exact h
          · next stored =>
            split
            · exact h
            · exact h.startRun ready _ stored _
    · exact h
    · exact h

theorem handleGo_accounted : (handleGo c s).state.Accounted := by
  unfold handleGo
  split
  · refine State.Accounted.armingTest ?_
    exact h.setSlot rfl
  · exact h
  · exact h
  · exact h

theorem handleStop_accounted : (handleStop c s).state.Accounted := by
  unfold handleStop
  split
  · exact h.enterDraining _
  · exact h.enterDraining _
  · exact h
  · exact h

/-- R14: the paused flag belongs to RUNNING. -/
theorem State.Accounted.setPaused (running : s.slot.state = .running) (p : Bool) : (s.setPaused p).Accounted := by
  have paused : (s.setSlot { s.slot with paused := p }).Accounted := by
    obtain ⟨arm, drain, -, counting⟩ := h.timers
    exact ⟨h.socket, ⟨arm, drain, fun _ => running, counting⟩, h.play, h.threshold, h.limit, h.below, h.recipe⟩
  unfold State.setPaused
  exact paused.setHolds _ p

theorem handlePause_accounted : (handlePause c s).state.Accounted := by
  unfold handlePause
  split
  · next running =>
    rw [State.ok_state]
    split
    · exact h
    · exact h.setPaused running true
  · exact h

theorem handleResume_accounted : (handleResume c s).state.Accounted := by
  unfold handleResume
  split
  · next running =>
    rw [State.ok_state]
    split
    · exact h.setPaused running false
    · exact h
  · exact h

theorem handleClearSafe_accounted : (handleClearSafe c s).state.Accounted := by
  unfold handleClearSafe
  split
  · next safe =>
    have before : s.slot.state.inRun = false := by rw [safe]; rfl
    have stays : s.slot.state ≠ .draining := safe.trans_ne nofun
    split
    · exact h
    · rw [State.ok_state]
      unfold State.clearSafe
      split
      · split
        · exact h.moveTo .ready before stays
        · exact h.enterIdentifying before stays
      · refine State.Accounted.moveTo ?_ .empty before stays
        exact h.setSlot rfl
  · exact h
  · exact h

theorem handleRetireSocket_accounted : (handleRetireSocket c s).state.Accounted := by
  unfold handleRetireSocket
  split
  · split
    · split
      · next retirable => exact h.retire (SocketState.short_of_retirable retirable) _
      · exact h
    · exact h
  · exact h

theorem handleFrameData_accounted : (handleFrameData c s).state.Accounted := by
  unfold handleFrameData
  dsimp only
  split
  · exact h
  · split
    · exact h
    · exact h.deliver _ _ _

/-- R131: play starts and stops in a RUNNING dynamic run. -/
theorem handleExerciseStart_accounted : (handleExerciseStart c s).state.Accounted := by
  unfold handleExerciseStart
  split
  · next running =>
    rw [State.ok_state]
    split
    · next dynamic => exact h.playsAlone s.startPlay_follows (.inl ⟨running, dynamic⟩) s.startPlay_onlyPlayMoved
    · exact h
  · exact h

theorem handleExerciseStop_accounted : (handleExerciseStop c s).state.Accounted := by
  unfold handleExerciseStop
  split
  · next running =>
    rw [State.ok_state]
    split
    · next dynamic => exact h.playsAlone s.stopPlay_follows (.inl ⟨running, dynamic⟩) s.stopPlay_onlyPlayMoved
    · exact h
  · exact h

theorem handleSetZone_accounted : (handleSetZone c s).state.Accounted := by
  unfold handleSetZone State.writeZones
  split
  · split
    · exact h
    · split
      · exact h
      · exact (h.setRecipe h.recipe.of_general).setTherm _
  · exact h

theorem handleSetRail_accounted : (handleSetRail c s).state.Accounted := by
  unfold handleSetRail State.retargetRail
  split
  · split
    · exact h
    · split
      · exact h
      · dsimp only
        split
        · rw [State.stored_state]
          split
          · exact (h.setRecipe h.recipe.of_general).modRail _ _
          · exact h.setRecipe h.recipe.of_general
        · exact h
  · exact h

theorem handleSetBudget_accounted : (handleSetBudget c s).state.Accounted := by
  unfold handleSetBudget State.writeBudget
  split
  · split
    · exact (h.setRecipe h.recipe.rewrite).setTherm _
    · exact h
  · exact h

theorem handleSetTiming_accounted : (handleSetTiming c s).state.Accounted := by
  unfold handleSetTiming
  split
  · split
    · exact h
    · split
      · exact h
      · exact (h.setRecipe h.recipe.of_general).takeSettings _ _
  · exact h

theorem handleSetChannel_accounted : (handleSetChannel c s).state.Accounted := by
  unfold handleSetChannel
  split
  · split
    · exact h
    · split
      · exact h
      · split
        · exact h
        · exact (h.setRecipe h.recipe.of_general).takeSettings _ _
  · exact h

theorem handleSetPlay_accounted : (handleSetPlay c s).state.Accounted := by
  unfold handleSetPlay
  split
  · split
    · exact h
    · exact (h.setRecipe h.recipe.rewrite).takeSettings _ _
  · exact h

/-- Every message rule keeps the accounts' bundle. -/
theorem ruleOf_accounted (k : Kind) : (ruleOf k c s).state.Accounted := by
  cases k with
  | release => exact handleRelease_accounted c h
  | reidentify => exact handleReidentify_accounted c h
  | loadRecipe => exact handleLoadRecipe_accounted c h
  | start => exact handleStart_accounted c h
  | go => exact handleGo_accounted c h
  | stop => exact handleStop_accounted c h
  | pause => exact handlePause_accounted c h
  | resume => exact handleResume_accounted c h
  | clearSafe => exact handleClearSafe_accounted c h
  | retireSocket => exact handleRetireSocket_accounted c h
  | frameData => exact handleFrameData_accounted c h
  | exerciseStart => exact handleExerciseStart_accounted c h
  | exerciseStop => exact handleExerciseStop_accounted c h
  | setZone => exact handleSetZone_accounted c h
  | setRail => exact handleSetRail_accounted c h
  | setBudget => exact handleSetBudget_accounted c h
  | setTiming => exact handleSetTiming_accounted c h
  | setChannel => exact handleSetChannel_accounted c h
  | setPlay => exact handleSetPlay_accounted c h
  | purgeFrames => exact h.purge
  | ping | status | restart | readZones | readRails => exact h.still rfl rfl rfl rfl rfl
  | setLink =>
    simp only [ruleOf, handleSetLink]
    (repeat' split) <;> exact h.still rfl rfl rfl rfl rfl
  | setClass =>
    simp only [ruleOf, handleSetClass]
    (repeat' split) <;> exact h.still rfl rfl rfl rfl rfl
  | ackClasses =>
    simp only [ruleOf, handleAckClasses]
    (repeat' split) <;> exact h.still rfl rfl rfl rfl rfl
  | readUnanswered =>
    simp only [ruleOf, handleReadUnanswered]
    (repeat' split) <;> exact h.still rfl rfl rfl rfl rfl
  | linkStats =>
    simp only [ruleOf, handleLinkStats]
    (repeat' split) <;> exact h.still rfl rfl rfl rfl rfl
  | readIdentity =>
    simp only [ruleOf, handleReadIdentity]
    (repeat' split) <;> exact h.still rfl rfl rfl rfl rfl
  | readRecipe =>
    simp only [ruleOf, handleReadRecipe]
    (repeat' split) <;> exact h.still rfl rfl rfl rfl rfl
  | frameOpen =>
    simp only [ruleOf, handleFrameOpen]
    (repeat' split) <;> exact h.still rfl rfl rfl rfl rfl
  | frameCancel =>
    simp only [ruleOf, handleFrameCancel]
    (repeat' split) <;> exact h.still rfl rfl rfl rfl rfl
  | readStore =>
    simp only [ruleOf, handleReadStore]
    (repeat' split) <;> exact h.still rfl rfl rfl rfl rfl
  | readSockets =>
    simp only [ruleOf, handleReadSockets]
    (repeat' split) <;> exact h.still rfl rfl rfl rfl rfl
  | fetchFailures =>
    simp only [ruleOf, handleFetchFailures]
    (repeat' split) <;> exact h.still rfl rfl rfl rfl rfl
  | armCapture =>
    simp only [ruleOf, handleArmCapture]
    (repeat' split) <;> exact h.still rfl rfl rfl rfl rfl
  | readCapture =>
    simp only [ruleOf, handleReadCapture]
    (repeat' split) <;> exact h.still rfl rfl rfl rfl rfl

end Rules

/-! ### Every step -/

/-- Link, notices and queue do not show in the accounts' bundle. -/
theorem State.accounted_blind : LinkBlind State.Accounted where
  link _ h := h.still
  notice _ h := h.still
  pending _ h := h.still

theorem SlotRec.contactsChange_runs (r : SlotRec) (a b : Bool) : (r.contactsChange a b).runs = r.runs := by
  unfold SlotRec.contactsChange
  (repeat' split) <;> rfl

/-- The part's own events, one by one. -/
theorem exec_event_accounted (i : Instr) {s t : State} (message : i.message = none) (line : lineEvent i = false)
    (h : s.Accounted) (ran : exec i s = .next t) : t.Accounted := by
  cases i with
  | powerOn straps => cases ran; exact .fullReset s straps _
  | pinReset straps => cases ran; exact .fullReset s straps _
  | restartShutOff straps =>
    cases ran
    split
    · exact h.restartReset straps
    · exact h
  | seatContactChange a b => cases ran; exact h.setSlot (s.slot.contactsChange_runs a b)
  | seatMakeTimerExpiry =>
    cases ran
    split
    · exact h.seatFound
    · exact h
  | seatOpenTimerExpiry =>
    cases ran
    split
    · exact h.unseat
    · exact h
  | safetyChainOpen level =>
    cases ran
    split
    · exact h.chainOpens
    · exact h.setSlot rfl
  | identityAttemptEnd read =>
    cases ran
    split
    · next attempting => exact h.attemptEnds attempting read
    · exact h
  | identityAttemptTimeout =>
    cases ran
    split
    · next attempting => exact h.attemptFails attempting
    · exact h
  | identityRetryWaitExpiry =>
    cases ran
    split <;> exact h.still
  | armTimerExpiry =>
    cases ran
    split
    · exact h.enterDraining _
    · exact h
  | drainTimerExpiry =>
    cases ran
    split
    · next draining =>
      rw [Bool.and_eq_true, beq_iff_eq] at draining
      exact h.drainEnds draining.2
    · exact h
  | railDrainStep =>
    cases ran
    split <;> exact h.still
  | linkSilenceExpiry =>
    cases ran
    split
    · exact h.silenceExpires
    · exact h
  | railSample readings => cases ran; exact h.railSampled readings
  | settleTimerExpiry rail =>
    cases ran
    split
    · exact h.settleExpires rail
    · exact h
  | socketSample k ma => cases ran; exact h.socketSampled k ma
  | blankingExpiry k => cases ran; exact h.mark k
  | cooldownExpiry k =>
    cases ran
    split
    · exact h.cooldownExpires k
    · exact h
  | controlPassStart => cases ran; exact h.still
  | controlPassComplete codes =>
    cases flight : s.therm.pass with
    | some cap =>
      rw [exec_controlPassComplete flight] at ran
      cases ran
      exact (h.passJudged cap codes).armingTest
    | none =>
      cases ran
      rw [flight]
      exact h
  | heaterPwmFrameStart => cases ran; exact h.still
  | creditIntervalExpiry =>
    cases ran
    split
    · next timer => exact h.creditExpires timer
    · exact h
  | vectorEnd =>
    cases ran
    split
    · next playing => exact h.vectorEnds (by simpa [ExerState.isPlaying] using playing)
    · exact h
  | vectorStrobe lines =>
    cases ran
    split
    · exact h.strobes lines
    · exact h
  | lineCharacter | lineCharacterTimeout | replyStart | replyComplete | unknownKind =>
    exact (Bool.false_ne_true line.symm).elim
  | _ => cases message

theorem State.accounted_keptByStep : KeptByStep State.Accounted :=
  State.accounted_blind.keptByStep (fun k c _ h => ruleOf_accounted c h k)
    (fun i _ _ message line h ran => exec_event_accounted i message line h ran)

/-- Settles O59: the bundle socket by socket, kept by every rule and every event. -/
theorem accountsStaySound : Obligations.AccountsStaySound := by
  unfold Obligations.AccountsStaySound
  intro s t sound ran
  rw [State.accountsSound_iff] at sound ⊢
  exact State.accounted_keptByStep s t sound ran

end Sys2Proof.Machine
end

section
/-! The failure recorder (R152 to R154): what it takes, and the log's law on its own record. -/

namespace Sys2Proof.Machine

/-! ### What the recorder takes (R153, R154) -/

section Take

variable {f : Recorder} (e : FailureEntry)

/-- R153: with room in the log the entry is appended. -/
theorem Recorder.take_room (room : f.log.length < Config.logLimit) :
    (f.take e).log = f.log ++ [e] ∧ (f.take e).dropped = f.dropped := by
  simp [Recorder.take, Nat.not_le.mpr room]

/-- R153: with the log full the entry is dropped and counted. -/
theorem Recorder.take_full (full : Config.logLimit ≤ f.log.length) :
    (f.take e).log = f.log ∧ (f.take e).dropped = min 65535 (f.dropped + 1) := by
  simp [Recorder.take, full, satInc]

/-- R154: the marks of the entry's own socket move, and no other's. -/
theorem Recorder.take_marks (k : Fin 48) :
    (f.take e).marks.get k =
      if e.socket = some k then (f.marks.get k).take { kind := e.kind, stamp := e.stamp } else f.marks.get k := by
  unfold Recorder.take
  cases e.socket with
  | none => rfl
  | some j => simp [Bank.get_modify]

end Take

/-- R153: recorder and notices are all that a failure moves. -/
theorem State.logFailure_moves (s : State) (x : FailureKind) (k : Option (Fin 48)) (u : Option Nat) (d : Word16) :
    s.logFailure x k u d = (s.setFail (s.logFailure x k u d).fail).setNotice (s.logFailure x k u d).notice := by
  unfold State.logFailure
  dsimp only
  (repeat' split) <;> rfl

/-- Settles O18: the recorder by whether the log has room, the notices by how full it is. -/
theorem failureTaken : Obligations.FailureTaken := by
  unfold Obligations.FailureTaken
  intro s kind socket unit detail t mark
  have fail := s.logFailure_fail kind socket unit detail
  have notice := s.logFailure_notice kind socket unit detail
  refine ⟨congrArg Recorder.nextSeq fail, fun room => ?_, fun full => ?_, fun k => ?_, ?_⟩
  · obtain ⟨log, dropped⟩ := Recorder.take_room _ room
    have raises : s.fail.log.length = 47 ∨ 64 ≤ s.fail.log.length ↔ s.fail.log.length = 47 :=
      or_iff_left (Nat.not_le.mpr room)
    exact ⟨(congrArg Recorder.log fail).trans log, (congrArg Recorder.dropped fail).trans dropped,
      notice.trans (if_congr raises rfl rfl)⟩
  · obtain ⟨log, dropped⟩ := Recorder.take_full _ full
    exact ⟨(congrArg Recorder.log fail).trans log, (congrArg Recorder.dropped fail).trans dropped,
      notice.trans (if_pos (.inr full))⟩
  · rw [show t.fail = _ from fail]
    exact Recorder.take_marks _ k
  · exact s.logFailure_moves kind socket unit detail

/-! ### The log's law (R152, R153) -/

/-- R152: an entry names a socket exactly for a socket kind, a unit exactly for a rail or zone kind. -/
def FailureEntry.Named (e : FailureEntry) : Prop :=
  e.socket.isSome = e.kind.ofSocket ∧ e.unit.isSome = e.kind.ofUnit

/-- R152, R153: the log's law, on the recorder. -/
structure Recorder.Lawful (f : Recorder) : Prop where
  room : f.log.length ≤ Config.logLimit
  dropped : f.dropped ≤ 65535
  named : ∀ e ∈ f.log, e.Named

/-- R152, R153: the log's law, on the part. -/
def State.Logged (s : State) : Prop := s.fail.Lawful

theorem State.logLaw_iff_logged (s : State) : s.LogLaw ↔ s.Logged :=
  ⟨fun ⟨room, dropped, named⟩ => ⟨room, dropped, named⟩, fun ⟨room, dropped, named⟩ => ⟨room, dropped, named⟩⟩

theorem Recorder.atReset_lawful : Recorder.atReset.Lawful := ⟨Nat.zero_le _, Nat.zero_le _, nofun⟩

section Lawful

variable {f : Recorder} (h : f.Lawful)

include h

theorem Recorder.Lawful.take {e : FailureEntry} (named : e.Named) : (f.take e).Lawful := by
  by_cases full : Config.logLimit ≤ f.log.length
  · obtain ⟨log, dropped⟩ := Recorder.take_full e full
    exact ⟨log ▸ h.room, dropped ▸ Nat.min_le_left _ _, log ▸ h.named⟩
  · have room := Nat.lt_of_not_le full
    obtain ⟨log, dropped⟩ := Recorder.take_room e room
    refine ⟨?_, dropped ▸ h.dropped, ?_⟩
    · rw [log, List.length_append]
      exact room
    · rw [log, List.forall_mem_append, List.forall_mem_singleton]
      exact ⟨h.named, named⟩

/-- R155: the oldest entries handed over, and the dropped count with them. -/
theorem Recorder.Lawful.handOver (n : Nat) : ({ f with log := f.log.drop n, dropped := 0 } : Recorder).Lawful where
  room := (List.drop_sublist n f.log).length_le.trans h.room
  dropped := Nat.zero_le _
  named e stored := h.named e (List.mem_of_mem_drop stored)

/-- R148: the marks renewed. -/
theorem Recorder.Lawful.setMarks (marks : Bank SocketFailures 48) : ({ f with marks := marks } : Recorder).Lawful :=
  ⟨h.room, h.dropped, h.named⟩

end Lawful

end Sys2Proof.Machine
end

section
/-! The log's law in every event and in every message rule, kept by every step: each failure names what its kind asks
for, and nothing else writes the log. -/

namespace Sys2Proof.Machine

-- One proof at a time: a proof per thread, each with its own stack, would pass the memory limit of the check.
set_option Elab.async false

/-! ### What leaves the recorder alone -/

section Frames

variable (s : State)

@[simp] theorem State.warnStage_fail (k : Fin 48) : (s.warnStage k).fail = s.fail := by
  unfold State.warnStage
  dsimp only
  (repeat' split) <;> simp

@[simp] theorem State.cooldownExpires_fail (k : Fin 48) : (s.cooldownExpires k).fail = s.fail := by
  unfold State.cooldownExpires
  (repeat' split) <;> simp

@[simp] theorem State.sequenceStep_fail (r : Fin 4) : (s.sequenceStep r).fail = s.fail := by
  unfold State.sequenceStep
  (repeat' split) <;> simp

@[simp] theorem State.zoneReturns_fail (z : Fin 6) (t : Int) (c : ZoneCapture) :
    (s.zoneReturns z t c).fail = s.fail := by
  simp [State.zoneReturns]

@[simp] theorem State.controlStep_fail (cap : PassCapture) (computing : Bool) (z : Fin 6) :
    (s.controlStep cap computing z).fail = s.fail := by
  unfold State.controlStep
  split <;> simp

@[simp] theorem State.budgetStage_fail (cap : PassCapture) (comp : Fin 6 → Bool) :
    (s.budgetStage cap comp).fail = s.fail := by
  have granted : (s.grantStage cap).fail = s.fail := by
    unfold State.grantStage
    dsimp only
    split <;> simp
  have held (t : State) : (t.holdStage cap).fail = t.fail := by
    unfold State.holdStage State.setBudgetRec
    dsimp only
    (repeat' split) <;> simp
  unfold State.budgetStage
  split
  · rw [held, granted]
  · rfl

@[simp] theorem State.attemptEnds_fail (read : BusRead) : (s.attemptEnds read).fail = s.fail := by
  unfold State.attemptEnds
  (repeat' split) <;> simp

@[simp] theorem State.seatFound_fail : s.seatFound.fail = s.fail := by
  unfold State.seatFound
  dsimp only
  split <;> simp

@[simp] theorem State.creditExpires_fail : s.creditExpires.fail = s.fail := by
  have done : s.secondDone.fail = s.fail := s.secondDone_completes.fail.trans s.credited_fail
  rcases s.creditExpires_cases with ⟨c, ends⟩ | ⟨timer, goes_on⟩
  · rw [ends, State.enterDraining_fail, done]
  · rw [goes_on, State.setCredit_fail, done]

@[simp] theorem State.storePassEnd_fail (wasTail : Bool) : (s.storePassEnd wasTail).fail = s.fail := by
  unfold State.storePassEnd State.streamEnd State.loopEnd State.tailEnd
  dsimp only
  (repeat' split) <;> simp

@[simp] theorem State.vectorFollows_fail : s.vectorFollows.fail = s.fail := by
  obtain ⟨-, -, -, -, -, -, -, fail, -⟩ := s.vectorFollows_onlyPlayMoved
  exact fail

@[simp] theorem State.strobes_fail (lines : BitVec 48) : (s.strobes lines).fail = s.fail := by
  unfold State.strobes
  dsimp only
  (repeat' split) <;> rfl

@[simp] theorem State.frameReady_fail (id : Byte) : (s.frameReady id).fail = s.fail := by
  unfold State.frameReady
  dsimp only
  split <;> simp

@[simp] theorem State.deliver_fail (f : FrameDesc) (start : Nat) (vectors : List StimVector) :
    (s.deliver f start vectors).fail = s.fail := by
  rw [State.deliver_eq]
  split <;> simp

@[simp] theorem State.startPlay_fail : s.startPlay.fail = s.fail := by
  obtain ⟨-, -, -, -, -, -, -, fail, -⟩ := s.startPlay_onlyPlayMoved
  exact fail

@[simp] theorem State.stopPlay_fail : s.stopPlay.fail = s.fail := by
  obtain ⟨-, -, -, -, -, -, -, fail, -⟩ := s.stopPlay_onlyPlayMoved
  exact fail

end Frames

/-! ### What hands one failure over -/

section Taken

variable (s : State)

/-- R152: the entry that a failure makes now. -/
abbrev State.entry (x : FailureKind) (k : Option (Fin 48)) (u : Option Nat) (d : Word16) : FailureEntry :=
  { seq := s.fail.nextSeq, kind := x, socket := k, unit := u, stamp := s.credit.accumulated, detail := d }

/-- R19: the entry to SAFE takes an entry of the equipment. -/
theorem State.enterSafe_fail (c : EndCause) (x : FailureKind) (n : Fin 12) (y : Source) :
    (s.enterSafe c x n y).fail = s.fail.take (s.entry x none none 0) := by
  simp [State.enterSafe, CreditUnit.endRun]

theorem State.retire_fail (k : Fin 48) (cause : RetireCause) :
    (s.retire k cause).fail = s.fail.take (s.entry .retired (some k) none (BitVec.ofNat 16 cause.code)) := by
  simp [State.retire]

theorem State.railFault_fail (r : Fin 4) (mv : Nat) :
    (s.railFault r mv).fail = s.fail.take (s.entry .railFault none (some r.val) (BitVec.ofNat 16 mv)) := by
  unfold State.railFault
  dsimp only
  split <;> simp

theorem State.sensorFails_fail (z : Fin 6) :
    (s.sensorFails z).fail = s.fail.take
      (s.entry .sensorFail none (some z.val) (BitVec.ofInt 16 ((s.therm.zones.get z).temperature.getD 0))) := by
  unfold State.sensorFails
  dsimp only
  split <;> simp

theorem State.zoneTrips_fail (z : Fin 6) (t : Int) :
    (s.zoneTrips z t).fail = s.fail.take (s.entry .zoneTrip none (some z.val) (BitVec.ofInt 16 t)) := by
  unfold State.zoneTrips
  dsimp only
  split <;> simp

/-- R138: only the first functional failure of the run is taken. -/
theorem State.logFunctional_fail (k : Fin 48) :
    (s.logFunctional k).fail = if (s.exer.compare.get k).logged = true then s.fail
      else s.fail.take (s.entry .functional (some k) none
        (BitVec.ofNat 16 ((s.exer.compare.get k).firstMismatch.getD 0))) := by
  unfold State.logFunctional
  dsimp only
  split <;> simp

end Taken

/-! ### The shared operations -/

namespace State.Logged

variable {s t : State}

/-- R24: the recorder at its reset value. -/
theorem fullReset (s : State) (straps : Straps) (cause : RestartCause) : (s.fullReset straps cause).Logged :=
  Recorder.atReset_lawful

variable (h : s.Logged)

include h

/-- A change that leaves the recorder. -/
theorem still (fail : t.fail = s.fail := by simp) : t.Logged := by
  rw [State.Logged, fail]
  exact h

/-- A change that hands one failure over. -/
theorem takes {e : FailureEntry} (fail : t.fail = s.fail.take e) (named : e.Named) : t.Logged := by
  rw [State.Logged, fail]
  exact Recorder.Lawful.take h named

theorem foldl {α : Type} {f : State → α → State} (turn : ∀ (u : State) a, u.Logged → (f u a).Logged) (l : List α) :
    (l.foldl f s).Logged := List.foldlRecOn l f h fun u hu a _ => turn u a hu

/-- R19: the causes of SAFE are the equipment's. -/
theorem enterSafe (c : EndCause) {x : FailureKind} (n : Fin 12) (y : Source) (socket : x.ofSocket = false)
    (unit : x.ofUnit = false) : (s.enterSafe c x n y).Logged :=
  h.takes (s.enterSafe_fail c x n y) ⟨socket.symm, unit.symm⟩

/-! ### Sockets (R61 to R68) -/

theorem retire (k : Fin 48) (cause : RetireCause) : (s.retire k cause).Logged :=
  h.takes (s.retire_fail k cause) ⟨rfl, rfl⟩

theorem isolate (k : Fin 48) : (s.isolate k).Logged := by
  unfold State.isolate
  split
  · exact h.retire k _
  · exact h.still

/-- R63, R66: a trip counted and logged isolates its socket. -/
theorem trips (k : Fin 48) (f : SocketRec → SocketRec) {x : FailureKind} (d : Word16) (socket : x.ofSocket = true)
    (unit : x.ofUnit = false) :
    ((((s.modSocket k f).logFailure x (some k) none d).notifySocket .b k).isolate k).Logged := by
  refine isolate (h.takes (e := s.entry x (some k) none d) ?_ ⟨socket.symm, unit.symm⟩) k
  simp

theorem tripStage (k : Fin 48) (v : Nat) : (s.tripStage k v).Logged := by
  unfold State.tripStage
  dsimp only
  split
  · exact h.trips k _ _ rfl rfl
  · exact h

theorem judgeSample (k : Fin 48) (v : Nat) (w : Wire) : (s.judgeSample k v w).Logged := by
  unfold State.judgeSample
  split
  · exact h.trips k _ _ rfl rfl
  · exact tripStage h.still k v

theorem socketSampled (k : Fin 48) (ma : Nat) : (s.socketSampled k ma).Logged := by
  unfold State.socketSampled
  dsimp only
  split
  · split
    · exact judgeSample h.still k _ _
    · exact h.still
  · exact h.still

/-! ### Rails (R45 to R50) -/

theorem railFault (r : Fin 4) (mv : Nat) : (s.railFault r mv).Logged :=
  h.takes (s.railFault_fail r mv) ⟨rfl, rfl⟩

theorem judgeRegulated (r : Fin 4) : (s.judgeRegulated r).Logged := by
  unfold State.judgeRegulated
  dsimp only
  split
  · exact h.still
  · split
    · refine railFault ?_ r _
      split <;> exact h.still
    · split <;> exact h.still

theorem judgeRail (r : Fin 4) : (s.judgeRail r).Logged := by
  unfold State.judgeRail State.railRegulated
  dsimp only
  split
  · exact h
  · exact h
  · split <;> exact h.still
  · split
    · exact h.still
    · exact judgeRegulated h.still r

theorem railSampled (readings : Bank RailReading 4) : (s.railSampled readings).Logged := by
  refine foldl (h.still : (s.setRail _).Logged) (fun u r hu => ?_) _
  split
  · exact hu
  · exact hu.judgeRail r

theorem settleExpires (r : Fin 4) : (s.settleExpires r).Logged := by
  unfold State.settleExpires
  dsimp only
  split
  · exact h.railFault r _
  · exact h.still

/-! ### The control pass (R82 to R91) -/

theorem sensorFails (z : Fin 6) : (s.sensorFails z).Logged := h.takes (s.sensorFails_fail z) ⟨rfl, rfl⟩

theorem zoneTrips (z : Fin 6) (t : Int) : (s.zoneTrips z t).Logged := h.takes (s.zoneTrips_fail z t) ⟨rfl, rfl⟩

theorem classifyInvalid (z : Fin 6) : (s.classifyInvalid z).Logged := by
  unfold State.classifyInvalid
  dsimp only
  split
  · split
    · exact h.sensorFails z
    · exact h.still
  · split
    · exact h.sensorFails z
    · exact h.still
  · exact h

theorem classifyValid (z : Fin 6) (t : Int) (c : ZoneCapture) (b : ZoneBoard) :
    (s.classifyValid z t c b).Logged := by
  unfold State.classifyValid
  split
  · split
    · exact h.zoneTrips z t
    · exact h.still
  · split <;> exact h.still
  · split
    · exact h.zoneTrips z t
    · exact h.still
  · exact h

theorem classify (z : Fin 6) (code : Nat) (c : ZoneCapture) (board : Option ZoneBoard) :
    (s.classify z code c board).Logged := by
  unfold State.classify
  split
  · exact h.classifyInvalid z
  · split
    · exact h.classifyValid z _ c _
    · exact h.still

theorem zoneStep (cap : PassCapture) (code : Nat) (computing : Bool) (z : Fin 6) :
    (s.zoneStep cap code computing z).Logged := by
  unfold State.zoneStep
  dsimp only
  split
  · exact classify h.still z _ _ _
  · exact h.still

theorem passJudged (cap : PassCapture) (codes : Bank Nat 6) : (s.passJudged cap codes).Logged := by
  have begun : (s.setTherm { s.therm with pass := none }).Logged := h.still
  have turned := begun.foldl (fun _ z hu => hu.zoneStep cap (codes.get z) (s.computing cap z) z) (List.finRange 6)
  have controlled := turned.foldl (fun u z hu => (hu.still : (u.controlStep cap (s.computing cap z) z).Logged))
    (List.finRange 6)
  exact still controlled (State.budgetStage_fail _ cap _)

/-! ### The slot (R6, R9, R22) -/

theorem unseat : s.unseat.Logged := by
  unfold State.unseat
  dsimp only
  split
  · exact enterSafe h.still _ _ _ rfl rfl
  · split <;> exact h.still

theorem chainOpens : s.chainOpens.Logged := by
  unfold State.chainOpens
  dsimp only
  split
  · exact enterSafe h.still _ _ _ rfl rfl
  · exact h.still

theorem silenceExpires : s.silenceExpires.Logged := by
  unfold State.silenceExpires
  dsimp only
  split
  · exact enterSafe h.still _ _ _ rfl rfl
  · exact h.still

/-! ### Play (R129, R138, R139) -/

theorem logFunctional (k : Fin 48) : (s.logFunctional k).Logged := by
  by_cases logged : (s.exer.compare.get k).logged = true
  · exact h.still ((s.logFunctional_fail k).trans (if_pos logged))
  · exact h.takes ((s.logFunctional_fail k).trans (if_neg logged)) ⟨rfl, rfl⟩

theorem judgeSocket (k : Fin 48) : (s.judgeSocket k).Logged := by
  have counted (f : CompareRec → CompareRec) : ((s.modCompare k f).logFunctional k).Logged := logFunctional h.still k
  unfold State.judgeSocket
  dsimp only
  split
  · split
    · exact counted _
    · exact (counted _).retire k _
  · exact h

theorem passEnd (checked wasTail : Bool) : (s.passEnd checked wasTail).Logged := by
  have judged : (if checked then s.judgePass else s).Logged := by
    split
    · exact h.foldl (fun _ k hu => hu.judgeSocket k) _
    · exact h
  unfold State.passEnd
  generalize (if checked = true then s.judgePass else s) = u at judged
  dsimp only
  split
  · refine judged.still ?_
    split <;> simp
  · exact judged

theorem vectorEnds : s.vectorEnds.Logged := by
  have applied : (s.setExer s.exer.advanceClocks).applyBoundary.Logged := h.still
  have followed {u : State} (hu : u.Logged) : (if u.exer.state.isPlaying then u.vectorFollows else u).Logged := by
    split
    · exact hu.still
    · exact hu
  unfold State.vectorEnds
  generalize (s.setExer s.exer.advanceClocks).applyBoundary = u at applied
  dsimp only
  split
  · refine followed ?_
    split
    · exact applied.passEnd _ _
    · exact applied.still
  · exact applied

/-! ### START (R148, R149) -/

theorem startRun (choice : StartChoice) (g : General) (d : Identity) : (s.startRun choice g d).Logged := by
  match choice with
  | .new =>
    rw [State.Logged, State.startNew_fail]
    exact Recorder.Lawful.setMarks h _
  | .continue =>
    refine h.still ?_
    simp [State.setAccounts_continue, State.carryAccounts_eq, State.copied]

end State.Logged

/-! ### The message rules (11.5) -/

section Rules

variable {s : State} (c : Call) (h : s.Logged)

include h

theorem handleStart_logged : (handleStart c s).state.Logged := by
  unfold handleStart
  split
  · exact h
  · split
    · unfold State.tryStart
      split
      · exact h
      · split
        · exact h
        · split
          · exact h
          · exact h
          · split
            · exact h
            · exact h.startRun _ _ _
    · exact h
    · exact h

theorem handleRetireSocket_logged : (handleRetireSocket c s).state.Logged := by
  unfold handleRetireSocket
  split
  · split
    · split
      · exact h.retire _ _
      · exact h
    · exact h
  · exact h

theorem handleFetchFailures_logged : (handleFetchFailures c s).state.Logged := by
  unfold handleFetchFailures
  dsimp only
  split
  · split
    · exact Recorder.Lawful.handOver h _
    · exact h
  · exact h

theorem handleFrameData_logged : (handleFrameData c s).state.Logged := by
  unfold handleFrameData
  dsimp only
  (repeat' split) <;> exact h.still

theorem handleExerciseStart_logged : (handleExerciseStart c s).state.Logged := by
  unfold handleExerciseStart
  split
  · rw [State.ok_state]
    split <;> exact h.still
  · exact h

theorem handleExerciseStop_logged : (handleExerciseStop c s).state.Logged := by
  unfold handleExerciseStop
  split
  · rw [State.ok_state]
    split <;> exact h.still
  · exact h

theorem handlePause_logged : (handlePause c s).state.Logged := by
  unfold handlePause State.setPaused
  split
  · rw [State.ok_state]
    split <;> exact h.still
  · exact h

theorem handleResume_logged : (handleResume c s).state.Logged := by
  unfold handleResume State.setPaused
  split
  · rw [State.ok_state]
    split <;> exact h.still
  · exact h

theorem handleClearSafe_logged : (handleClearSafe c s).state.Logged := by
  unfold handleClearSafe State.clearSafe
  (repeat' split) <;> exact h.still

/-- Every message rule keeps the log's law. -/
theorem ruleOf_logged (k : Kind) : (ruleOf k c s).state.Logged := by
  cases k with
  | start => exact handleStart_logged c h
  | retireSocket => exact handleRetireSocket_logged c h
  | fetchFailures => exact handleFetchFailures_logged c h
  | frameData => exact handleFrameData_logged c h
  | exerciseStart => exact handleExerciseStart_logged c h
  | exerciseStop => exact handleExerciseStop_logged c h
  | pause => exact handlePause_logged c h
  | resume => exact handleResume_logged c h
  | clearSafe => exact handleClearSafe_logged c h
  | ping | status | readZones | readRails => exact h
  | restart => exact h.still rfl
  | purgeFrames =>
    simp only [ruleOf, handlePurgeFrames]
    exact h.still
  | release =>
    simp only [ruleOf, handleRelease]
    split <;> exact h.still
  | reidentify =>
    simp only [ruleOf, handleReidentify]
    split <;> exact h.still
  | go =>
    simp only [ruleOf, handleGo]
    split <;> exact h.still
  | stop =>
    simp only [ruleOf, handleStop]
    split <;> exact h.still
  | setLink =>
    simp only [ruleOf, handleSetLink]
    split <;> exact h.still
  | setClass =>
    simp only [ruleOf, handleSetClass]
    (repeat' split) <;> exact h.still
  | ackClasses =>
    simp only [ruleOf, handleAckClasses]
    split <;> exact h.still
  | readUnanswered =>
    simp only [ruleOf, handleReadUnanswered]
    split <;> exact h.still
  | linkStats =>
    simp only [ruleOf, handleLinkStats]
    (repeat' split) <;> exact h.still
  | readIdentity =>
    simp only [ruleOf, handleReadIdentity]
    (repeat' split) <;> exact h.still
  | loadRecipe =>
    simp only [ruleOf, handleLoadRecipe]
    (repeat' split) <;> exact h.still
  | readRecipe =>
    simp only [ruleOf, handleReadRecipe]
    split <;> exact h.still
  | setZone =>
    simp only [ruleOf, handleSetZone, State.writeZones]
    (repeat' split) <;> exact h.still
  | setRail =>
    simp only [ruleOf, handleSetRail, State.retargetRail]
    (repeat' split) <;> exact h.still
  | setBudget =>
    simp only [ruleOf, handleSetBudget, State.writeBudget]
    (repeat' split) <;> exact h.still
  | setTiming =>
    simp only [ruleOf, handleSetTiming]
    (repeat' split) <;> exact h.still
  | setChannel =>
    simp only [ruleOf, handleSetChannel]
    (repeat' split) <;> exact h.still
  | setPlay =>
    simp only [ruleOf, handleSetPlay]
    (repeat' split) <;> exact h.still
  | frameOpen =>
    simp only [ruleOf, handleFrameOpen]
    (repeat' split) <;> exact h.still
  | frameCancel =>
    simp only [ruleOf, handleFrameCancel]
    (repeat' split) <;> exact h.still
  | readStore =>
    simp only [ruleOf, handleReadStore]
    split <;> exact h.still
  | readSockets =>
    simp only [ruleOf, handleReadSockets]
    split <;> exact h.still
  | armCapture =>
    simp only [ruleOf, handleArmCapture]
    (repeat' split) <;> exact h.still
  | readCapture =>
    simp only [ruleOf, handleReadCapture]
    (repeat' split) <;> exact h.still

end Rules

/-! ### Every step -/

/-- Link, notices and queue do not show in the log's law. -/
theorem State.logged_blind : LinkBlind State.Logged where
  link _ h := h.still
  notice _ h := h.still
  pending _ h := h.still

/-- The part's own events, one by one. -/
theorem exec_event_logged (i : Instr) {s t : State} (message : i.message = none) (line : lineEvent i = false)
    (h : s.Logged) (ran : exec i s = .next t) : t.Logged := by
  cases i with
  | powerOn straps => cases ran; exact .fullReset s straps _
  | pinReset straps => cases ran; exact .fullReset s straps _
  | restartShutOff straps =>
    cases ran
    split <;> exact h
  | seatMakeTimerExpiry =>
    cases ran
    split <;> exact h.still
  | seatOpenTimerExpiry =>
    cases ran
    split
    · exact h.unseat
    · exact h
  | safetyChainOpen level =>
    cases ran
    split
    · exact h.chainOpens
    · exact h.still
  | identityAttemptEnd | identityAttemptTimeout | identityRetryWaitExpiry =>
    cases ran
    split <;> exact h.still
  | armTimerExpiry | railDrainStep =>
    cases ran
    split <;> exact h.still
  | drainTimerExpiry =>
    cases ran
    split
    · exact h.still rfl
    · exact h
  | linkSilenceExpiry =>
    cases ran
    split
    · exact h.silenceExpires
    · exact h
  | railSample readings => cases ran; exact h.railSampled readings
  | settleTimerExpiry rail =>
    cases ran
    split
    · exact h.settleExpires rail
    · exact h
  | socketSample k ma => cases ran; exact h.socketSampled k ma
  | cooldownExpiry | creditIntervalExpiry | vectorStrobe =>
    cases ran
    split <;> exact h.still
  | controlPassComplete codes =>
    cases flight : s.therm.pass with
    | some cap =>
      rw [exec_controlPassComplete flight] at ran
      cases ran
      exact (h.passJudged cap codes).still
    | none =>
      cases ran
      rw [flight]
      exact h
  | seatContactChange | blankingExpiry | controlPassStart | heaterPwmFrameStart => cases ran; exact h.still
  | vectorEnd =>
    cases ran
    split
    · exact h.vectorEnds
    · exact h
  | lineCharacter | lineCharacterTimeout | replyStart | replyComplete | unknownKind =>
    exact (Bool.false_ne_true line.symm).elim
  | _ => cases message

theorem State.logged_keptByStep : KeptByStep State.Logged :=
  State.logged_blind.keptByStep (fun k c _ h => ruleOf_logged c h k)
    (fun i _ _ message line h ran => exec_event_logged i message line h ran)

/-- Settles O58: the line's events by what the rules keep, the part's own events one by one. -/
theorem logStaysLawful : Obligations.LogStaysLawful := by
  unfold Obligations.LogStaysLawful
  intro s t lawful ran
  rw [State.logLaw_iff_logged] at lawful ⊢
  exact State.logged_keptByStep s t lawful ran

end Sys2Proof.Machine
end

section
/-! FETCH_FAILURES, READ_UNANSWERED and LINK_STATS: what each hands over, and that it does so only in a reply (R155, R171,
R172). -/

namespace Sys2Proof.Machine

/-- R170: a reply is due to a request to the part's own address without QUIET. -/
theorem callOf_answered (q : Request) :
    (callOf q).answered = true ↔ q.hit = .unit ∧ q.quals.contains .quiet = false := by
  simp [Call.answered, callOf]

section HandOver

variable {c : Call} {s : State}

/-! ### FETCH_FAILURES (R155) -/

theorem handleFetchFailures_outside (h : byteAt c.payload 0 = 0 ∨ 8 < byteAt c.payload 0) :
    handleFetchFailures c s = s.refuse .badValue 0 := by
  refine if_neg fun inside => ?_
  obtain ⟨low, high⟩ := (within_iff 1 8 _).mp inside
  omega

theorem handleFetchFailures_read (low : 1 ≤ byteAt c.payload 0) (high : byteAt c.payload 0 ≤ 8) :
    handleFetchFailures c s =
      { state := if c.answered then s.setFail { s.fail with log := s.fail.log.drop (byteAt c.payload 0), dropped := 0 }
          else s
        result := .ok
        data := chars1 (min (byteAt c.payload 0) s.fail.log.length) ++ chars1 (s.fail.log.length - byteAt c.payload 0)
          ++ chars2 s.fail.dropped ++ charsWord16 s.fail.nextSeq
          ++ (s.fail.log.take (byteAt c.payload 0)).flatMap FailureEntry.chars } := by
  refine (if_pos ((within_iff 1 8 _).mpr ⟨low, high⟩)).trans ?_
  rw [List.length_take, List.length_drop]

/-! ### LINK_STATS (R172) -/

theorem handleLinkStats_outside (h : 1 < byteAt c.payload 0) : handleLinkStats c s = s.refuse .badValue 0 := by
  rw [handleLinkStats, yesNoOf_gt h]

theorem handleLinkStats_read (h : byteAt c.payload 0 ≤ 1) :
    handleLinkStats c s =
      { state := if byteAt c.payload 0 = 1 ∧ c.answered = true then s.setLink s.link.clearStats else s
        result := .ok
        data := chars2 s.link.crcErrors ++ chars2 s.link.charErrors ++ chars2 s.link.timeouts
          ++ chars2 s.link.overruns } := by
  rw [handleLinkStats, yesNoOf_le h]
  simp

end HandOver

/-- Settles O39: each kind by what its rule answers, the layouts character by character. -/
theorem readsThatHandOver : Obligations.ReadsThatHandOver := by
  unfold Obligations.ReadsThatHandOver
  intro s q n answered
  have replies : (callOf q).answered = true ↔ answered := callOf_answered q
  refine ⟨fun t => ⟨fun h => exec_taken rfl t (handleFetchFailures_outside h), fun low high => ?_⟩, fun t => ?_,
    fun t => ⟨fun h => exec_taken rfl t (handleLinkStats_outside h), fun h => ?_⟩⟩
  · have entries : FailureEntry.chars = fun e : FailureEntry =>
        chars2 e.seq.toNat ++ [BitVec.ofNat 8 e.kind.code,
          match e.socket with | some k => BitVec.ofNat 8 k.val | none => 255,
          match e.unit with | some u => BitVec.ofNat 8 u | none => 255]
        ++ chars4 e.stamp.toNat ++ chars2 e.detail.toNat := by
      funext ⟨seq, kind, socket, unit, stamp, detail⟩
      cases socket <;> cases unit <;> rfl
    rw [exec_taken rfl t (handleFetchFailures_read (c := callOf q) low high), entries]
    simp only [replies]
    rfl
  · have entries : Unanswered.chars = fun e : Unanswered =>
        [e.kind, match e.hit with | .unit => 0 | .group => 1 | .broadcast => 2, e.result.code] := by
      funext ⟨kind, hit, result⟩
      cases hit <;> rfl
    rw [exec_taken rfl t rfl]
    simp only [handleReadUnanswered, replies, entries]
    rfl
  · rw [exec_taken rfl t (handleLinkStats_read (c := callOf q) h)]
    simp only [replies]
    rfl

end Sys2Proof.Machine
end

section
/-! The capture: ARM_CAPTURE's binding (R162), the raises of a class (R157) and the snapshots of a bound source (R163). -/

namespace Sys2Proof.Machine

/-! ### Channels and their bindings -/

theorem CaptureChannel.boundTo_iff (ch : CaptureChannel) (c : Fin 12) :
    ch.boundTo c = true ↔ ∃ x, ch.binding = some x ∧ x.cls = c := by
  unfold CaptureChannel.boundTo
  cases ch.binding <;> simp

theorem CaptureChannel.catches_iff (ch : CaptureChannel) (c : Fin 12) (src : Source) :
    ch.catches c src = true ↔ ∃ x, ch.binding = some x ∧ x.cls = c ∧ x.source = src := by
  unfold CaptureChannel.catches
  cases ch.binding <;> simp

theorem Notices.silenced_iff (n : Notices) (c : Fin 12) :
    n.silenced c = true ↔ (∃ x, (n.capture.get 0).binding = some x ∧ x.cls = c)
      ∨ ∃ x, (n.capture.get 1).binding = some x ∧ x.cls = c := by
  rw [Notices.silenced, Bool.or_eq_true, CaptureChannel.boundTo_iff, CaptureChannel.boundTo_iff]

/-! ### ARM_CAPTURE (R162) -/

theorem captureClassOf_eq (v : Nat) : captureClassOf v = if v = 1 ∨ v = 4 ∨ v = 5 then indexOf 12 v else none :=
  match v with
  | 0 | 1 | 2 | 3 | 4 | 5 => rfl
  | _ + 6 => by simp [captureClassOf]

theorem sourceOf_eq (v : Nat) : sourceOf v = if v ≤ 1 then some (if v = 0 then .a else .b) else none :=
  match v with
  | 0 | 1 => rfl
  | _ + 2 => by simp [sourceOf]

/-- R162: the values that ARM_CAPTURE takes. -/
structure CaptureRange (l : List Byte) : Prop where
  channel : byteAt l 0 ≤ 1
  cls : byteAt l 1 = 1 ∨ byteAt l 1 = 4 ∨ byteAt l 1 = 5
  source : byteAt l 2 ≤ 1
  low : 1 ≤ byteAt l 3
  high : byteAt l 3 ≤ 8

section ArmCapture

variable {c : Call} {s : State}

theorem handleArmCapture_outside (h : ¬ CaptureRange c.payload) : handleArmCapture c s = s.refuse .badValue 0 := by
  unfold handleArmCapture
  split
  · next ch cls src channel classed source =>
    have below : byteAt c.payload 0 < 2 := (indexOf_isSome 2 _).mp (by rw [channel]; rfl)
    rw [captureClassOf_eq] at classed
    rw [sourceOf_eq] at source
    refine if_neg fun inside => h ?_
    obtain ⟨low, high⟩ := (within_iff 1 8 _).mp inside
    exact ⟨Nat.le_of_lt_succ below, (Option.ite_none_right_eq_some.mp classed).1,
      (Option.ite_none_right_eq_some.mp source).1, low, high⟩
  · rfl

/-- R162: a binding asked for, by whether the other channel holds the class. -/
theorem handleArmCapture_inside (h : CaptureRange c.payload) {ch : Fin 2} (channel : byteAt c.payload 0 = ch.val)
    {cls : Fin 12} (classed : byteAt c.payload 1 = cls.val) :
    handleArmCapture c s =
      if (s.notice.capture.get (otherChannel ch)).boundTo cls = true then s.refuse .duplicate 0
      else (s.setNotice { s.notice with
        capture := s.notice.capture.set ch
          { binding := some { cls := cls, source := if byteAt c.payload 2 = 0 then .a else .b
                              remaining := byteAt c.payload 3 }
            buffer := [] } }).ok := by
  unfold handleArmCapture
  rw [captureClassOf_eq, if_pos h.cls, channel, classed, indexOf_val, indexOf_val, sourceOf_eq, if_pos h.source]
  exact if_pos ((within_iff 1 8 _).mpr ⟨h.low, h.high⟩)

end ArmCapture

/-! ### A raise counted in its class (R157) -/

section Raise

variable {n : Notices} {c : Fin 12}

theorem Notices.countRaise_disabled (h : (n.classes.get c).level = 0) : n.countRaise c = n := if_pos h

theorem Notices.countRaise_enabled (h : (n.classes.get c).level ≠ 0) :
    n.countRaise c = { n with classes := n.classes.set c { n.classes.get c with
      count := satInc 255 (n.classes.get c).count, pending := (n.classes.get c).pending || !n.silenced c } } :=
  if_neg h

theorem Notices.countRaise_silenced (h : (n.classes.get c).level ≠ 0) (silenced : n.silenced c = true) :
    n.countRaise c = { n with classes := n.classes.set c { n.classes.get c with
      count := min 255 ((n.classes.get c).count + 1) } } := by
  rw [Notices.countRaise_enabled h, silenced, Bool.not_true, Bool.or_false]
  rfl

theorem Notices.countRaise_pending (h : (n.classes.get c).level ≠ 0) (heard : ¬ n.silenced c = true) :
    n.countRaise c = { n with classes := n.classes.set c { n.classes.get c with
      count := min 255 ((n.classes.get c).count + 1), pending := true } } := by
  rw [Notices.countRaise_enabled h, (Bool.not_eq_true _).mp heard, Bool.not_false, Bool.or_true]
  rfl

end Raise

/-! ### Snapshots (R163) -/

section Snapshots

variable {n : Notices} {snap : Snapshot}

/-- R163: a raise that no channel is bound to is only counted. -/
theorem Notices.raiseWith_uncaught (h : ∀ k, ¬ (n.capture.get k).catches snap.cls snap.source = true) :
    n.raiseWith snap = n.countRaise snap.cls := by
  rw [Notices.raiseWith, if_neg (h 0), if_neg (h 1)]

/-- R163: a raise that one channel alone is bound to is counted, then copied. -/
theorem Notices.raiseWith_caught {ch : Fin 2} (caught : (n.capture.get ch).catches snap.cls snap.source = true)
    (alone : ¬ (n.capture.get (otherChannel ch)).catches snap.cls snap.source = true) :
    n.raiseWith snap = (n.countRaise snap.cls).takeSnapshot ch snap := by
  unfold Notices.raiseWith
  match ch with
  | 0 => exact if_pos caught
  | 1 => exact (if_neg alone).trans (if_pos caught)

/-- R163, step 2. -/
theorem Notices.takeSnapshot_counts {ch : Fin 2} {b : Binding} (bound : (n.capture.get ch).binding = some b)
    (more : 2 ≤ b.remaining) :
    n.takeSnapshot ch snap = { n with
      capture := n.capture.set ch
        { binding := some { b with remaining := b.remaining - 1 }
          buffer := (n.capture.get ch).buffer ++ [snap] } } := by
  rw [Notices.takeSnapshot, bound]
  exact if_neg (Nat.not_le.mpr more)

/-- R163, step 3. -/
theorem Notices.takeSnapshot_last {ch : Fin 2} {b : Binding} (bound : (n.capture.get ch).binding = some b)
    (last : b.remaining ≤ 1) :
    n.takeSnapshot ch snap = ({ n with
      capture := n.capture.set ch
        { binding := none, buffer := (n.capture.get ch).buffer ++ [snap] } } : Notices).countRaise 11 := by
  rw [Notices.takeSnapshot, bound]
  exact if_pos last

end Snapshots

/-- Settles O41: the binding by ARM_CAPTURE's tests, a raise by its class's level and bindings, a snapshot by the channel
that catches its source. -/
theorem captureBindsAndTakes : Obligations.CaptureBindsAndTakes := by
  unfold Obligations.CaptureBindsAndTakes
  intro s q ch snap b c n p other good held counted grown
  have range : good ↔ CaptureRange q.payload :=
    ⟨fun ⟨channel, cls, source, low, high⟩ => ⟨channel, cls, source, low, high⟩,
      fun ⟨channel, cls, source, low, high⟩ => ⟨channel, cls, source, low, high⟩⟩
  have silenced : n.silenced c = true ↔ held 0 ∨ held 1 := n.silenced_iff c
  have bound := (s.notice.capture.get other).boundTo_iff c
  refine ⟨fun t => ⟨fun bad => ?_, fun inside channel classed => ⟨fun twice => ?_, fun free => ?_⟩⟩,
    Notices.countRaise_disabled, fun level => ⟨fun is => ?_, fun not0 not1 => ?_⟩, fun uncaught => ?_,
    fun binding cls source alone => ?_⟩
  · exact exec_taken rfl t (handleArmCapture_outside (mt range.mpr bad))
  · exact exec_taken rfl t
      ((handleArmCapture_inside (c := callOf q) (range.mp inside) channel classed).trans (if_pos (bound.mpr twice)))
  · refine exec_taken rfl t
      ((handleArmCapture_inside (c := callOf q) (range.mp inside) channel classed).trans (if_neg fun twice => ?_))
    obtain ⟨x, is, same⟩ := bound.mp twice
    exact free x is same
  · exact Notices.countRaise_silenced level (silenced.mpr is)
  · exact Notices.countRaise_pending level fun is => (silenced.mp is).elim not0 not1
  · refine Notices.raiseWith_uncaught fun k caught => ?_
    obtain ⟨x, is, cls, source⟩ := (CaptureChannel.catches_iff _ _ _).mp caught
    exact uncaught k x is cls source
  · have caught := (CaptureChannel.catches_iff (n.capture.get ch) snap.cls snap.source).mpr ⟨b, binding, cls, source⟩
    have copied : n.raiseWith snap = counted.takeSnapshot ch snap := by
      refine Notices.raiseWith_caught caught fun caught => ?_
      obtain ⟨x, is, cls, -⟩ := (CaptureChannel.catches_iff _ _ _).mp caught
      exact alone x is cls
    have capture : counted.capture = n.capture := n.countRaise_capture snap.cls
    rw [copied]
    rw [← capture] at binding
    refine ⟨fun more => ?_, fun last => ?_⟩
    · rw [Notices.takeSnapshot_counts binding more, capture]
    · rw [Notices.takeSnapshot_last binding last, capture]

end Sys2Proof.Machine
end

section
/-! The body of a request, written and read (R169), and a frame's body executed as its request. -/

namespace Sys2Proof

/-! ### The kinds (11.5) -/

theorem Kind.takesBoundary_iff (k : Kind) :
    k.takesBoundary = true ↔ k = .setTiming ∨ k = .setChannel ∨ k = .setPlay := by
  cases k <;> decide

theorem Kind.inHold_iff (k : Kind) :
    k.inHold = true ↔ k = .ping ∨ k = .status ∨ k = .release ∨ k = .restart ∨ k = .setLink := by
  cases k <;> decide

/-- R169: no kind character stands where a qualifier could. -/
theorem Kind.code_lt (k : Kind) : k.code < 0xF0 := by
  cases k <;> decide

theorem Kind.ofCode_code (k : Kind) : Kind.ofCode k.code = some k := by
  cases k <;> rfl

theorem Kind.code_inj {k j : Kind} : k.code = j.code ↔ k = j := by
  refine ⟨fun same => ?_, congrArg Kind.code⟩
  have := k.ofCode_code
  rw [same, j.ofCode_code] at this
  exact (Option.some.inj this).symm

/-! ### A body read (R169) -/

theorem readBody_kind (fuel : Nat) (k : Kind) (payload : List Byte) :
    readBody (fuel + 1) (k.code :: payload) =
      { quals := [], count := 0, foreign := false, kindChar := some k.code, payload := payload, short := false } :=
  if_pos k.code_lt

theorem readBody_qualifier (fuel : Nat) (q : Qualifier) (rest : List Byte) :
    readBody (fuel + 1) (q.chars ++ rest) =
      { readBody fuel rest with
        quals := q :: (readBody fuel rest).quals, count := (readBody fuel rest).count + 1 } := by
  cases q <;> rfl

/-- With fuel for each qualifier and the kind, a request's body is read to its end. -/
theorem readBody_request (quals : List Qualifier) (k : Kind) (payload : List Byte) {fuel : Nat}
    (enough : quals.length < fuel) :
    readBody fuel (quals.flatMap Qualifier.chars ++ k.code :: payload) =
      { quals := quals, count := quals.length, foreign := false, kindChar := some k.code, payload := payload,
        short := false } := by
  obtain ⟨fuel, rfl⟩ := Nat.exists_eq_add_one_of_ne_zero (Nat.ne_zero_of_lt enough)
  induction quals generalizing fuel with
  | nil => exact readBody_kind fuel k payload
  | cons q rest ih =>
    rw [List.length_cons] at enough
    obtain ⟨fuel, rfl⟩ := Nat.exists_eq_add_one_of_ne_zero (Nat.ne_zero_of_lt (Nat.lt_of_succ_lt_succ enough))
    rw [List.flatMap_cons, List.append_assoc, readBody_qualifier, ih fuel (Nat.lt_of_succ_lt_succ enough)]
    rfl

/-- Every qualifier has a character of its own. -/
theorem length_le_flatMap_chars (quals : List Qualifier) :
    quals.length ≤ (quals.flatMap Qualifier.chars).length := by
  induction quals with
  | nil => exact Nat.le_refl 0
  | cons q rest ih =>
    have : 1 ≤ q.chars.length := by cases q <;> simp [Qualifier.chars]
    rw [List.flatMap_cons, List.length_append, List.length_cons]
    omega

theorem parseBody_encodeBody (k : Kind) (r : Request) :
    parseBody (encodeBody k r) =
      { quals := r.quals, count := r.quals.length, foreign := false, kindChar := some k.code, payload := r.payload,
        short := false } := by
  refine readBody_request r.quals k r.payload ?_
  have := length_le_flatMap_chars r.quals
  rw [encodeBody, List.length_append]
  omega

end Sys2Proof

namespace Sys2Proof.Machine

/-- Settles O3: by induction on the qualifiers. -/
theorem bodyReadsBack : Obligations.BodyReadsBack :=
  fun k r => ⟨parseBody_encodeBody k r, k.ofCode_code⟩

/-! ### The tests of R169 -/

section Screen

variable {s : State} {k : Kind} {r : Request}

theorem State.screen_tooMany (h : 4 < r.quals.length) : s.screen k r = some .badQualifier := if_pos h

theorem targetFits_iff (k : Kind) (target : Option Byte) :
    targetFits k target = true ↔ ¬ (target.isSome = true ∧ k.target = .no)
      ∧ ¬ (target.isSome = false ∧ k.target = .required) := by
  unfold targetFits
  cases k.target <;> cases target <;> simp

/-- R169, step 4: a TARGET or an AT_BOUNDARY that does not fit. -/
theorem State.screen_misfit (few : r.quals.length ≤ 4)
    (h : targetFits k (lastTarget r.quals) = false
      ∨ r.quals.contains .atBoundary = true ∧ k.takesBoundary = false) :
    s.screen k r = some .badQualifier := by
  refine (if_neg (Nat.not_lt.mpr few)).trans ?_
  rcases h with unfit | ⟨boundary, foreign⟩
  · rw [unfit]
    rfl
  · rw [boundary, foreign]
    exact ite_self _

section Fit

variable (few : r.quals.length ≤ 4) (fits : targetFits k (lastTarget r.quals) = true)
  (boundary : r.quals.contains .atBoundary = true → k.takesBoundary = true)

include few fits boundary

/-- R169: with qualifiers that fit, the length and HOLD are left to be tested. -/
theorem State.screen_fit :
    s.screen k r = if !k.lengthOk r.payload then some .badLength
      else if s.slot.state = .hold && !k.inHold then some .wrongState else none := by
  have taken : (r.quals.contains .atBoundary && !k.takesBoundary) = false := by
    cases asked : r.quals.contains .atBoundary with
    | false => rfl
    | true => rw [boundary asked]; rfl
  unfold State.screen
  rw [if_neg (Nat.not_lt.mpr few), fits, taken]
  rfl

theorem State.screen_length (h : k.lengthOk r.payload = false) : s.screen k r = some .badLength := by
  rw [State.screen_fit few fits boundary, h]
  rfl

theorem State.screen_hold (h : k.lengthOk r.payload = true) (hold : s.slot.state = .hold) (barred : k.inHold = false) :
    s.screen k r = some .wrongState := by
  rw [State.screen_fit few fits boundary, h, hold, barred]
  rfl

end Fit

end Screen

/-- R112, R170: what a refusal by the tests carries. -/
theorem State.refusalData_code (s : State) (k : Kind) :
    s.refusalData k.code = if k = .frameData then chars2 s.store.received else [0] := by
  unfold State.refusalData
  simp only [Kind.code_inj]
  rfl

/-! ### A frame's body executed (R168, R169) -/

section Serve

variable {s : State}

/-- R169, R170: a request that the tests refuse. -/
theorem State.serve_screened {k : Kind} {r : Request} {x : Result} (h : s.screen k r = some x)
    (rule : Call → State → Answer) : s.serve k r rule = s.answering k r x (s.refusalData k.code) := by
  unfold State.serve
  rw [h]
  rfl

/-- R169: a body that no kind's rule sees. -/
theorem State.serveBody_unknown (hit : FilterHit) (body : List Byte)
    (h : (parseBody body).short = true ∨ (parseBody body).foreign = true ∨ 4 < (parseBody body).count
      ∨ (parseBody body).kindChar.bind Kind.ofCode = none) :
    s.serveBody hit body = s.serveUnknown hit (parseBody body) := by
  unfold State.serveBody
  dsimp only
  split
  · rfl
  · next known =>
    simp only [Bool.or_eq_true, decide_eq_true_eq, not_or] at known
    obtain ⟨⟨whole, native⟩, few⟩ := known
    rw [((h.resolve_left whole).resolve_left native).resolve_left few]

/-- R169: the body of a request is executed as that request, a fifth qualifier included. -/
theorem State.serveBody_encodeBody (s : State) (k : Kind) (r : Request) :
    s.serveBody r.hit (encodeBody k r) = s.serve k r (ruleOf k) := by
  by_cases many : 4 < r.quals.length
  · rw [State.serve_screened (State.screen_tooMany many), State.serveBody_unknown, parseBody_encodeBody]
    · simp [State.serveUnknown, many, State.answering, callOf, Call.answered]
    · rw [parseBody_encodeBody]
      exact .inr (.inr (.inl many))
  · unfold State.serveBody
    simp [parseBody_encodeBody, k.ofCode_code, many]

end Serve

end Sys2Proof.Machine
end

section
/-! A frame's way in and out of the link: heard, waiting or overrun (R167, R168), refused by the tests of R169, answered
or recorded (R170, R171), and its reply sent (R168). -/

namespace Sys2Proof.Machine

/-! ### A valid frame's way in (R167, R168) -/

/-- The receiver turned to another state of its own. -/
def State.turned (s : State) (x : Receiver) : State := s.setLink { s.link with receiver := x }

theorem State.turned_turned (s : State) (x y : Receiver) : (s.turned x).turned y = s.turned y := rfl

section Arrive

variable {s : State} (hit : FilterHit) (body : List Byte) (run : State → State)

theorem State.arrive_sending (h : s.link.sending = true) : s.arrive hit body run = s := if_pos h

theorem State.arrive_free (h : s.LinkReady) : s.arrive hit body run = run s.heard := by
  obtain ⟨empty, idle⟩ := h
  simp [State.arrive, Link.sending, Link.busy, empty, idle, State.heard]

section Busy

variable (silent : s.link.sending = false) (busy : s.link.inHand.isSome = true ∨ s.link.restartDue = true)

include silent busy

theorem State.arrive_waits (h : s.link.waiting = none) :
    s.arrive hit body run = s.setLink { s.link with
      receiver := .waitAddress, waiting := some { hit := hit, body := body }
      silenceTimer := if s.link.silenceLimit = 0 then none else some s.link.silenceLimit } := by
  have held : s.link.busy = true := (Bool.or_eq_true _ _).mpr busy
  simp [State.arrive, silent, held, h, Link.restartSilence]

theorem State.arrive_overrun (h : s.link.waiting.isSome = true) : s.arrive hit body run = s.discard .overrun := by
  have held : s.link.busy = true := (Bool.or_eq_true _ _).mpr busy
  simp [State.arrive, silent, held, h]

end Busy

/-- What the receiver was doing is forgotten as soon as a frame is in. -/
theorem State.arrive_turned (silent : s.link.sending = false) (x : Receiver) :
    (s.turned x).arrive hit body run = s.arrive hit body run := by
  have still : (s.turned x).link.sending = false := silent
  rw [State.arrive, State.arrive, silent, still]
  rfl

theorem State.discard_turned (x : Receiver) (e : LinkError) : (s.turned x).discard e = s.discard e := by
  cases e <;> rfl

end Arrive

/-- Settles O7: a message command by its way in. -/
theorem busyLinkMakesAFrameWait : Obligations.BusyLinkMakesAFrameWait := by
  unfold Obligations.BusyLinkMakesAFrameWait
  intro s k r
  rw [exec_commandOf, State.request]
  refine ⟨fun sending => ?_, fun silent busy => ⟨fun free => ?_, fun waits => ?_⟩⟩
  · rw [State.arrive_sending _ _ _ sending]
  · rw [State.arrive_waits _ _ _ silent busy free]
  · rw [State.arrive_overrun _ _ _ silent busy waits]
    rfl

/-! ### Refused by the tests (R169) -/

/-- A request that a test refuses on a free link: nothing but the link moves. -/
theorem exec_screened {s : State} {k : Kind} {r : Request} {x : Result} (free : s.LinkReady)
    (h : s.screen k r = some x) :
    exec (commandOf k r) s = .next (s.heard.answering k r x
      (if k = .frameData then chars2 s.store.received else [0])) := by
  rw [exec_commandOf, State.request, State.arrive_free _ _ _ free,
    State.serve_screened ((State.screen_heard s k r).trans h), State.refusalData_code]
  rfl

/-- Settles O5: the first test of R169 that fails, in order. -/
theorem requestTestsComeInOrder : Obligations.RequestTestsComeInOrder := by
  unfold Obligations.RequestTestsComeInOrder
  intro s k r free detail
  refine ⟨fun many => exec_screened free (State.screen_tooMany many), fun few => ⟨fun misfit => ?_,
    fun fits boundary => ⟨fun short => exec_screened free (State.screen_length few fits boundary short),
      fun long hold ping status release restart setLink => ?_⟩⟩⟩
  · refine exec_screened free (State.screen_misfit few ?_)
    rw [← Bool.not_eq_true, targetFits_iff, ← Bool.not_eq_true k.takesBoundary, k.takesBoundary_iff]
    rcases misfit with given | missing | ⟨boundary, timing, channel, play⟩
    · exact .inl fun fits => fits.1 given
    · exact .inl fun fits => fits.2 missing
    · exact .inr ⟨boundary, not_or.mpr ⟨timing, not_or.mpr ⟨channel, play⟩⟩⟩
  · refine exec_screened free (State.screen_hold few fits boundary long hold ?_)
    rw [← Bool.not_eq_true, k.inHold_iff]
    rintro (is | is | is | is | is)
    · exact ping is
    · exact status is
    · exact release is
    · exact restart is
    · exact setLink is

/-- Settles O9: the body is executed at once, and no kind's rule sees it. -/
theorem unknownKindIsRefused : Obligations.UnknownKindIsRefused := by
  unfold Obligations.UnknownKindIsRefused
  intro s hit body result free refused kindChar detail
  have unknown : s.heard.serveBody hit body = s.heard.serveUnknown hit (parseBody body) := by
    refine State.serveBody_unknown hit body ?_
    rcases refused with ⟨short, -⟩ | ⟨-, foreign | many, -⟩ | ⟨-, -, -, uncatalogued, -⟩
    · exact .inl short
    · exact .inr (.inl foreign)
    · exact .inr (.inr (.inl many))
    · exact .inr (.inr (.inr uncatalogued))
  have code : (if (parseBody body).short then Result.badLength
      else if (parseBody body).foreign || decide (4 < (parseBody body).count) then .badQualifier
      else .badKind) = result := by
    rcases refused with ⟨short, rfl⟩ | ⟨whole, foreign | many, rfl⟩ | ⟨whole, native, few, -, rfl⟩
    · simp [short]
    · simp [whole, foreign]
    · simp [whole, many]
    · simp [whole, native, few]
  change execUnknownKind hit body s = _
  rw [execUnknownKind, State.arrive_free _ _ _ free, unknown, State.serveUnknown, code]
  unfold State.conclude
  simp only [Bool.and_eq_true, beq_iff_eq, Bool.not_eq_true']
  rfl

/-! ### Answered or recorded (R170, R171) -/

section Answer

variable {t : State} {k : Kind} {r : Request} {x : Result} {data : List Byte}

theorem State.answering_replies (own : r.hit = .unit) (loud : r.quals.contains .quiet = false) :
    t.answering k r x data = t.setLink { t.link with
      inHand := some { reply := { kind := k.code + 0x80, result := x, payload := data }, sending := false } } :=
  if_pos ((callOf_answered r).mpr ⟨own, loud⟩)

theorem State.answering_records (h : r.hit ≠ .unit ∨ r.quals.contains .quiet = true) :
    t.answering k r x data = t.setLink (t.link.record { kind := k.code, hit := r.hit, result := x }) := by
  refine if_neg fun answered => ?_
  obtain ⟨own, loud⟩ := (callOf_answered r).mp answered
  exact h.elim (· own) fun quiet => Bool.false_ne_true (loud.symm.trans quiet)

/-- R171: the oldest of four entries leaves for the new one. -/
theorem Link.record_eq (l : Link) (e : Unanswered) :
    l.record e = { l with
      unanswered := (if 4 ≤ l.unanswered.length then l.unanswered.drop 1 else l.unanswered) ++ [e] } := by
  simp only [Link.record, Config.unansweredLimit, ← Nat.not_le, ite_not]

end Answer

section Transmit

variable {l : Link} {y : InHand}

theorem Link.transmits_sending (held : l.inHand = some y) (h : y.sending = true) :
    l.transmits = some (l.replyFrame y.reply) := by
  rw [Link.transmits, held]
  exact if_pos h

theorem Link.transmits_unsent (held : l.inHand = some y) (h : y.sending = false) : l.transmits = none := by
  rw [Link.transmits, held]
  exact if_neg (Bool.eq_false_iff.mp h)

theorem Link.transmits_empty (h : l.inHand = none) : l.transmits = none := by
  rw [Link.transmits, h]

end Transmit

/-- Settles O8: by whether a reply is due, and what stands in hand. -/
theorem answeredOrRecorded : Obligations.AnsweredOrRecorded := by
  unfold Obligations.AnsweredOrRecorded
  intro t k r x data y
  refine ⟨State.answering_replies, fun h => ?_, fun held sending => ?_, Link.transmits_empty,
    Link.transmits_unsent, rfl⟩
  · rw [State.answering_records h, Link.record_eq]
  · rw [Link.transmits_sending held sending]
    rfl

/-! ### The reply's start and end (R168) -/

section Reply

variable {s : State} {x : InHand}

theorem Link.sending_some (held : s.link.inHand = some x) : s.link.sending = x.sending := by
  rw [Link.sending, held]

theorem exec_replyStart_unsent (held : s.link.inHand = some x) (h : x.sending = false) :
    exec .replyStart s = .next (s.replyBegins x) := by
  change execReplyStart s = _
  rw [execReplyStart, held]
  exact congrArg _ (if_neg (Bool.eq_false_iff.mp h))

theorem exec_replyStart_sending (held : s.link.inHand = some x) (h : x.sending = true) :
    exec .replyStart s = .next s := by
  change execReplyStart s = _
  rw [execReplyStart, held]
  exact congrArg _ (if_pos h)

theorem exec_replyStart_empty (h : s.link.inHand = none) : exec .replyStart s = .next s := by
  change execReplyStart s = _
  rw [execReplyStart, h]

theorem exec_replyComplete_sending (h : s.link.sending = true) : exec .replyComplete s = .next s.replyEnds :=
  congrArg _ (if_pos h)

theorem exec_replyComplete_silent (h : s.link.sending = false) : exec .replyComplete s = .next s :=
  congrArg _ (if_neg (Bool.eq_false_iff.mp h))

theorem State.replyEnds_last (h : s.link.restartDue = true ∨ s.link.waiting = none) :
    s.replyEnds = s.setLink { s.link with inHand := none } := by
  unfold State.replyEnds
  rcases h with due | alone
  · exact if_pos due
  · rw [alone]
    exact ite_self _

theorem State.replyEnds_next {w : WaitingFrame} (free : s.link.restartDue = false) (h : s.link.waiting = some w) :
    s.replyEnds = (s.setLink { s.link with inHand := none, waiting := none }).serveBody w.hit w.body := by
  unfold State.replyEnds
  rw [free, h]
  rfl

end Reply

/-- Settles O10: by what stands in hand, what is being received and what waits. -/
theorem replyHoldsTheLineUntilItsEnd : Obligations.ReplyHoldsTheLineUntilItsEnd := by
  unfold Obligations.ReplyHoldsTheLineUntilItsEnd
  intro s x
  have ends (held : s.link.inHand = some x) (sending : x.sending = true) : exec .replyComplete s = .next s.replyEnds :=
    exec_replyComplete_sending ((Link.sending_some held).trans sending)
  refine ⟨fun held unsent waits => ?_, fun hit chars held unsent receives => ?_, exec_replyStart_sending,
    exec_replyStart_empty, fun held sending h => ?_, fun w held sending free waits => ?_, exec_replyComplete_silent⟩
  · rw [exec_replyStart_unsent held unsent, State.replyBegins, waits]
    dsimp only
    rw [← waits]
  · rw [exec_replyStart_unsent held unsent, State.replyBegins, receives]
    rfl
  · rw [ends held sending, State.replyEnds_last h]
  · rw [ends held sending, State.replyEnds_next free waits]

end Sys2Proof.Machine
end

section
/-! The receiver (R166, R167): addresses accepted, characters heard, frames assembled and checked; and a request's frame
fed to it character by character. -/

namespace Sys2Proof.Machine

/-! ### Addresses (R166) -/

section Accepts

variable {l : Link} {v : Byte}

/-- R165: a unit address is neither the host's 0 nor the broadcast's 255. -/
theorem Link.unitAddress_bounds (l : Link) : 1 ≤ l.unitAddress ∧ l.unitAddress ≤ 32 := by
  have := l.straps.slot.isLt
  unfold Link.unitAddress
  omega

/-- R166: the group filter agrees in every bit that its mask leaves to it. -/
theorem groupFilter_iff (v code mask : Byte) :
    ((v ^^^ code) &&& ~~~mask == 0) = true
      ↔ ∀ i, i < 8 → mask.getLsbD i = false → v.getLsbD i = code.getLsbD i := by
  rw [beq_iff_eq]
  refine ⟨fun agrees i low unmasked => ?_, fun h => BitVec.eq_of_getLsbD_eq fun i low => ?_⟩
  · have bit := congrArg (·.getLsbD i) agrees
    simpa only [BitVec.getLsbD_and, BitVec.getLsbD_xor, BitVec.getLsbD_not, BitVec.ofNat_eq_ofNat, BitVec.getLsbD_zero,
      low, unmasked, decide_true, Bool.not_false, Bool.and_true, bne_eq_false_iff_eq] using bit
  · cases masked : mask.getLsbD i with
    | true => simp [masked]
    | false => simp [h i low masked]

theorem Link.accepts_unit : l.accepts v = some .unit ↔ v.toNat = l.unitAddress := by
  have bounds := l.unitAddress_bounds
  unfold Link.accepts
  by_cases zero : v = 0
  · subst zero
    simp
    omega
  · by_cases own : v.toNat = l.unitAddress
    · rw [if_neg zero, if_pos own]
      exact ⟨fun _ => own, fun _ => rfl⟩
    · rw [if_neg zero, if_neg own]
      refine ⟨fun h => ?_, fun h => (own h).elim⟩
      (repeat' split at h) <;> cases h

theorem Link.accepts_broadcast : l.accepts v = some .broadcast ↔ v = 255 := by
  have bounds := l.unitAddress_bounds
  unfold Link.accepts
  by_cases all : v = 255
  · subst all
    have other : (255 : Byte).toNat ≠ l.unitAddress := by
      change 255 ≠ l.unitAddress
      omega
    rw [if_neg (by decide), if_neg other, if_pos rfl]
    exact ⟨fun _ => rfl, fun _ => rfl⟩
  · refine ⟨fun h => ?_, fun h => (all h).elim⟩
    rw [if_neg all] at h
    (repeat' split at h) <;> cases h

theorem Link.accepts_group : l.accepts v = some .group ↔
    v ≠ 0 ∧ v ≠ 255 ∧ v.toNat ≠ l.unitAddress ∧ l.groupEnable = true
      ∧ ∀ i, i < 8 → l.groupMask.getLsbD i = false → v.getLsbD i = l.groupCode.getLsbD i := by
  rw [← groupFilter_iff]
  unfold Link.accepts
  split
  · next zero => simp [zero]
  · split
    · next own => simp [own]
    · split
      · next all => simp [all]
      · next zero own all =>
        simp only [Option.ite_none_right_eq_some, and_true, Bool.and_eq_true, ne_eq, zero, own, all,
          not_false_eq_true, true_and]

end Accepts

/-! ### Characters heard (R166, R167) -/

section Hear

variable {s : State} {c : LineChar} {hit : FilterHit} {soFar : List Byte}

theorem exec_lineCharacter_sending (h : s.link.sending = true) (c : LineChar) :
    exec (.lineCharacter c) s = .next s :=
  congrArg _ (if_pos h)

theorem exec_lineCharacter_heard (silent : s.link.sending = false) (c : LineChar) :
    exec (.lineCharacter c) s = .next (s.hear c) :=
  congrArg _ (if_neg (Bool.eq_false_iff.mp silent))

theorem exec_lineCharacterTimeout_waiting (h : s.link.receiver = .waitAddress) :
    exec .lineCharacterTimeout s = .next s := by
  change execLineCharacterTimeout s = _
  rw [execLineCharacterTimeout, h]

theorem exec_lineCharacterTimeout_sending (h : s.link.sending = true) : exec .lineCharacterTimeout s = .next s := by
  change execLineCharacterTimeout s = _
  unfold execLineCharacterTimeout
  split
  · rw [if_pos h]
  · rfl

theorem exec_lineCharacterTimeout_receiving (silent : s.link.sending = false)
    (h : s.link.receiver = .receiving hit soFar) : exec .lineCharacterTimeout s = .next (s.discard .timeout) := by
  change execLineCharacterTimeout s = _
  rw [execLineCharacterTimeout, h]
  exact congrArg _ (if_neg (Bool.eq_false_iff.mp silent))

theorem State.hear_waiting (h : s.link.receiver = .waitAddress) (dull : c.stopOk = false ∨ c.mark = false) :
    s.hear c = s := by
  rw [State.hear, h]
  refine if_neg fun address => ?_
  obtain ⟨stop, mark⟩ := (Bool.and_eq_true _ _).mp address
  exact dull.elim (fun bad => Bool.false_ne_true (bad.symm.trans stop))
    fun data => Bool.false_ne_true (data.symm.trans mark)

/-- R166, R167: an address character is examined whatever was being received. -/
theorem State.hear_address (stop : c.stopOk = true) (mark : c.mark = true) :
    s.hear c = s.setLink (s.link.examine c.value) := by
  unfold State.hear
  split <;> simp [stop, mark]

theorem Link.examine_accepted {l : Link} {v : Byte} (h : l.accepts v = some hit) :
    l.examine v = { l with receiver := .receiving hit [] } := by
  rw [Link.examine, h]

theorem Link.examine_other {l : Link} {v : Byte} (h : l.accepts v = none) :
    l.examine v = { l with receiver := .waitAddress } := by
  rw [Link.examine, h]

theorem State.hear_noStop (h : s.link.receiver = .receiving hit soFar) (stop : c.stopOk = false) :
    s.hear c = s.discard .character := by
  rw [State.hear, h]
  simp [stop]

theorem State.hear_data (h : s.link.receiver = .receiving hit soFar) (stop : c.stopOk = true) (mark : c.mark = false) :
    s.hear c = s.assemble hit soFar c.value := by
  rw [State.hear, h]
  simp [stop, mark]

end Hear

/-! ### Frames assembled (R167) -/

theorem badLengthChar_iff (soFar : List Byte) (v : Byte) :
    badLengthChar soFar v = true ↔ soFar.length = 1 ∧ (v = 0 ∨ 248 < v.toNat) := by
  simp only [badLengthChar, Bool.and_eq_true, Bool.or_eq_true, beq_iff_eq, decide_eq_true_eq,
    ← BitVec.toNat_inj]
  rfl

theorem frameComplete_iff (chars : List Byte) :
    frameComplete chars = true ↔ 2 ≤ chars.length ∧ chars.length = (chars.getD 1 0).toNat + 4 := by
  match chars with
  | [] => simp [frameComplete]
  | [_] => simp [frameComplete]
  | _ :: n :: rest => simp [frameComplete]

theorem checkOk_iff (chars : List Byte) :
    checkOk chars = true
      ↔ crc16 (chars.take (chars.length - 2)) = BitVec.ofNat 16 (u16At chars (chars.length - 2)) := by
  rw [checkOk, beq_iff_eq]

section Assemble

variable {s : State} {hit : FilterHit} {soFar : List Byte} {v : Byte}

theorem State.assemble_badLength (h : soFar.length = 1 ∧ (v = 0 ∨ 248 < v.toNat)) :
    s.assemble hit soFar v = s.discard .character :=
  if_pos ((badLengthChar_iff soFar v).mpr h)

variable (good : ¬ (soFar.length = 1 ∧ (v = 0 ∨ 248 < v.toNat)))

include good

theorem State.assemble_goesOn (h : frameComplete (soFar ++ [v]) = false) :
    s.assemble hit soFar v = s.turned (.receiving hit (soFar ++ [v])) :=
  (if_neg (mt (badLengthChar_iff soFar v).mp good)).trans (if_neg (Bool.eq_false_iff.mp h))

theorem State.assemble_ends (h : frameComplete (soFar ++ [v]) = true) :
    s.assemble hit soFar v = s.frameEnds hit (soFar ++ [v]) :=
  (if_neg (mt (badLengthChar_iff soFar v).mp good)).trans (if_pos h)

end Assemble

section Ends

variable {s : State} {hit : FilterHit} {chars : List Byte}

theorem State.frameEnds_bad (h : checkOk chars = false) : s.frameEnds hit chars = s.discard .crc :=
  if_neg (Bool.eq_false_iff.mp h)

theorem State.frameEnds_good (h : checkOk chars = true) :
    s.frameEnds hit chars = s.arrive hit (bodyOf chars) fun t => t.serveBody hit (bodyOf chars) :=
  if_pos h

/-- A frame's end does not ask what the receiver was doing. -/
theorem State.frameEnds_turned (silent : s.link.sending = false) (x : Receiver) :
    (s.turned x).frameEnds hit chars = s.frameEnds hit chars := by
  cases check : checkOk chars with
  | true => rw [State.frameEnds_good check, State.frameEnds_good check, State.arrive_turned _ _ _ silent]
  | false => rw [State.frameEnds_bad check, State.frameEnds_bad check, State.discard_turned]

end Ends

/-- Settles O11: by what the receiver is doing, what it hears, and whether the frame is complete and its check right. -/
theorem receiverRules : Obligations.ReceiverRules := by
  unfold Obligations.ReceiverRules
  intro s c hit soFar
  refine ⟨fun sending => ⟨exec_lineCharacter_sending sending c, exec_lineCharacterTimeout_sending sending⟩,
    fun silent waits => ⟨fun dull => ?_, exec_lineCharacterTimeout_waiting waits⟩,
    fun silent stop mark => ⟨fun h accepted => ?_, fun other => ?_⟩,
    fun silent receives => ⟨exec_lineCharacterTimeout_receiving silent receives, fun bad => ?_, ?_⟩,
    fun v => ⟨Link.accepts_unit, Link.accepts_broadcast, Link.accepts_group⟩⟩
  · rw [exec_lineCharacter_heard silent, State.hear_waiting waits dull]
  · rw [exec_lineCharacter_heard silent, State.hear_address stop mark, Link.examine_accepted accepted]
  · rw [exec_lineCharacter_heard silent, State.hear_address stop mark, Link.examine_other other]
  · rw [exec_lineCharacter_heard silent]
    cases stop : c.stopOk with
    | false =>
      rw [State.hear_noStop receives stop]
      rfl
    | true =>
      obtain ⟨mark, length⟩ := bad.resolve_left (by rw [stop]; exact Bool.noConfusion)
      rw [State.hear_data receives stop mark, State.assemble_badLength length]
      rfl
  · intro stop mark good chars complete agrees
    rw [exec_lineCharacter_heard silent, State.hear_data receives stop mark]
    have whole : frameComplete chars = true ↔ complete := frameComplete_iff chars
    have checked : checkOk chars = true ↔ agrees := checkOk_iff chars
    refine ⟨fun part => ?_, fun ends wrong => ?_, fun ends right => ?_⟩
    · rw [State.assemble_goesOn good (Bool.eq_false_iff.mpr (mt whole.mp part))]
      rfl
    · rw [State.assemble_ends good (whole.mpr ends),
        State.frameEnds_bad (Bool.eq_false_iff.mpr (mt checked.mp wrong))]
      rfl
    · have body : (chars.drop 2).take (chars.getD 1 0).toNat = bodyOf chars := by
        rw [bodyOf, ends.2, Nat.add_sub_cancel]
      rw [State.assemble_ends good (whole.mpr ends), State.frameEnds_good (checked.mpr right), body]
      rfl

/-! ### A frame fed character by character (R167, R173) -/

/-- A data character with its stop bit. -/
def dataChar (v : Byte) : LineChar := { value := v, mark := false, stopOk := true }

theorem lineFrame_eq (address source : Byte) (body : List Byte) :
    lineFrame address source body = { value := address, mark := true, stopOk := true }
      :: (source :: BitVec.ofNat 8 body.length :: body
        ++ chars2 (crc16 (source :: BitVec.ofNat 8 body.length :: body)).toNat).map dataChar := rfl

section Feed

variable {s : State} {hit : FilterHit}

theorem exec_dataChar (silent : s.link.sending = false) (soFar : List Byte) (v : Byte) :
    exec (.lineCharacter (dataChar v)) (s.turned (.receiving hit soFar))
      = .next ((s.turned (.receiving hit soFar)).assemble hit soFar v) := by
  rw [exec_lineCharacter_heard (s := s.turned (.receiving hit soFar)) silent,
    State.hear_data (hit := hit) (soFar := soFar) rfl rfl rfl]
  rfl

/-- R167: a character that neither spoils nor ends the frame is taken in. -/
theorem execAll_goesOn (silent : s.link.sending = false) {soFar : List Byte} {v : Byte}
    (good : ¬ (soFar.length = 1 ∧ (v = 0 ∨ 248 < v.toNat))) (part : frameComplete (soFar ++ [v]) = false)
    (rest : List Byte) :
    execAll (((v :: rest).map dataChar).map Instr.lineCharacter) (s.turned (.receiving hit soFar))
      = execAll ((rest.map dataChar).map Instr.lineCharacter) (s.turned (.receiving hit (soFar ++ [v]))) := by
  rw [List.map_cons, List.map_cons, execAll, exec_dataChar silent, State.assemble_goesOn good part,
    State.turned_turned]

/-- R167: after source and length, the rest of a frame is taken in up to its last check character. -/
theorem execAll_rest (silent : s.link.sending = false) (source length : Byte) (got more : List Byte)
    (left : more ≠ []) (whole : got.length + more.length = length.toNat + 2) :
    execAll ((more.map dataChar).map Instr.lineCharacter) (s.turned (.receiving hit (source :: length :: got)))
      = .next (s.frameEnds hit (source :: length :: got ++ more)) := by
  induction more generalizing got with
  | nil => exact (left rfl).elim
  | cons v rest ih =>
    have good : ¬ ((source :: length :: got).length = 1 ∧ (v = 0 ∨ 248 < v.toNat)) := by simp
    rw [List.length_cons] at whole
    cases rest with
    | nil =>
      have ends : frameComplete (source :: length :: got ++ [v]) = true := by simpa [frameComplete] using whole
      rw [List.map_cons, List.map_cons, execAll, exec_dataChar silent, State.assemble_ends good ends,
        State.frameEnds_turned silent]
      rfl
    | cons w rest =>
      rw [List.length_cons] at whole
      have part : frameComplete (source :: length :: got ++ [v]) = false := by
        simp [frameComplete]
        omega
      rw [execAll_goesOn silent good part, List.append_cons (source :: length :: got) v (w :: rest)]
      exact ih (got ++ [v]) (List.cons_ne_nil w rest)
        (by rw [List.length_append, List.length_cons, List.length_cons, List.length_nil]; omega)

/-- R166, R167: a frame for an accepted address is taken in to its end. -/
theorem execAll_lineFrame (silent : s.link.sending = false) {address : Byte} (source : Byte) {body : List Byte}
    (accepted : s.link.accepts address = some hit) (low : 1 ≤ body.length) (high : body.length ≤ 248) :
    execAll ((lineFrame address source body).map Instr.lineCharacter) s
      = .next (s.frameEnds hit (source :: BitVec.ofNat 8 body.length :: body
          ++ chars2 (crc16 (source :: BitVec.ofNat 8 body.length :: body)).toNat)) := by
  have fits : (BitVec.ofNat 8 body.length).toNat = body.length := by
    rw [BitVec.toNat_ofNat]
    omega
  rw [lineFrame_eq]
  generalize BitVec.ofNat 8 body.length = length at fits ⊢
  have examined : s.hear { value := address, mark := true, stopOk := true } = s.turned (.receiving hit []) := by
    rw [State.hear_address rfl rfl, Link.examine_accepted accepted]
    rfl
  have good : ¬ ([source].length = 1 ∧ (length = 0 ∨ 248 < length.toNat)) := by
    rintro ⟨-, rfl | above⟩
    · exact absurd fits.symm (Nat.ne_of_gt low)
    · omega
  have part : frameComplete [source, length] = false := by simp [frameComplete]
  generalize check : chars2 (crc16 (source :: length :: body)).toNat = tail
  have two : tail.length = 2 := by rw [← check]; rfl
  have more : body ++ tail ≠ [] := List.append_ne_nil_of_right_ne_nil _ (by rintro rfl; cases two)
  have whole : ([] : List Byte).length + (body ++ tail).length = length.toNat + 2 := by
    rw [List.length_append, List.length_nil, two, fits, Nat.zero_add]
  rw [List.map_cons, execAll, exec_lineCharacter_heard silent, examined]
  exact (execAll_goesOn silent (by simp) rfl _).trans
    ((execAll_goesOn silent good part _).trans (execAll_rest silent source length [] (body ++ tail) more whole))

/-- R167: the check of a frame as it was sent is right. -/
theorem checkOk_sent (data : List Byte) : checkOk (data ++ chars2 (crc16 data).toNat) = true := by
  have low := (crc16 data).isLt
  have length : (data ++ chars2 (crc16 data).toNat).length - 2 = data.length := by
    rw [List.length_append]
    rfl
  have value : u16At (data ++ chars2 (crc16 data).toNat) data.length = (crc16 data).toNat := by
    simp [u16At, byteAt, chars2]
    omega
  rw [checkOk_iff, length, value, List.take_left, BitVec.ofNat_toNat, BitVec.setWidth_eq]

theorem bodyOf_sent (source length : Byte) (body : List Byte) (check : Nat) :
    bodyOf (source :: length :: body ++ chars2 check) = body := by
  have whole : (source :: length :: body ++ chars2 check).length - 4 = body.length := by
    simp [chars2]
  rw [bodyOf, whole]
  exact List.take_left

end Feed

/-- Settles O4: the frame is taken in to its end, its check is right, and its body is executed as its request. -/
theorem frameOnTheLineActsAsItsCommand : Obligations.FrameOnTheLineActsAsItsCommand := by
  unfold Obligations.FrameOnTheLineActsAsItsCommand
  intro s k r address source silent accepted length
  obtain ⟨low, high⟩ := (Bool.and_eq_true _ _).mp length
  rw [execAll_lineFrame silent source accepted (of_decide_eq_true low) (of_decide_eq_true high),
    State.frameEnds_good (checkOk_sent _), bodyOf_sent, exec_commandOf, State.request]
  simp only [State.serveBody_encodeBody]

end Sys2Proof.Machine
end

section
/-! What a request's rule leaves when it refuses (R169, R170): nothing changed, kind by kind. -/

namespace Sys2Proof.Machine

/-! ### Answers (R170) -/

/-- R170: an answer that refuses leaves the state it found. -/
def Answer.Spares (a : Answer) (s : State) : Prop := a.result.taken = false → a.state = s

section Answers

variable {s t : State}

/-- A request that is taken refuses nothing. -/
theorem Answer.Spares.taken {a : Answer} (h : a.result.taken = true) : a.Spares s :=
  fun refused => (Bool.false_ne_true (refused.symm.trans h)).elim

@[simp] theorem Answer.spares_same (x : Result) (data : List Byte) :
    ({ state := s, result := x, data := data } : Answer).Spares s := fun _ => rfl

@[simp] theorem Answer.spares_done (data : List Byte) :
    ({ state := t, result := .ok, data := data } : Answer).Spares s := .taken rfl

@[simp] theorem Answer.spares_accepted (data : List Byte) :
    ({ state := t, result := .accepted, data := data } : Answer).Spares s := .taken rfl

@[simp] theorem State.ok_spares : t.ok.Spares s := .taken rfl

@[simp] theorem State.stored_spares (clamped : Bool) : (t.stored clamped).Spares s :=
  .taken (by cases clamped <;> rfl)

@[simp] theorem State.report_spares (data : List Byte) : (s.report data).Spares s := fun _ => rfl

@[simp] theorem State.refuse_spares (x : Result) (detail : Nat) : (s.refuse x detail).Spares s := fun _ => rfl

end Answers

/-! ### The message rules (11.5) -/

/-- R10: each check of START that fails refuses in place; only past the last is the run begun. -/
theorem State.tryStart_spares (s : State) (choice : StartChoice) : (s.tryStart choice).Spares s := by
  unfold State.tryStart
  split
  · exact State.refuse_spares _ _
  · split
    · exact State.refuse_spares _ _
    · split
      · exact State.refuse_spares _ _
      · exact State.refuse_spares _ _
      · split
        · exact State.refuse_spares _ _
        · exact State.ok_spares

/-- Every branch of every message rule either takes the request or leaves the state it found. -/
theorem ruleOf_spares (k : Kind) (c : Call) (s : State) : (ruleOf k c s).Spares s := by
  cases k with
  -- Never refused by their own rule.
  | ping | status | readZones | readRails => exact State.report_spares _
  | release | restart => exact State.ok_spares
  | readUnanswered | purgeFrames => exact .taken rfl
  | start =>
    simp only [ruleOf, handleStart]
    split
    · exact State.refuse_spares _ _
    · split
      · exact s.tryStart_spares _
      · exact State.refuse_spares _ _
      · exact State.refuse_spares _ _
  -- One test, of the slot state or of the payload.
  | go => simp only [ruleOf, handleGo]; split <;> simp
  | stop => simp only [ruleOf, handleStop]; split <;> simp
  | pause => simp only [ruleOf, handlePause]; split <;> simp
  | resume => simp only [ruleOf, handleResume]; split <;> simp
  | reidentify => simp only [ruleOf, handleReidentify]; split <;> simp
  | exerciseStart => simp only [ruleOf, handleExerciseStart]; split <;> simp
  | exerciseStop => simp only [ruleOf, handleExerciseStop]; split <;> simp
  | setLink => simp only [ruleOf, handleSetLink]; split <;> simp
  | ackClasses => simp only [ruleOf, handleAckClasses]; split <;> simp
  | linkStats => simp only [ruleOf, handleLinkStats]; split <;> simp
  | readRecipe => simp only [ruleOf, handleReadRecipe]; split <;> simp
  | readStore => simp only [ruleOf, handleReadStore]; split <;> simp
  | readSockets => simp only [ruleOf, handleReadSockets]; split <;> simp
  | fetchFailures => simp only [ruleOf, handleFetchFailures]; split <;> simp
  -- Tests one inside the other.
  | clearSafe => simp only [ruleOf, handleClearSafe]; (repeat' split) <;> simp
  | retireSocket => simp only [ruleOf, handleRetireSocket]; (repeat' split) <;> simp
  | setClass => simp only [ruleOf, handleSetClass]; (repeat' split) <;> simp
  | readIdentity => simp only [ruleOf, handleReadIdentity]; (repeat' split) <;> simp
  | loadRecipe => simp only [ruleOf, handleLoadRecipe]; (repeat' split) <;> simp
  | setZone => simp only [ruleOf, handleSetZone]; (repeat' split) <;> simp
  | setRail => simp only [ruleOf, handleSetRail]; (repeat' split) <;> simp
  | setBudget => simp only [ruleOf, handleSetBudget]; (repeat' split) <;> simp
  | setTiming => simp only [ruleOf, handleSetTiming]; (repeat' split) <;> simp
  | setChannel => simp only [ruleOf, handleSetChannel]; (repeat' split) <;> simp
  | setPlay => simp only [ruleOf, handleSetPlay]; (repeat' split) <;> simp
  | frameOpen => simp only [ruleOf, handleFrameOpen]; (repeat' split) <;> simp
  | frameData => simp only [ruleOf, handleFrameData]; (repeat' split) <;> simp
  | frameCancel => simp only [ruleOf, handleFrameCancel]; (repeat' split) <;> simp
  | armCapture => simp only [ruleOf, handleArmCapture]; (repeat' split) <;> simp
  | readCapture => simp only [ruleOf, handleReadCapture]; (repeat' split) <;> simp

/-- Settles O6: kind by kind. -/
theorem refusalChangesNothing : Obligations.RefusalChangesNothing := ruleOf_spares

end Sys2Proof.Machine
end

section
/-! PING, STATUS, READ_ZONES and READ_RAILS: the pending classes in their order (R159), the attention mark (R158), and
the layouts of R173. -/

namespace Sys2Proof.Machine

/-! ### The pending classes (R158, R159) -/

section Pending

variable {n : Notices}

/-- The levels from the highest down, as R159 lists the classes. -/
theorem mem_levels (v : Nat) : v ∈ [7, 6, 5, 4, 3, 2, 1, 0] ↔ v ≤ 7 := by
  simp only [List.mem_cons, List.not_mem_nil, or_false]
  omega

theorem mem_pendingAt (level : Nat) (c : Fin 12) :
    c ∈ (List.finRange 12).filter (fun c => (n.classes.get c).pending && (n.classes.get c).level == level)
      ↔ (n.classes.get c).pending = true ∧ (n.classes.get c).level = level := by
  simp

theorem Notices.mem_pendingOrder (n : Notices) (c : Fin 12) :
    c ∈ n.pendingOrder ↔ (n.classes.get c).pending = true ∧ (n.classes.get c).level ≤ 7 := by
  rw [Notices.pendingOrder, List.mem_flatMap, ← mem_levels]
  constructor
  · rintro ⟨level, listed, pending⟩
    obtain ⟨flag, rfl⟩ := (mem_pendingAt level c).mp pending
    exact ⟨flag, listed⟩
  · rintro ⟨flag, listed⟩
    exact ⟨_, listed, (mem_pendingAt _ c).mpr ⟨flag, rfl⟩⟩

/-- R159: by descending level, equal levels by ascending number. -/
theorem Notices.pendingOrder_sorted (n : Notices) :
    n.pendingOrder.Pairwise fun a b => (n.classes.get b).level < (n.classes.get a).level
      ∨ ((n.classes.get a).level = (n.classes.get b).level ∧ a < b) := by
  rw [Notices.pendingOrder, List.pairwise_flatMap]
  constructor
  · intro level _
    refine ((List.pairwise_lt_finRange 12).filter _).imp_of_mem fun {a b} ha hb ascending => ?_
    obtain ⟨-, first⟩ := (mem_pendingAt level a).mp ha
    obtain ⟨-, second⟩ := (mem_pendingAt level b).mp hb
    exact .inr ⟨first.trans second.symm, ascending⟩
  · have descending : [7, 6, 5, 4, 3, 2, 1, 0].Pairwise fun x y : Nat => y < x := by decide
    refine descending.imp fun {x y} lower a ha b hb => .inl ?_
    obtain ⟨-, rfl⟩ := (mem_pendingAt x a).mp ha
    obtain ⟨-, rfl⟩ := (mem_pendingAt y b).mp hb
    exact lower

/-- R158: the attention mark. -/
theorem Notices.attnLow_iff (n : Notices) :
    n.attnLow = true ↔ ∃ c, (n.classes.get c).pending = true ∧ 1 ≤ (n.classes.get c).level
      ∧ n.threshold ≤ (n.classes.get c).level := by
  rw [Notices.attnLow, Bank.any_cells]
  simp [and_assoc]

end Pending

/-! ### The layouts (R172, R159, R98, R108, R55) -/

theorem ZoneRec.chars_eq (z : ZoneRec) :
    z.chars = [BitVec.ofNat 8 z.state.code] ++ charsInt z.setpoint ++ chars2 z.window ++ chars2 z.margin
      ++ [BitVec.ofNat 8 z.kp, BitVec.ofNat 8 z.ki] ++ chars2 z.code
      ++ (match z.temperature with | some t => charsInt t | none => [0x80, 0])
      ++ [BitVec.ofNat 8 z.invalidRun, if z.inWindow then 1 else 0] ++ chars4 z.breaches.toNat
      ++ chars2 z.integrator ++ chars2 z.u ++ chars2 z.granted ++ [if z.limited then 1 else 0]
      ++ chars2 z.appliedDuty := by
  cases held : z.temperature <;>
    simp [ZoneRec.chars, held, charsTemperature, chars1, charsFlag, charsWord32]

theorem BudgetRec.chars_eq (b : BudgetRec) :
    b.chars = chars2 b.budget ++ chars2 b.pDutUsed ++ chars2 b.demand ++ chars2 b.allowance
      ++ [if b.scaled then 1 else 0, BitVec.ofNat 8 b.overRun, if b.hold then 1 else 0] := by
  simp [BudgetRec.chars, chars1, charsFlag]

theorem RailRec.chars_eq (r : RailRec) :
    r.chars = [BitVec.ofNat 8 r.state.code, if r.used then 1 else 0,
        match r.order with | some o => BitVec.ofNat 8 o | none => 255]
      ++ chars2 r.setpoint ++ chars2 r.window ++ chars2 r.settle ++ chars2 r.sampleV ++ chars2 r.sampleI
      ++ [if r.inWindow then 1 else 0] ++ chars4 r.excursions.toNat
      ++ [BitVec.ofNat 8 r.outRun, if r.settleTimer.isSome then 1 else 0] := by
  cases place : r.order <;>
    simp [RailRec.chars, place, chars1, charsFlag, charsWord32]

section Reports

variable (c : Call) (s : State)

theorem handlePing_eq :
    handlePing c s = s.report [match s.slot.restartCause with | .powerOn => 0 | .pin => 1 | .command => 2,
      BitVec.ofNat 8 s.link.unitAddress] := by
  unfold handlePing
  cases s.slot.restartCause <;> rfl

/-- R159: the marks one by one, then the pending classes in their order. -/
theorem handleStatus_eq :
    handleStatus c s = s.report ([BitVec.ofNat 8 s.slot.state.code, BitVec.ofNat 8 s.slot.endCause.code,
        if s.slot.paused then 1 else 0, BitVec.ofNat 8 s.exer.state.code, if s.exer.holdRequested then 1 else 0,
        if s.therm.slotBudget.scaled then 1 else 0, if s.therm.slotBudget.hold then 1 else 0,
        if s.attnLow then 1 else 0, BitVec.ofNat 8 s.notice.pendingOrder.length]
      ++ s.notice.pendingOrder.flatMap fun k =>
        [BitVec.ofNat 8 k.val, BitVec.ofNat 8 (s.notice.classes.get k).count]) := rfl

theorem handleReadZones_eq :
    handleReadZones c s =
      s.report (s.therm.zones.cells.flatMap ZoneRec.chars ++ s.therm.slotBudget.chars) := rfl

theorem handleReadRails_eq :
    handleReadRails c s = s.report (chars2 s.pDut ++ s.rail.rails.cells.flatMap RailRec.chars) := rfl

end Reports

/-- Settles O37: each kind by what its rule reports, the layouts character by character. -/
theorem reportsReadTheRecords : Obligations.ReportsReadTheRecords := by
  unfold Obligations.ReportsReadTheRecords
  intro s q flag one
  refine ⟨fun t => exec_taken rfl t (handlePing_eq _ _), fun t => ⟨s.notice.pendingOrder, s.attnLow,
    s.notice.mem_pendingOrder, s.notice.pendingOrder_sorted, s.notice.attnLow_iff,
    exec_taken rfl t (handleStatus_eq _ _)⟩, fun t => ?_, fun t => ?_⟩
  · rw [exec_taken rfl t (handleReadZones_eq _ _), BudgetRec.chars_eq, funext ZoneRec.chars_eq]
    simp only [← List.append_assoc]
    rfl
  · rw [exec_taken rfl t (handleReadRails_eq _ _), funext RailRec.chars_eq]
    rfl

end Sys2Proof.Machine
end
